-- ==== Sys2Proof/Word.lean ====
section
/-! DEFINITION. The words of the Ardmel 320 (00_scope section 0.7): quantities with their widths, sets as masks,
and the plain record of three axis values. -/

namespace Sys2Proof

/-- One byte of a payload or of the configuration image. -/
abbrev Byte := BitVec 8
/-- Length or position in lu, a signed 32-bit value (Table 1-3). -/
abbrev Lu := BitVec 32
/-- Temperature in 0.01 degrees, or a temperature rate, a signed 16-bit value (Table 1-3). -/
abbrev Temp := BitVec 16
/-- Station clock in ms, unsigned 32-bit, wrapping (Table 1-3). -/
abbrev Clock := BitVec 32
/-- Zone set mask (Table 1-4). -/
abbrev ZoneSet := BitVec 16
/-- Slot set mask (Table 1-4). -/
abbrev SlotSet := BitVec 8
/-- Station set mask (Table 1-4). -/
abbrev StationSet := BitVec 8
/-- Item set mask: zones are bits 15 to 0, slots bits 23 to 16 (Table 1-4). -/
abbrev ItemSet := BitVec 24
/-- A station number, 0 to 7 (section 0.7.3). -/
abbrev Station := Fin 8
/-- A probe ID or any other 16-bit identity. -/
abbrev ProbeId := BitVec 16

/-- One value for each of the axes X, Y and Z. -/
structure Vec3 (α : Type) where
  x : α
  y : α
  z : α
  deriving DecidableEq, Repr

/-- The three axes (section 0.7.2). -/
inductive AxisName where
  | x | y | z
  deriving DecidableEq, Repr

/-- The two ends of an axis (R6). -/
inductive Side where
  | minus | plus
  deriving DecidableEq, Repr

end Sys2Proof
end

