-- ==== Sys2Proof/Syntax.lean ====
section
/-! DEFINITION. The commands of the block: one constructor of Instr for each row of spec/opcode_table.json, with its
operands, and the types of those operands. A command frame's operand is its payload, byte for byte; a share frame's
operands are its Sequence field and the fields its table gives. -/

namespace Sys2Proof

/-- The strap pins sampled at cold reset (R176). -/
structure Straps where
  station : Station
  rate : Fin 4
  rackHost : Bool
  deriving DecidableEq, Repr

/-- A station's role in the cell (Table 4-2). -/
inductive Role where
  | arm | planner
  deriving DecidableEq, Repr

/-- Roster states (Table 4-2). -/
inductive RosterState where
  | absent | joining | attached | lost
  deriving DecidableEq, Repr

/-- Join states as PRESENCE shows them (Table 3-7). -/
inductive JoinShown where
  | listening | joining | attached | joinConflict | quiet
  deriving DecidableEq, Repr

/-- Arm states (Table 2-4). -/
inductive ArmState where
  | off | still | homing | claiming | moving | decelerating | ringWait
  deriving DecidableEq, Repr

/-- Run states (Table 2-3). -/
inductive RunState where
  | none | active | held | starved
  deriving DecidableEq, Repr

/-- The payload of a JOIN (Table 5-2). -/
structure JoinFields where
  role : Role
  standing : ZoneSet
  founding : Bool
  serves : Bool
  deriving DecidableEq, Repr

/-- One roster entry (Table 4-2). -/
structure RosterEntry where
  state : RosterState
  role : Role
  serves : Bool
  conflict : ZoneSet
  published : ZoneSet
  deriving DecidableEq, Repr

/-- Holder of a share item; `fenced n` is holder FENCED with fenced-from n (Table 4-3). -/
inductive Holder where
  | free
  | station (n : Station)
  | fenced (n : Station)
  deriving DecidableEq, Repr

/-- Contents of a rack slot (section 8.1). -/
inductive Contents where
  | empty
  | probe (id : ProbeId)
  | unknown
  deriving DecidableEq, Repr

/-- Sensed presence of a rack slot (section 8.1). -/
inductive Sensed where
  | notReported | present | absent
  deriving DecidableEq, Repr

/-- The slot fields of an item record (Table 4-3). -/
structure SlotRec where
  contents : Contents
  sensed : Sensed
  deriving DecidableEq, Repr

/-- Why a snapshot image was captured (R84). -/
inductive CaptureCause where
  | join | takeover
  deriving DecidableEq, Repr

/-- What one SNAPSHOT part carries (Table 5-3): part 1 the roster, parts 2 to 4 eight item records each (the slot
fields only in part 4), part 5 the pending claims list. -/
inductive PartBody where
  | roster (cause : CaptureCause) (entries : List RosterEntry)
  | zonesLow (holders : List Holder)
  | zonesHigh (holders : List Holder)
  | slots (holders : List Holder) (slots : List SlotRec)
  | claims (entries : List (Station × ItemSet))
  deriving DecidableEq, Repr

/-- One SNAPSHOT part (Table 5-3). -/
structure SnapshotPart where
  seq : BitVec 16
  body : PartBody
  deriving DecidableEq, Repr

/-- The payload of a PRESENCE frame (Table 3-7). `mountedState` is NONE, RESOLVED or UNRESOLVED (0 to 2). -/
structure PresenceFields where
  role : Role
  join : JoinShown
  configFault : Bool
  arm : ArmState
  run : RunState
  owner : Option Station
  referenced : Byte
  standing : ZoneSet
  mountedState : Byte
  mountedId : BitVec 16
  lastFault : Byte
  shareSeq : BitVec 16
  shadow : Bool
  deriving DecidableEq, Repr

/-- The header of a frame (Table 3-1). -/
structure FrameHeader where
  cls : BitVec 2
  source : Station
  kind : BitVec 6
  dest : BitVec 4
  length : BitVec 6
  seq : BitVec 16
  deriving DecidableEq, Repr

/-- What a receiver that received a frame correctly has read of it when the cell makes it void: the header, and the join state that
a PRESENCE shows (R80). -/
structure VoidFrame where
  header : FrameHeader
  shown : Option JoinShown
  deriving DecidableEq, Repr

/-- Why a receiver abandons a frame (R44). -/
inductive AbandonCause where
  | stuffViolation
  | header (h : FrameHeader)
  deriving DecidableEq, Repr

/-- The commands of the block: one constructor per row of the table, in the table's order. -/
inductive Instr where
  | coldReset (straps : Straps)
  | configLoadEnd (memory : List Byte) (headHigh : Bool) (slotInputs : SlotSet)
  | scaleStep (axis : AxisName) (forward : Bool)
  | scaleCountFault (axis : AxisName)
  | scaleFaultInput (axis : AxisName)
  | referenceMark (axis : AxisName)
  | seekEnd (beyond : BitVec 32)
  | hwLimitAsserted (axis : AxisName) (side : Side)
  | followingError (axis : AxisName) (since : BitVec 32)
  | estop
  | seg (sender : Station) (payload : List Byte)
  | go (sender : Station) (payload : List Byte)
  | hold (sender : Station) (payload : List Byte)
  | goOn (sender : Station) (payload : List Byte)
  | stop (sender : Station) (payload : List Byte)
  | home (sender : Station) (payload : List Byte)
  | drivesOn (sender : Station) (payload : List Byte)
  | drivesOff (sender : Station) (payload : List Byte)
  | change (sender : Station) (payload : List Byte)
  | qualify (sender : Station) (payload : List Byte)
  | probedef (sender : Station) (payload : List Byte)
  | part (sender : Station) (payload : List Byte)
  | reportmark (sender : Station) (payload : List Byte)
  | evmask (sender : Station) (payload : List Byte)
  | shadowOn (sender : Station) (payload : List Byte)
  | shadowOff (sender : Station) (payload : List Byte)
  | askStatus (sender : Station) (payload : List Byte)
  | askPosition (sender : Station) (payload : List Byte)
  | askChannel (sender : Station) (payload : List Byte)
  | askPeer (sender : Station) (payload : List Byte)
  | askProbe (sender : Station) (payload : List Byte)
  | askPoint (sender : Station) (payload : List Byte)
  | askQueue (sender : Station) (payload : List Byte)
  | askShare (sender : Station) (payload : List Byte)
  | askIdent (sender : Station) (payload : List Byte)
  | restart (sender : Station) (payload : List Byte)
  | cellStop (sender : Station) (reason : Byte)
  | lost (sender : Station) (seq : BitVec 16) (stations : StationSet)
  | join (sender : Station) (seq : BitVec 16) (fields : JoinFields)
  | foundingJoin
  | observedFoundingJoin (sender : Station) (seq : BitVec 16) (fields : JoinFields)
  | attach (sender : Station) (seq : BitVec 16)
  | leave (sender : Station) (seq : BitVec 16)
  | claim (sender : Station) (seq : BitVec 16) (items : ItemSet)
  | withdraw (sender : Station) (seq : BitVec 16)
  | release (sender : Station) (seq : BitVec 16) (items : ItemSet)
  | clear (sender : Station) (seq : BitVec 16) (item : Byte)
  | slotSet (sender : Station) (seq : BitVec 16) (slot : Byte) (contents : BitVec 16)
  | slotSense (sender : Station) (seq : BitVec 16) (presences : SlotSet)
  | snapshot (sender : Station) (part : SnapshotPart)
  | thermal (sender : Station) (payload : List Byte)
  | presence (sender : Station) (fields : PresenceFields)
  | otherFrameAccepted (sender : Station)
  | receivedFrameVoid (frame : VoidFrame)
  | crcVeto
  | frameAbandoned (cause : AbandonCause)
  | frameBegin
  | arbitrationLost
  | arbitrationWon
  | bitError
  | ownFrameAccepted
  | ownFrameVoid
  | presenceTimerExpiry
  | peerSilence (peer : Station)
  | isolation
  | joinWindowExpiry
  | joinWaitExpiry
  | quietEnd
  | leaveWaitEnd
  | claimTimerExpiry
  | reportTimerExpiry
  | cadenceTimerExpiry
  | conversionEnd (reading : Temp)
  | scanCompletion
  | soakLimitExpiry
  | dwellEnd
  | triggerEdge (high : Bool)
  | falseTrigger
  | contactAccepted
  | headFilterEnd (seated : Bool)
  | slotFilterEnd (slot : Fin 8) (present : Bool)
  | idReadEnd (lines : Option (BitVec 16))
  | lockPulseEnd
  | releaseTimeExpiry
  | seatTimeExpiry
  | travelComplete
  | controlledStopEnd (further : BitVec 32)
  | backOffEnd
  | excursionArrival
  | returnMoveEnd
  | changeMoveArrival
  | transferLegEnd
  | estopCleared
  | scaleFaultCleared (axis : AxisName)
  | hwLimitCleared (axis : AxisName) (side : Side)
  | triggerReturnUnasserted (high : Bool)
  deriving DecidableEq, Repr

end Sys2Proof
end

