-- ==== Sys2Proof/Config.lean ====
section
/-! DEFINITION. What an implementation fixes and the spec leaves open: free values. None of them has a body, so nothing
proved about the model can rest on the value of one. -/

namespace Sys2Proof

/-- Free value: how far setpoints that went `speed` lu in the last millisecond go in the next one of a stop, decelerating at the
rates of the three axes (R32). The spec gives neither the unit of a rate nor how the three rates act on one path, so the value is
free, and a stop goes no farther in a millisecond than in the one before it (log 8). The last argument is a fresh number each
time. -/
opaque Config.advanceInStop : (rates : Vec3 (BitVec 32)) → (speed fresh : Nat) → Nat

/-- Free value: the highest deceleration that an axis allows, at which a fast stop is made (R32). The image holds no field for it
(log 8). -/
opaque Config.highestDeceleration : AxisName → BitVec 32

/-- Free value: the drive demand of an axis. R3 forms it from the rate at which the setpoint moves (in lu in a millisecond), from the
difference between setpoint and position, and with the two gains of the axis; the spec gives no formula, unit or range (log 53). -/
opaque Config.driveDemand : (positionGain feedGain : BitVec 16) → (rate difference : Int) → Int

/-- Free value: what a length result reads when the exact result lies outside the signed 32-bit range of Table 1-3
(the spec states no result there; log 9). The argument is the exact result. -/
opaque Config.luOutOfRange : Int → BitVec 32

/-- Free value: the byte that an ASK view sends for a field whose codes the spec does not give (log 16). The arguments
are a number for the field and the value's place in the list of its values. -/
opaque Config.viewCode : Nat → Nat → BitVec 8

/-- Free value: the bytes that an ASK view sends for an absent value for which the spec gives no code (log 16). The
arguments are a number for the field and the place of the byte. -/
opaque Config.absentByte : Nat → Nat → BitVec 8

/-- Free value: the detail byte of NO_PROBE at a touch when the mounted probe is resolved with a record, but is not the
probe under qualification (R143 refers to R105, which gives no detail for it; log 23). -/
opaque Config.noProbeOtherDetail : BitVec 8

/-- Free value: a coordinate of the back-off target after a probing travel of zero length, whose direction R103 does not
give (log 35). The arguments are a fresh number and the axis code. -/
opaque Config.backOffUndirected : Nat → Nat → BitVec 32

end Sys2Proof
end

