-- ==== Sys2Proof/Machine/State.lean ====
section
/-! DEFINITION. Everything the spec gives the Ardmel 320 to hold (INVENTORY.md, State), as plain data, and the state
right after reset. The types stand in the order of the chapters; each names the table or rule it follows. -/

namespace Sys2Proof.Machine

open Sys2Proof

/-! ## Faults, refusals -/

/-- A step's fault. The spec gives every command an effect in every state, so no command ends a run and this type has
no constructor: nothing raises one. (The 21 fault codes of R171 are state, see `FaultCode`.) -/
inductive Fault where
  deriving DecidableEq, Repr

/-- A step's refusal. -/
inductive Refusal where
  /-- Raised by exec's arm of a command that has no meaning yet, and by nothing else (safe: the run stops). Every
  command has its meaning, so no arm raises it. -/
  | notModelled (mnemonic : String)
  deriving DecidableEq, Repr

/-! ## The configuration image (chapter 13) -/

/-- One axis of the axes and homing sections (Table 13-1). -/
structure AxisConf where
  resolution : BitVec 16
  senseNegative : Bool
  softMin : Lu
  softMax : Lu
  following : BitVec 32
  positionGain : BitVec 16
  feedGain : BitVec 16
  deceleration : BitVec 32
  reference : Lu
  homeMinus : Bool
  homeFeed : BitVec 16
  deriving DecidableEq, Repr

/-- Geometry of one rack slot (Table 8-2). -/
structure SlotGeom where
  approach : Vec3 Lu
  dock : Vec3 Lu
  deriving DecidableEq, Repr

/-- Trigger polarity (Table 6-1). -/
inductive Polarity where
  | rising | falling
  deriving DecidableEq, Repr

/-- The defined fields of a probe record (Table 6-1), as PROBEDEF and the image carry them. -/
structure ProbeDef where
  id : ProbeId
  radius : Lu
  offset : Vec3 Lu
  polarity : Polarity
  width : BitVec 16
  deriving DecidableEq, Repr

/-- Configuration of one local channel (Table 10-1). -/
structure ChannelConf where
  enabled : Bool
  shared : Bool
  shift : Byte
  openAt : Temp
  shortAt : Temp
  deriving DecidableEq, Repr

/-- A source of a role: a local channel, or a watched pair (Table 11-1). -/
inductive Source where
  | local (channel : Byte)
  | peer (station : Byte) (channel : Byte)
  deriving DecidableEq, Repr

/-- A role's primary source and optional fallback (Table 11-1). -/
structure RoleConf where
  primary : Source
  fallback : Option Source
  deriving DecidableEq, Repr

/-- The configuration image (Table 13-1). -/
structure Image where
  axes : Vec3 AxisConf
  order : List AxisName
  homeZones : ZoneSet
  powerOnStanding : ZoneSet
  homeStanding : ZoneSet
  rack : List SlotGeom
  sphereCentre : Vec3 Lu
  sphereDiameter : BitVec 32
  sphereApproach : Vec3 Lu
  clearance : BitVec 32
  park : Vec3 Lu
  rackCorridor : ZoneSet
  sphereCorridor : ZoneSet
  parkCorridor : ZoneSet
  excursionFeed : BitVec 16
  dockFeed : BitVec 16
  touchFeed : BitVec 16
  retract : BitVec 32
  pulseWidth : BitVec 16
  releaseTime : BitVec 16
  seatTime : BitVec 16
  claimTimeout : Byte
  probeDefs : List ProbeDef
  channels : List ChannelConf
  cadence : BitVec 16
  ageLimit : BitVec 16
  watch : List (Byte × Byte)
  roles : List RoleConf
  scaleCoeff : Vec3 (BitVec 16)
  rateLimit : BitVec 16
  settleTime : BitVec 16
  policyFlag : Bool
  band : BitVec 16
  tolerance : BitVec 32
  autoQualify : Bool
  reportLevel : Byte
  reportTimeout : BitVec 16
  eventMask : BitVec 16
  lowMark : Byte
  soakLimit : BitVec 16
  deriving DecidableEq, Repr

/-- Load states of the configuration loader (chapter 13). -/
inductive LoadState where
  | reading | loaded | fault
  deriving DecidableEq, Repr

/-- What start-up fixes: the straps, the load state, the image copy and the format code last read (R176 to R180). -/
structure Setup where
  straps : Straps
  load : LoadState
  image : Option Image
  format : BitVec 16
  deriving DecidableEq, Repr

/-! ## Axes and faults (chapter 1, R171) -/

/-- One axis channel (Table 1-6). -/
structure AxisChannel where
  count : BitVec 32
  scale : Lu
  pos : Lu
  setpoint : Lu
  referenced : Bool
  minusLimit : Bool
  plusLimit : Bool
  scaleFault : Bool
  deriving DecidableEq, Repr

/-- Fault codes in the order of R171, FOLLOW being code 1. -/
inductive FaultCode where
  | follow | scale | limit | homeFail | zoneTimeout | unrefAxis | noProbe | qualStale | probeDeflected | probeNoisy
  | noContact | collision | noSlot | slotUnknown | changeStuck | changeEmpty | changeMismatch | changeUnread
  | soakTimeout | qualFail | qualNoTemp
  deriving DecidableEq, Repr

/-- A fault with its detail byte and value field (Table 12-8). -/
structure FaultReport where
  code : FaultCode
  detail : Byte
  value : BitVec 32
  deriving DecidableEq, Repr

/-! ## The move queue and runs (chapter 2) -/

/-- The travel of a MOVE or PROBE segment (Table 2-1). -/
structure TravelSpec where
  target : Vec3 Lu
  feed : BitVec 16
  need : ZoneSet
  endSet : ZoneSet
  deriving DecidableEq, Repr

/-- What a segment orders, with the fields its kind carries (Table 2-1). -/
inductive SegmentBody where
  | move (t : TravelSpec)
  | probe (missOk : Bool) (t : TravelSpec)
  | dwell (ms : BitVec 16)
  | change (id : ProbeId)
  | qualify
  deriving DecidableEq, Repr

/-- A segment record (Table 2-1). -/
structure Segment where
  tag : BitVec 16
  last : Bool
  body : SegmentBody
  deriving DecidableEq, Repr

/-- Kinds of excursion (Table 9-1). -/
inductive ExcursionKind where
  | change | qualify | soak
  deriving DecidableEq, Repr

/-- A return record of the excursion stack (Table 9-1). -/
structure ReturnRecord where
  kind : ExcursionKind
  position : Vec3 Lu
  standing : ZoneSet
  need : Option ZoneSet
  serves : Bool
  deriving DecidableEq, Repr

/-- Run end reasons (R22, Table 12-6). -/
inductive RunEndReason where
  | lastDone | stopped | cellStopped | estop | fault | ownerLost | detached
  deriving DecidableEq, Repr

/-- Run control (chapter 2): run state, owner, move queue (oldest first), current segment, excursion stack (newest
first). -/
structure Run where
  st : RunState
  owner : Option Station
  queue : List Segment
  current : Option Segment
  stack : List ReturnRecord
  deriving DecidableEq, Repr

/-- Motion origins (Table 2-5). -/
inductive Origin where
  | segment | backOff | excursion | touch | seek
  deriving DecidableEq, Repr

/-- The moves of a change (R125). -/
inductive ChangeMove where
  | dropApproach | dropDock | leaveDrop | pickApproach | pickDock | leavePick
  deriving DecidableEq, Repr

/-- What the current motion is for. `inPlace` is a step of an excursion that keeps the arm in place (R137). -/
inductive MotionAct where
  | travel
  | dwell
  | backOff
  | seek (axis : AxisName)
  | moveOut
  | returnMove
  | leg
  | touch
  | touchBack
  | changeMove (m : ChangeMove)
  | inPlace
  deriving DecidableEq, Repr

/-- The current motion (Table 2-5). `startedAt` is the place it started from (R103's direction) and `gone` the distance its
setpoints have gone along its path (R3); `slowed` is its advance in the last millisecond of a stop, in lu, none before a stop's
first (R32); `probing` marks a probing travel, `atTarget` one that waits at its target for a pending latch, `thenHeld` a motion
after which the run becomes HELD (R103). -/
structure Motion where
  act : MotionAct
  origin : Origin
  startedAt : Vec3 Lu
  target : Option (Vec3 Lu)
  feed : Option (BitVec 16)
  required : ZoneSet
  dwellLeft : Option (BitVec 16)
  falseTriggers : Nat
  atTarget : Bool
  thenHeld : Bool
  gone : Nat := 0
  slowed : Option Nat := none
  probing : Bool := false
  deriving DecidableEq, Repr

/-- What the motion controller is to start next (the model's form of R26, R27, R34 and R138): it waits here while the
arm is CLAIMING or in RING_WAIT for it, while the run is HELD, and until the arm is STILL. -/
inductive Start where
  | segment
  | segmentPastRing
  | dwellOn (left : BitVec 16)
  | backOff (target : Vec3 Lu)
  | home
  | changeBegin
  | changeClaim
  | changeMove (m : ChangeMove)
  | moveOut
  | beginReturn
  | returnMove
  | leg
  | touch
  | touchPastRing
  | touchBack
  deriving DecidableEq, Repr

/-- What a stop in progress leads to at its standstill (R22, R32, R33, R103). -/
inductive AfterStop where
  /-- A hold: the motion is started again by GO_ON (R34). -/
  | resume
  /-- The run ends (R22). -/
  | endRun (reason : RunEndReason) (reasonByte : Byte)
  /-- Nothing but STILL. -/
  | still
  /-- A probing travel's contact: the back-off is formed (R103). -/
  | backOff
  deriving DecidableEq, Repr

/-- A stop in progress (R32). `held`: the run becomes HELD at the standstill, or for `backOff` after the back-off when
`afterBackOff` is set (R33, R103). `byFault`: a fast stop that a fault has made. -/
structure Stopping where
  fast : Bool
  after : AfterStop
  held : Bool
  afterBackOff : Bool
  byFault : Bool := false
  deriving DecidableEq, Repr

/-- The motion controller (chapter 2), with the referencing in progress (section 1.6). -/
structure Arm where
  st : ArmState
  energized : Bool
  motion : Option Motion
  todo : Option Start
  itemsHeld : Bool
  stopping : Option Stopping
  begun : ZoneSet
  standing : ZoneSet
  shadow : Bool
  phys : ZoneSet
  seeks : List AxisName
  markMet : Bool
  deriving DecidableEq, Repr

/-! ## The share table and the claim agent (chapter 4) -/

/-- An entry of the pending claims list; `noted` is the station clock noted beside it (R65). -/
structure ClaimEntry where
  station : Station
  items : ItemSet
  noted : Clock
  deriving DecidableEq, Repr

/-- The share table (Table 4-1): sequence, 8 roster entries, 24 item holders, 8 slot records, pending claims list
(oldest first). Beside it, and no part of its content, the answering station (R84). -/
structure Table where
  seq : BitVec 16
  roster : List RosterEntry
  holders : List Holder
  slots : List SlotRec
  claims : List ClaimEntry
  answering : Option Station
  deriving DecidableEq, Repr

/-- Requesters of the claim agent (Table 4-5). -/
inductive Requester where
  | motion | lookahead | home | excursion | change | conflict
  deriving DecidableEq, Repr

/-- Phases of the current claim (Table 4-5). -/
inductive ClaimPhase where
  | queued | pending | expiring
  deriving DecidableEq, Repr

/-- The current claim (Table 4-5): `items` is the claimed (missing) set, `wanted` the set the requester wants held
(R77), `timer` the clock value from which the claim timer runs, `serial` the number by which its CLAIM frames are told from
those of other claims. -/
structure CurrentClaim where
  requester : Requester
  wanted : ItemSet
  items : ItemSet
  phase : ClaimPhase
  timer : Option Clock
  serial : Nat
  deriving DecidableEq, Repr

/-- Phases of the retired claim (Table 4-5). -/
inductive RetiredPhase where
  | retiring | withdrawing
  deriving DecidableEq, Repr

/-- The retired claim (Table 4-5), with the number of its CLAIM frames. -/
structure RetiredClaim where
  items : ItemSet
  phase : RetiredPhase
  serial : Nat
  deriving DecidableEq, Repr

/-- The claim agent (Table 4-5). `formed` is the number of claims formed since the table was taken, and `applying` the claim
whose CLAIM has been accepted and whose application is to come. -/
structure Agent where
  current : Option CurrentClaim
  retired : Option RetiredClaim
  formed : Nat := 0
  applying : Option Nat := none
  deriving DecidableEq, Repr

/-! ## Probes and the head (chapters 6, 8, 9) -/

/-- Qualification states (Table 6-1). -/
inductive QualState where
  | unqualified | qualified | stale
  deriving DecidableEq, Repr

/-- Qualified data of a probe record (Table 6-1). -/
structure QualData where
  offset : Vec3 Lu
  radius : Lu
  temp : Temp
  deriving DecidableEq, Repr

/-- A probe record (Table 6-1). -/
structure ProbeRecord where
  defined : ProbeDef
  qual : QualState
  data : Option QualData
  homeSlot : Option (Fin 8)
  deriving DecidableEq, Repr

/-- Result of an identity read: an identity or UNREADABLE (R99). -/
inductive ReadResult where
  | id (i : ProbeId)
  | unreadable
  deriving DecidableEq, Repr

/-- The mounted-probe record (section 6.1). -/
inductive Mounted where
  | none
  | resolved (id : ProbeId)
  | unresolved (r : ReadResult)
  deriving DecidableEq, Repr

/-- An identity read in flight (R99): who waits for its result, and whether the head emptied during it. -/
structure IdRead where
  emptied : Bool
  forHead : Bool
  forChange : Bool
  forJudge : Bool
  deriving DecidableEq, Repr

/-- The two lock pulse outputs (R100). -/
inductive PulseKind where
  | lock | unlock
  deriving DecidableEq, Repr

/-- A lock pulse in flight or waiting: the change that requested it, and whether its output is driven (R100, R132). -/
structure Pulse where
  kind : PulseKind
  change : Nat
  driven : Bool
  deriving DecidableEq, Repr

/-- Head sensing, ID reader and lock pulse generator (R98 to R100). -/
structure Head where
  seated : Bool
  idRead : Option IdRead
  lastRead : Option ReadResult
  pulse : Option Pulse
  waiting : Option Pulse
  deriving DecidableEq, Repr

/-- A pending latch: the latched positions and the minimum width read at the edge, in µs (R101). -/
structure Latch where
  position : Vec3 Lu
  width : BitVec 16
  deriving DecidableEq, Repr

/-- The trigger qualifier (R101, R107). -/
structure Trigger where
  high : Bool
  latch : Option Latch
  blocked : Bool
  deriving DecidableEq, Repr

/-- Change steps (Table 8-3). `begin` is the wait for an identity read before the slots are chosen (R123). -/
inductive ChangeStep where
  | begin | claim | toDrop | unlock | leaveDrop | toPick | lock | ident | leavePick | done
  deriving DecidableEq, Repr

/-- What the change record waits for inside a step that keeps the arm in place (R126, R127). -/
inductive ChangeWait where
  | none | pulse | release (since : Clock) | seat (since : Clock) | relock | read
  deriving DecidableEq, Repr

/-- Change outcomes (Table 12-6). -/
inductive ChangeOutcome where
  | done | noneNeeded | failed | aborted
  deriving DecidableEq, Repr

/-- The change record (R123). `serial` is the change's number, `window` the change window, `wait` what the step waits for,
`failing` the fault that the change raises when its move back arrives (R126, R127). -/
structure ChangeRecord where
  serial : Nat
  step : ChangeStep
  target : ProbeId
  pick : Option (Fin 8)
  drop : Option (Fin 8)
  dropped : Option ReadResult
  read : Option ReadResult
  byCommand : Bool
  window : Bool
  wait : ChangeWait
  failing : Option FaultCode
  deriving DecidableEq, Repr

/-- The change controller: the change record; the changes that have ended with their window still open, by number, and those
whose head is being judged (R129); whether the CHANGE on the stack ended NONE_NEEDED (R138); whether it ended DONE while the
arm was not free to go on with it (R13); the number of changes begun. -/
structure Changer where
  change : Option ChangeRecord
  closing : List (Nat × ChangeOutcome)
  judging : List ChangeOutcome
  stayed : Bool
  parked : Bool := false
  begun : Nat := 0
  deriving DecidableEq, Repr

/-- The qualification unit (section 9.5): probe ID under qualification, touch in progress (1 to 5), results so far
(touch 1 first), the latched result of the touch in progress, and the legs left of a transfer with what follows them. -/
structure Qualification where
  id : ProbeId
  touch : Nat
  results : List Lu
  latched : Option Lu
  legs : List (Vec3 Lu)
  returning : Bool
  deriving DecidableEq, Repr

/-! ## Points (chapter 7) -/

/-- Quality of a role value (R158). -/
inductive Quality where
  | good | degraded | none
  deriving DecidableEq, Repr

/-- One role's value, quality and source rate (R158, R159). -/
structure RoleValue where
  value : Option Temp
  quality : Quality
  rate : Option Temp
  deriving DecidableEq, Repr

/-- Point flags (Table 7-2). -/
structure PointFlags where
  unsettled : Bool
  degraded : Bool
  uncorrected : Bool
  shadow : Bool
  deriving DecidableEq, Repr

/-- A point record (Table 7-1). -/
structure Point where
  number : BitVec 16
  tag : BitVec 16
  report : Station
  time : Clock
  raw : Vec3 Lu
  tip : Vec3 Lu
  corrected : Vec3 Lu
  probe : ProbeId
  radius : Lu
  temps : List (Option Temp × Quality)
  flags : PointFlags
  deriving DecidableEq, Repr

/-- The capture unit and ring (chapter 7), ring oldest first. -/
structure Capture where
  ring : List Point
  counter : BitVec 16
  level : Byte
  timeout : BitVec 16
  drain : Bool
  deriving DecidableEq, Repr

/-- Part coefficient and part datum (R160). -/
structure PartData where
  coeff : BitVec 16
  datum : Vec3 Lu
  deriving DecidableEq, Repr

/-! ## Temperatures (chapters 10 and 11) -/

/-- States of a local channel or peer entry (R147, Table 10-4). -/
inductive ChannelState where
  | fresh | subst | unavailable | off
  deriving DecidableEq, Repr

/-- A local channel record (Table 10-2). -/
structure Channel where
  raw : Option Temp
  filtered : Option Temp
  history : List Temp
  rate : Option Temp
  st : ChannelState
  since : Option Clock
  deriving DecidableEq, Repr

/-- A peer entry (Table 10-4). -/
structure PeerEntry where
  station : Byte
  channel : Byte
  value : Option Temp
  st : ChannelState
  cadence : Option (BitVec 16)
  history : List Temp
  rate : Option Temp
  updated : Option Clock
  since : Option Clock
  deriving DecidableEq, Repr

/-- Judgement of one conversion (R149). -/
inductive Judged where
  | good (v : Temp)
  | bad
  deriving DecidableEq, Repr

/-- A scan in flight: channels still to be converted, and judged results (R148, R149). -/
structure Scan where
  left : List Nat
  results : List (Nat × Judged)
  deriving DecidableEq, Repr

/-- The thermal unit (chapters 10 and 11). `cadence` is the clock value at which the cadence timer was last loaded. -/
structure Thermal where
  channels : List Channel
  peers : List PeerEntry
  cadence : Option Clock
  scan : Option Scan
  roles : List RoleValue
  settled : Bool
  steadySince : Option Clock
  deriving DecidableEq, Repr

/-! ## Events and replies (chapter 12) -/

/-- Segment outcomes (Table 12-6). -/
inductive SegOutcome where
  | done | contact | miss
  deriving DecidableEq, Repr

/-- Qualification outcomes (Table 12-6). -/
inductive QualOutcome where
  | done | failed | aborted | simulated
  deriving DecidableEq, Repr

/-- Detach causes (R91, Table 12-6). -/
inductive DetachCause where
  | isolated | declaredLost | mismatch | vetoLimit | voidLimit | mailboxFull
  deriving DecidableEq, Repr

/-- An occurrence with its detail: one constructor per event kind, in kind order (Table 12-6). -/
inductive Event where
  | fault (r : FaultReport) (position : Vec3 Lu)
  | runEnd (reason : RunEndReason) (reasonByte : Byte)
  | changeEnd (outcome : ChangeOutcome) (mounted : BitVec 16)
  | qualEnd (outcome : QualOutcome) (radius : Lu)
  | segDone (tag : BitVec 16) (outcome : SegOutcome)
  | refill (count : Byte)
  | starved
  | claimWait (items : ItemSet)
  | settle (settled : Bool)
  | detach (cause : DetachCause)
  | attach
  | shadow (on : Bool)
  deriving DecidableEq, Repr

/-- One kind of the event set: its pending detail if it is pending, and its renewal mark (section 12.5). -/
structure EventSlot where
  pending : Option Event
  renewed : Bool
  deriving DecidableEq, Repr

/-- The event set (section 12.5): twelve kinds in kind order, enable mask, event address. -/
structure EventSet where
  slots : List EventSlot
  mask : BitVec 16
  address : Option Station
  deriving DecidableEq, Repr

/-- Result codes (Table 12-1). -/
inductive Result where
  | ok | state | owner | full | bad | unref | noProbe
  deriving DecidableEq, Repr

/-- One field of a view, in its width (R169). `code` is a field whose codes the spec does not give (number of the
field, value); `absent` an absent value for which it gives none (number of the field, width in bytes). -/
inductive ViewField where
  | u8 (v : Byte)
  | u16 (v : BitVec 16)
  | u24 (v : BitVec 24)
  | u32 (v : BitVec 32)
  | code (field : Nat) (value : Nat)
  | absent (field : Nat) (width : Nat)
  deriving DecidableEq, Repr

/-- A REPLY (R167): addressee, kind code of the command, result, data. -/
structure Reply where
  dest : Station
  kind : Byte
  result : Result
  data : List ViewField
  deriving DecidableEq, Repr

/-! ## The line controller and the join unit (chapters 3 and 5) -/

/-- A share frame with its payload (Table 3-3). -/
inductive ShareFrame where
  | lost (stations : StationSet)
  | join (fields : JoinFields)
  | attach
  | leave
  | claim (items : ItemSet)
  | withdraw
  | release (items : ItemSet)
  | clear (item : Byte)
  | slotSet (slot : Byte) (contents : BitVec 16)
  | slotSense (presences : SlotSet)
  deriving DecidableEq, Repr

/-- An entry of M1 (Table 3-6). A JOIN's payload is taken when its frame begins, so only its founding mark is held
(R80). A CLAIM carries beside its items the number of the claim that it belongs to, which is no part of the frame. -/
inductive M1Entry where
  | join (founding : Bool)
  | attach
  | leave
  | claim (items : ItemSet) (serial : Nat)
  | withdraw
  | release (items : ItemSet)
  | slotSet (slot : Fin 8) (contents : Contents)
  | slotSense (presences : SlotSet)
  deriving DecidableEq, Repr

/-- A part held in M2, with its addressee (R54). -/
structure M2Part where
  dest : Station
  part : SnapshotPart
  deriving DecidableEq, Repr

/-- The content of a THERMAL frame (R152): cadence, and channel number, state and value of each carried channel. -/
structure ThermalContent where
  cadence : BitVec 16
  carried : List (Nat × ChannelState × Temp)
  deriving DecidableEq, Repr

/-- What a frame on the line carries, by the mailbox that offered it (Table 3-6). -/
inductive TxContent where
  | lost (stations : StationSet)
  | share (entry : M1Entry) (frame : ShareFrame)
  | snapshot (p : M2Part)
  | reply (r : Reply)
  | event (carried : List Event)
  | points (carried : List Point)
  | thermal (c : ThermalContent)
  | presence (p : PresenceFields)
  deriving DecidableEq, Repr

/-- The station's own frame on the line (R42, R51). `dest` is the Destination field, `seq` the Sequence field once
arbitration is won, `stale` marks a frame whose mailbox was emptied under it (R60, R113), `renewed` a THERMAL slot
filled anew under it (R56). -/
structure Tx where
  content : TxContent
  dest : BitVec 4
  seq : BitVec 16
  won : Bool
  stale : Bool
  renewed : Bool
  deriving DecidableEq, Repr

/-- The line controller (chapter 3). -/
structure Line where
  active : Bool
  tx : Option Tx
  awaiting : Option ShareFrame
  lostSet : StationSet
  m1 : List M1Entry
  m2 : List M2Part
  m3 : Option Reply
  points : Nat
  thermal : Option ThermalContent
  presence : Bool
  crcVetoes : Nat
  voids : Nat
  presenceTimer : Option Clock
  lastHeard : List (Option Clock)
  heardAny : Option Clock
  deriving DecidableEq, Repr

/-- States of the join unit (Table 5-1). JOINING is adopted when the station holds a table; JOIN_CONFLICT is ATTACHED
with a conflict set that is not empty (R79). -/
inductive JoinState where
  | listening | joining | attached | quiet
  deriving DecidableEq, Repr

/-- An entry of the pending log (R86). -/
structure Logged where
  sender : Station
  seq : BitVec 16
  frame : ShareFrame
  deriving DecidableEq, Repr

/-- A presence record of a joining station (R63, R86). -/
structure PresenceRecord where
  sender : Station
  standing : ZoneSet
  before : Nat
  deriving DecidableEq, Repr

/-- The join unit (chapter 5). -/
structure Join where
  st : JoinState
  window : Option Clock
  wait : Option Clock
  heardShare : Bool
  image : Option Table
  logging : Bool
  log : List Logged
  presences : List PresenceRecord
  parts : List SnapshotPart
  leaveWait : Option Clock
  quietSince : Option Clock
  deriving DecidableEq, Repr

/-! ## The state -/

/-- The whole state of one Ardmel 320, with the queue of commands that wait. `freeCount`, `detachDue` and `pending` are
the model's own fields (INVENTORY.md, State). -/
structure State where
  pending : List Instr
  setup : Setup
  clock : Clock
  freeCount : Nat
  detachDue : Option DetachCause
  axes : Vec3 AxisChannel
  estop : Bool
  lastFault : Option FaultCode
  arm : Arm
  run : Run
  chg : Changer
  qual : Option Qualification
  soak : Option Clock
  line : Line
  join : Join
  table : Option Table
  agent : Agent
  probes : List ProbeRecord
  mounted : Mounted
  head : Head
  trig : Trigger
  cap : Capture
  part : PartData
  thermal : Thermal
  events : EventSet
  rack : SlotSet
  deriving DecidableEq, Repr

/-! ## Reset values -/

/-- An axis channel after cold reset (Table 1-8), with the levels its inputs stand at. -/
def AxisChannel.cold (minus plus fault : Bool) : AxisChannel :=
  { count := 0, scale := 0, pos := 0, setpoint := 0, referenced := false,
    minusLimit := minus, plusLimit := plus, scaleFault := fault }

/-- The motion controller after cold reset (Table 2-6), before an image gives the power-on standing set (R40). -/
def Arm.cold : Arm :=
  { st := .off, energized := false, motion := none, todo := none, itemsHeld := false, stopping := none, begun := 0,
    standing := 0, shadow := false, phys := 0, seeks := [], markMet := false }

/-- Run control after every reset (Table 2-6). -/
def Run.cold : Run := { st := .none, owner := none, queue := [], current := none, stack := [] }

/-- The change controller after cold reset (Table 8-4). -/
def Changer.cold : Changer := { change := none, closing := [], judging := [], stayed := false }

/-- The line controller after cold reset (Table 3-8); it drives nothing until the loader finishes (R41). -/
def Line.cold : Line :=
  { active := false, tx := none, awaiting := none, lostSet := 0, m1 := [], m2 := [], m3 := none, points := 0,
    thermal := none, presence := false, crcVetoes := 0, voids := 0, presenceTimer := none,
    lastHeard := List.replicate 8 none, heardAny := none }

/-- The join unit after cold reset (Table 5-4); its window starts at the end of a good load. Table 5-4 gives LISTENING from the end of the
configuration load; that the state reads LISTENING from reset until then is the model's choice (log 7). -/
def Join.cold : Join :=
  { st := .listening, window := none, wait := none, heardShare := false, image := none, logging := false, log := [],
    presences := [], parts := [], leaveWait := none, quietSince := none }

/-- A channel that is OFF (R147). -/
def Channel.off : Channel :=
  { raw := none, filtered := none, history := [], rate := none, st := .off, since := none }

/-- A role with value NONE (R166). -/
def RoleValue.none : RoleValue := { value := Option.none, quality := .none, rate := Option.none }

/-- The thermal unit after cold reset, before an image forms its channels and peer table (R147, R166): until then every channel is
OFF and the peer table has no entry (the model's choice, log 7). -/
def Thermal.cold : Thermal :=
  { channels := List.replicate 12 Channel.off, peers := [], cadence := none, scan := none,
    roles := List.replicate 5 RoleValue.none, settled := false, steadySince := none }

/-- The event set after cold reset (Table 12-7), every kind enabled until an image gives the mask (log 7). -/
def EventSet.cold : EventSet :=
  { slots := List.replicate 12 { pending := none, renewed := false }, mask := 0x0FFF#16, address := none }

/-- Every block at its cold reset values (R176), with the sampled straps, and the levels at which the machine-side inputs
stand, which reset does not move. -/
def State.cold (straps : Straps) (axes : Vec3 AxisChannel) (estop trigHigh : Bool) (pending : List Instr) : State :=
  { pending := pending,
    setup := { straps := straps, load := .reading, image := none, format := 0 },
    clock := 0, freeCount := 0, detachDue := none, axes := axes, estop := estop, lastFault := none,
    arm := Arm.cold, run := Run.cold, chg := Changer.cold, qual := none, soak := none,
    line := Line.cold, join := Join.cold, table := none, agent := { current := none, retired := none },
    probes := [], mounted := .none,
    head := { seated := false, idRead := none, lastRead := none, pulse := none, waiting := none },
    trig := { high := trigHigh, latch := none, blocked := false },
    cap := { ring := [], counter := 0, level := 0, timeout := 0, drain := false },
    part := { coeff := 0, datum := ⟨0, 0, 0⟩ },
    thermal := Thermal.cold, events := EventSet.cold, rack := 0 }

/-- The station right after reset: straps 0 and every input clear (logs 5 and 6). -/
def State.reset : State :=
  State.cold { station := 0, rate := 0, rackHost := false }
    ⟨AxisChannel.cold false false false, AxisChannel.cold false false false, AxisChannel.cold false false false⟩
    false false []

end Sys2Proof.Machine
end

