-- ==== Sys2Proof/Machine/Ops.lean ====
section
/-! DEFINITION. The named operations every meaning is written over: sets and lists, exact arithmetic narrowed once,
axis values, timers, occurrences and faults, the share mailbox. -/

namespace Sys2Proof

/-- The contents code of SLOT_SET and SNAPSHOT (Tables 8-1, 5-3). -/
def Contents.code : Contents → BitVec 16
  | .empty => 0
  | .probe id => id
  | .unknown => 0xFFFF

end Sys2Proof

namespace Sys2Proof.Machine

open Sys2Proof

/-! ## Lists and sets -/

/-- The list with the entry at `n` changed by `f`. -/
def updateAt {α : Type} (f : α → α) : Nat → List α → List α
  | _, [] => []
  | 0, a :: l => f a :: l
  | n + 1, a :: l => a :: updateAt f n l

/-- The list with every entry changed by `f`, which is given its place counted from `n`. -/
def mapFrom {α β : Type} (f : Nat → α → β) : Nat → List α → List β
  | _, [] => []
  | n, a :: l => f n a :: mapFrom f (n + 1) l

/-- Place of the first entry that meets `p`. -/
def findPlace {α : Type} (p : α → Bool) : List α → Option Nat
  | [] => none
  | a :: l => if p a then some 0 else (findPlace p l).map (· + 1)

/-- The places, counted from `n`, of the entries that meet `p`, as a mask. -/
def placesMask {α : Type} (w : Nat) (p : α → Bool) : Nat → List α → BitVec w
  | _, [] => 0
  | n, a :: l => (if p a then (1#w <<< n) else 0#w) ||| placesMask w p (n + 1) l

/-- A zone set as an item set (section 0.7.3: a zone set is an item set whose slot members are clear). -/
def zoneItems (z : ZoneSet) : ItemSet := z.setWidth 24

/-- The zones of an item set. -/
def itemZones (i : ItemSet) : ZoneSet := i.setWidth 16

/-- Rack slot Sn as an item set: item 16 + n (section 0.7.3). -/
def slotItem (n : Fin 8) : ItemSet := 1#24 <<< (16 + n.val)

/-- An optional slot as an item set. -/
def slotItems : Option (Fin 8) → ItemSet
  | none => 0
  | some n => slotItem n

/-- Station n as a station set. -/
def stationBit (n : Station) : StationSet := 1#8 <<< n.val

/-! ## Axes -/

/-- The value of one axis. -/
def vget {α : Type} (v : Vec3 α) : AxisName → α
  | .x => v.x
  | .y => v.y
  | .z => v.z

/-- The record with one axis's value replaced. -/
def vset {α : Type} (v : Vec3 α) (a : AxisName) (b : α) : Vec3 α :=
  match a with
  | .x => { v with x := b }
  | .y => { v with y := b }
  | .z => { v with z := b }

/-- The record with every axis's value changed. -/
def vmap {α β : Type} (f : AxisName → α → β) (v : Vec3 α) : Vec3 β := ⟨f .x v.x, f .y v.y, f .z v.z⟩

/-- The axis codes of Table 13-1 and Table 12-8. -/
def axisCode : AxisName → Nat
  | .x => 0
  | .y => 1
  | .z => 2

/-- The axes in the order X, Y, Z. -/
def allAxes : List AxisName := [.x, .y, .z]

/-! ## Exact arithmetic, narrowed once -/

/-- The exact integer nearest to n / d, halves away from zero (section 0.7.1). -/
def roundDiv (n : Int) (d : Nat) : Int :=
  if n < 0 then -(((2 * n.natAbs + d) / (2 * d) : Nat) : Int) else (((2 * n.natAbs + d) / (2 * d) : Nat) : Int)

/-- An exact length as a length result. Outside the range of Table 1-3 the spec states no result, and the value is free
(log 9). -/
def toLu (v : Int) : Lu :=
  if -2147483648 ≤ v ∧ v ≤ 2147483647 then BitVec.ofInt 32 v else Config.luOutOfRange v

/-- Length added to a position, in exact arithmetic. -/
def luAdd (a b : Lu) : Lu := toLu (a.toInt + b.toInt)

/-- Length taken from a position, in exact arithmetic. -/
def luSub (a b : Lu) : Lu := toLu (a.toInt - b.toInt)

/-! ## Station clock and timers -/

/-- Age of a clock value, modulo 2^32 (R112). -/
def State.age (s : State) (since : Clock) : BitVec 32 := s.clock - since

/-- The state at the moment a timer reaches its limit: an expiry stands for that moment, so the clock is brought to it
if it stands before it (log 2). -/
def State.reach (since : Clock) (limit : Nat) (s : State) : State :=
  if (s.age since).toNat < limit then { s with clock := since + BitVec.ofNat 32 limit } else s

/-! ## Configuration -/

/-- The image in use: the image copy while the load state is LOADED (R178). -/
def State.config (s : State) : Option Image :=
  match s.setup.load with
  | .loaded => s.setup.image
  | _ => none

/-- The station's own number (R176). -/
def State.me (s : State) : Station := s.setup.straps.station

/-! ## Positions and setpoints -/

/-- The three positions (R2). -/
def State.positions (s : State) : Vec3 Lu := vmap (fun _ a => a.pos) s.axes

/-- The three setpoints (R3). -/
def State.setpoints (s : State) : Vec3 Lu := vmap (fun _ a => a.setpoint) s.axes

/-- The setpoints moved; while shadow mode is on each position follows its setpoint (R2). -/
def State.moveSetpoints (v : Vec3 Lu) (s : State) : State :=
  { s with axes := vmap (fun n a =>
      { a with setpoint := vget v n, pos := if s.arm.shadow then vget v n else a.pos }) s.axes }

/-- Each setpoint made equal to its axis's position (R3, while the drives are DE_ENERGIZED). -/
def State.holdSetpoints (s : State) : State :=
  { s with axes := vmap (fun _ a => { a with setpoint := a.pos }) s.axes }

/-- Each position loaded from its scale position (R2, when shadow mode ends). -/
def State.reloadPositions (s : State) : State :=
  { s with axes := vmap (fun _ a => { a with pos := a.scale }) s.axes }

/-- Shadow mode ends: positions are loaded from the scales, the standing set is the physical one, and what the rehearsal had begun
was no motion of the arm (R2, R39, R35). -/
def State.leaveShadow (s : State) : State :=
  { s.reloadPositions with arm := { s.arm with shadow := false, standing := s.arm.phys, phys := 0, begun := 0 } }

/-! ## Occurrences and faults -/

/-- The kind number of an occurrence (Table 12-6). -/
def Event.kind : Event → Nat
  | .fault _ _ => 0
  | .runEnd _ _ => 1
  | .changeEnd _ _ => 2
  | .qualEnd _ _ => 3
  | .segDone _ _ => 4
  | .refill _ => 5
  | .starved => 6
  | .claimWait _ => 7
  | .settle _ => 8
  | .detach _ => 9
  | .attach => 10
  | .shadow _ => 11

/-- Whether an EVENT frame now on the line carries the kind (R172). -/
def State.kindOnLine (s : State) (k : Nat) : Bool :=
  match s.line.tx with
  | some tx =>
    match tx.content with
    | .event carried => carried.any (fun e => e.kind == k)
    | _ => false
  | none => false

/-- An occurrence is reported to the event set (R172). -/
def State.emit (e : Event) (s : State) : State :=
  if s.events.mask.getLsbD e.kind then
    { s with events := { s.events with
        slots := updateAt (fun slot => { pending := some e, renewed := slot.renewed || s.kindOnLine e.kind })
          e.kind s.events.slots } }
  else s

/-- A fault is raised at a position: the last-fault field and the FAULT event (R12, R171). -/
def State.raiseAt (r : FaultReport) (position : Vec3 Lu) (s : State) : State :=
  { s with lastFault := some r.code }.emit (.fault r position)

/-- A fault is raised with the positions at the fault (R171). -/
def State.raise (r : FaultReport) (s : State) : State := s.raiseAt r s.positions

/-! ## Items held, standing set -/

/-- The items a station holds in a table. -/
def Table.heldBy (t : Table) (n : Station) : ItemSet :=
  placesMask 24 (fun h => h == Holder.station n) 0 t.holders

/-- The items the station itself holds; none without a table (R61). -/
def State.held (s : State) : ItemSet :=
  match s.table with
  | some t => t.heldBy s.me
  | none => 0

/-- The set the station must hold: the standing set, with the physical standing set in shadow mode (R36, R37). -/
def State.keep (s : State) : ZoneSet :=
  if s.arm.shadow then s.arm.standing ||| s.arm.phys else s.arm.standing

/-! ## The share mailbox M1 -/

/-- Whether the head of M1 is on the line. -/
def State.m1OnLine (s : State) : Bool :=
  match s.line.tx with
  | some tx =>
    match tx.content with
    | .share _ _ => !tx.stale
    | _ => false
  | none => false

/-- A block queues a share frame at the tail of M1. A ninth entry is not kept and causes a detach (R53), which is
carried out when the command's other effects are complete (log 15). -/
def State.pushM1 (e : M1Entry) (s : State) : State :=
  if s.line.m1.length < 8 then { s with line := { s.line with m1 := s.line.m1 ++ [e] } }
  else { s with detachDue := s.detachDue <|> some .mailboxFull }

/-- M1 with the last entry, when it is a RELEASE not on the line, merged with the items (R53). -/
def mergeTail (onLine : Bool) (items : ItemSet) : List M1Entry → Option (List M1Entry)
  | [] => none
  | [.release i] => if onLine then none else some [.release (i ||| items)]
  | [_] => none
  | e :: rest => (mergeTail false items rest).map (e :: ·)

/-- A RELEASE is queued: merged into a tail RELEASE or appended (R53); an empty set queues nothing, and a station
without a table queues none (R22). -/
def State.queueRelease (items : ItemSet) (s : State) : State :=
  if items == 0 || s.table.isNone then s
  else
    match mergeTail s.m1OnLine items s.line.m1 with
    | some m1 => { s with line := { s.line with m1 := m1 } }
    | none => s.pushM1 (.release items)

/-- A RELEASE of every zone the station holds outside the given zones (R15, R22, R30, R36, R138). -/
def State.releaseOutside (zones : ZoneSet) (s : State) : State :=
  s.queueRelease (zoneItems (itemZones s.held &&& ~~~ zones))

/-- The first entry of M1 that meets `p` and is not on the line is removed; the entries behind it close up (R53). -/
def State.removeM1 (p : M1Entry → Bool) (s : State) : State :=
  let onLine := s.m1OnLine
  let kept := if onLine then s.line.m1.take 1 else []
  let rest := if onLine then s.line.m1.drop 1 else s.line.m1
  { s with line := { s.line with m1 := kept ++ rest.eraseP p } }

/-- Whether M1 holds an entry that meets `p` and is not on the line. -/
def State.waitsInM1 (p : M1Entry → Bool) (s : State) : Bool :=
  (if s.m1OnLine then s.line.m1.drop 1 else s.line.m1).any p

/-- Every entry of M1 that meets `p` and is not on the line is removed. -/
def State.removeAllM1 (p : M1Entry → Bool) (s : State) : State :=
  let kept := if s.m1OnLine then s.line.m1.take 1 else []
  let rest := if s.m1OnLine then s.line.m1.drop 1 else s.line.m1
  { s with line := { s.line with m1 := kept ++ rest.filter (fun e => !p e) } }

/-- The first entry of M1 that meets `p` and is not on the line is rewritten. -/
def rewriteFirst (p : M1Entry → Bool) (e : M1Entry) : List M1Entry → List M1Entry
  | [] => []
  | a :: l => if p a then e :: l else a :: rewriteFirst p e l

/-- The same, in the mailbox. -/
def State.rewriteM1 (p : M1Entry → Bool) (e : M1Entry) (s : State) : State :=
  let onLine := s.m1OnLine
  let kept := if onLine then s.line.m1.take 1 else []
  let rest := if onLine then s.line.m1.drop 1 else s.line.m1
  { s with line := { s.line with m1 := kept ++ rewriteFirst p e rest } }

/-- The last entry of M1 that meets `p` and is not on the line is rewritten. -/
def State.rewriteLastM1 (p : M1Entry → Bool) (e : M1Entry) (s : State) : State :=
  let kept := if s.m1OnLine then s.line.m1.take 1 else []
  let rest := if s.m1OnLine then s.line.m1.drop 1 else s.line.m1
  { s with line := { s.line with m1 := kept ++ (rewriteFirst p e rest.reverse).reverse } }

/-- A CLAIM of the claim with a number. -/
def M1Entry.isClaimOf (serial : Nat) : M1Entry → Bool
  | .claim _ n => n == serial
  | _ => false

/-- An own WITHDRAW. -/
def M1Entry.isWithdraw : M1Entry → Bool
  | .withdraw => true
  | _ => false

/-- A JOIN. -/
def M1Entry.isJoin : M1Entry → Bool
  | .join _ => true
  | _ => false

/-- A SLOT_SENSE. -/
def M1Entry.isSlotSense : M1Entry → Bool
  | .slotSense _ => true
  | _ => false

/-- Items named by the station's own RELEASE frames that have not been applied (R73). -/
def State.releasing (s : State) : ItemSet :=
  let waiting := s.line.m1.foldl (fun (acc : ItemSet) e =>
    match e with
    | .release i => acc ||| i
    | _ => acc) 0
  match s.line.awaiting with
  | some (.release i) => waiting ||| i
  | _ => waiting

/-! ## Probe records -/

/-- The identity of the mounted-probe record, RESOLVED or UNRESOLVED (section 6.1). -/
def Mounted.id : Mounted → Option ProbeId
  | .none => Option.none
  | .resolved i => some i
  | .unresolved (.id i) => some i
  | .unresolved .unreadable => Option.none

/-- The mounted ID as reports carry it: 0 for NONE, FFFFh for UNREADABLE (Table 12-6, section 6.1). -/
def Mounted.shown : Mounted → BitVec 16
  | .none => 0
  | .resolved i => i
  | .unresolved (.id i) => i
  | .unresolved .unreadable => 0xFFFF

/-- The probe record of an ID (section 6.1). -/
def State.probe (s : State) (id : ProbeId) : Option ProbeRecord := s.probes.find? (fun p => p.defined.id == id)

/-- The mounted probe's record (section 6.1). -/
def State.mountedRecord (s : State) : Option ProbeRecord := s.mounted.id.bind s.probe

/-- The record of an ID changed; IDs are distinct (section 6.1). -/
def State.updateProbe (id : ProbeId) (f : ProbeRecord → ProbeRecord) (s : State) : State :=
  { s with probes := s.probes.map (fun p => if p.defined.id == id then f p else p) }

/-- The contents a code stands for (Table 8-1). -/
def contentsOfCode (c : BitVec 16) : Contents :=
  if c == 0 then .empty else if c == 0xFFFF then .unknown else .probe c

/-! ## Lock pulses and identity reads -/

/-- A pulse is requested by a change: begun at once, or kept as the one waiting request (R100). In shadow mode it drives no
output (R100, R132). -/
def State.requestPulse (kind : PulseKind) (change : Nat) (s : State) : State :=
  let p : Pulse := { kind := kind, change := change, driven := !s.arm.shadow }
  match s.head.pulse with
  | none => { s with head := { s.head with pulse := some p } }
  | some _ => { s with head := { s.head with waiting := some p } }

/-- The pulse in flight has ended, and the request that waits begins (R100): one that begins while shadow mode is on drives no
output. -/
def State.nextPulse (s : State) : State :=
  { s with head := { s.head with
      pulse := s.head.waiting.map (fun p => { p with driven := p.driven && !s.arm.shadow }), waiting := none } }

/-- A read that has just started, with no requester yet. -/
def IdRead.started : IdRead := { emptied := false, forHead := false, forChange := false, forJudge := false }

/-- An identity read is requested: a read in flight answers it, otherwise one starts (R99). -/
def State.requestRead (f : IdRead → IdRead) (s : State) : State :=
  { s with head := { s.head with idRead := some (f (s.head.idRead.getD IdRead.started)) } }

/-! ## Trigger -/

/-- The pending latch is discarded, uncounted (R101). -/
def State.dropLatch (s : State) : State := { s with trig := { s.trig with latch := none } }

end Sys2Proof.Machine
end

