-- ==== Sys2Proof/Machine/Operands.lean ====
section
/-! DEFINITION. Operand forms: the fields of a command payload and of the configuration memory, read from their bytes,
and the bytes of the fields that the station sends (sections 0.7.4, 12.2, 12.3, 12.5; Tables 7-3, 10-3, 3-7). -/

namespace Sys2Proof.Machine

open Sys2Proof

/-! ## Bytes -/

/-- The number that bytes spell, most significant byte first (section 0.7.4). -/
def bigEndian (bytes : List Byte) : Nat := bytes.foldl (fun n b => 256 * n + b.toNat) 0

/-- The number in `n` bytes from byte `at_` of a payload. -/
def fieldAt (p : List Byte) (at_ n : Nat) : Nat := bigEndian ((p.drop at_).take n)

/-- A one-byte field. -/
def byteAt (p : List Byte) (at_ : Nat) : Byte := BitVec.ofNat 8 (fieldAt p at_ 1)

/-- A two-byte field. -/
def wordAt (p : List Byte) (at_ : Nat) : BitVec 16 := BitVec.ofNat 16 (fieldAt p at_ 2)

/-- A four-byte field. -/
def longAt (p : List Byte) (at_ : Nat) : BitVec 32 := BitVec.ofNat 32 (fieldAt p at_ 4)

/-- X, Y and Z in four bytes each. -/
def pointAt (p : List Byte) (at_ : Nat) : Vec3 Lu := ⟨longAt p at_, longAt p (at_ + 4), longAt p (at_ + 8)⟩

/-- The low `n` bytes of a number, most significant first. -/
def bytesOf : Nat → Nat → List Byte
  | 0, _ => []
  | n + 1, v => bytesOf n (v / 256) ++ [BitVec.ofNat 8 v]

/-- X, Y and Z as twelve bytes. -/
def pointBytes (v : Vec3 Lu) : List Byte := bytesOf 4 v.x.toNat ++ bytesOf 4 v.y.toNat ++ bytesOf 4 v.z.toNat

/-! ## SEG (Table 12-4, R168) -/

/-- The payload length that a SEG kind byte asks for (R168); none for a byte above 4. -/
def segLength : Nat → Option Nat
  | 0 => some 22
  | 1 => some 22
  | 2 => some 6
  | 3 => some 6
  | 4 => some 4
  | _ => none

/-- The travel fields of a SEG. -/
def travelOf (p : List Byte) : TravelSpec :=
  { target := pointAt p 4, feed := wordAt p 16, need := wordAt p 18, endSet := wordAt p 20 }

/-- The body that a SEG kind names, read from a payload of its length. -/
def segBody (p : List Byte) : Nat → SegmentBody
  | 0 => .move (travelOf p)
  | 1 => .probe ((byteAt p 3).getLsbD 1) (travelOf p)
  | 2 => .dwell (wordAt p 4)
  | 3 => .change (wordAt p 4)
  | _ => .qualify

/-- The segment record that a SEG payload spells; none where R168 answers BAD. -/
def segmentOf (p : List Byte) : Option Segment :=
  if segLength (fieldAt p 2 1) == some p.length && (byteAt p 3 &&& 0xFC#8) == 0 then
    some { tag := wordAt p 0, last := (byteAt p 3).getLsbD 0, body := segBody p (fieldAt p 2 1) }
  else none

/-- Whether a SEG payload's kind byte names a MOVE or a PROBE. -/
def segTravels (p : List Byte) : Bool := decide (fieldAt p 2 1 ≤ 1)

/-- MISS_OK as a SEG payload gives it. -/
def segMissOk (p : List Byte) : Bool := (byteAt p 3).getLsbD 1

/-! ## PROBEDEF and PART (Table 12-4), image definition blocks (Table 13-1) -/

/-- The trigger polarity code (Table 12-4). -/
def polarityOf : Nat → Option Polarity
  | 0 => some .rising
  | 1 => some .falling
  | _ => none

/-- The trigger polarity code of a polarity. -/
def Polarity.code : Polarity → Nat
  | .rising => 0
  | .falling => 1

/-- Whether a signed length lies in a range. -/
def luWithin (lo hi : Int) (v : Lu) : Bool := decide (lo ≤ v.toInt ∧ v.toInt ≤ hi)

/-- Whether an unsigned number lies in a range. -/
def within (lo hi v : Nat) : Bool := decide (lo ≤ v ∧ v ≤ hi)

/-- A probe ID is 1 to FFFEh (Table 6-1). -/
def validProbeId (id : ProbeId) : Bool := id != 0 && id != 0xFFFF

/-- The defined fields of 21 bytes laid out as the PROBEDEF payload; none where a field leaves Table 6-1's range (R96
check 1). -/
def probeDefOf (p : List Byte) : Option ProbeDef :=
  match polarityOf (fieldAt p 18 1) with
  | some polarity =>
    let d : ProbeDef :=
      { id := wordAt p 0, radius := longAt p 2, offset := pointAt p 6, polarity := polarity, width := wordAt p 19 }
    if validProbeId d.id && luWithin 1 500000 d.radius && luWithin (-10000000) 10000000 d.offset.x
      && luWithin (-10000000) 10000000 d.offset.y && luWithin (-10000000) 10000000 d.offset.z
      && within 0 2000 d.width.toNat && d.width.toNat % 10 == 0 then some d else none
  | none => none

/-- A PART payload's fields (Table 12-4). -/
def partOf (p : List Byte) : PartData := { coeff := wordAt p 0, datum := pointAt p 2 }

/-! ## Codes -/

/-- Role codes (Table 3-7). -/
def roleCode : Role → Nat
  | .arm => 0
  | .planner => 1

/-- Arm state codes (Table 3-7). -/
def armCode : ArmState → Nat
  | .off => 0
  | .still => 1
  | .homing => 2
  | .claiming => 3
  | .moving => 4
  | .decelerating => 5
  | .ringWait => 6

/-- Run state codes (Table 3-7). -/
def runCode : RunState → Nat
  | .none => 0
  | .active => 1
  | .held => 2
  | .starved => 3

/-- Join state codes (Table 3-7). -/
def joinCode : JoinShown → Nat
  | .listening => 0
  | .joining => 1
  | .attached => 2
  | .joinConflict => 3
  | .quiet => 4

/-- Run owner: the station, or FFh for none (Table 3-7). -/
def ownerCode : Option Station → Nat
  | none => 0xFF
  | some n => n.val

/-- Fault codes (R171). -/
def FaultCode.code : FaultCode → Nat
  | .follow => 1
  | .scale => 2
  | .limit => 3
  | .homeFail => 4
  | .zoneTimeout => 5
  | .unrefAxis => 6
  | .noProbe => 7
  | .qualStale => 8
  | .probeDeflected => 9
  | .probeNoisy => 10
  | .noContact => 11
  | .collision => 12
  | .noSlot => 13
  | .slotUnknown => 14
  | .changeStuck => 15
  | .changeEmpty => 16
  | .changeMismatch => 17
  | .changeUnread => 18
  | .soakTimeout => 19
  | .qualFail => 20
  | .qualNoTemp => 21

/-- The last-fault field, 0 for none (R171). -/
def lastFaultCode : Option FaultCode → Nat
  | none => 0
  | some f => f.code

/-- Run end reasons (Table 12-6). -/
def RunEndReason.code : RunEndReason → Nat
  | .lastDone => 0
  | .stopped => 1
  | .cellStopped => 2
  | .estop => 3
  | .fault => 4
  | .ownerLost => 5
  | .detached => 6

/-- Change outcomes (Table 12-6). -/
def ChangeOutcome.code : ChangeOutcome → Nat
  | .done => 0
  | .noneNeeded => 1
  | .failed => 2
  | .aborted => 3

/-- Qualification outcomes (Table 12-6). -/
def QualOutcome.code : QualOutcome → Nat
  | .done => 0
  | .failed => 1
  | .aborted => 2
  | .simulated => 3

/-- Segment outcomes (Table 12-6). -/
def SegOutcome.code : SegOutcome → Nat
  | .done => 0
  | .contact => 1
  | .miss => 2

/-- Detach causes (Table 12-6). -/
def DetachCause.code : DetachCause → Nat
  | .isolated => 0
  | .declaredLost => 1
  | .mismatch => 2
  | .vetoLimit => 3
  | .voidLimit => 4
  | .mailboxFull => 5

/-- Qualification states (Table 12-8). -/
def QualState.code : QualState → Nat
  | .unqualified => 0
  | .qualified => 1
  | .stale => 2

/-- Motion origins (Table 12-8). -/
def Origin.code : Origin → Nat
  | .segment => 0
  | .backOff => 1
  | .excursion => 2
  | .touch => 3
  | .seek => 4

/-- Result codes (Table 12-1). -/
def Result.code : Result → Nat
  | .ok => 0
  | .state => 1
  | .owner => 2
  | .full => 3
  | .bad => 4
  | .unref => 5
  | .noProbe => 6

/-- Channel state codes of a THERMAL frame (Table 10-3); OFF is never carried. -/
def ChannelState.code : ChannelState → Nat
  | .fresh => 0
  | .subst => 1
  | .unavailable => 2
  | .off => 3

/-- The flags byte of a point (Table 7-3). -/
def PointFlags.byte (f : PointFlags) : Byte :=
  (if f.unsettled then 1 else 0) ||| (if f.degraded then 2 else 0) ||| (if f.uncorrected then 4 else 0)
    ||| (if f.shadow then 8 else 0)

/-- One byte from a flag. -/
def bit (b : Bool) : Nat := if b then 1 else 0

/-! ## Payloads the station sends -/

/-- The detail bytes of an occurrence (Table 12-6). -/
def Event.detail : Event → List Byte
  | .fault r pos => bytesOf 1 r.code.code ++ [r.detail] ++ bytesOf 4 r.value.toNat ++ pointBytes pos
  | .runEnd reason b => bytesOf 1 reason.code ++ [b]
  | .changeEnd outcome mounted => bytesOf 1 outcome.code ++ bytesOf 2 mounted.toNat
  | .qualEnd outcome radius => bytesOf 1 outcome.code ++ bytesOf 4 radius.toNat
  | .segDone tag outcome => bytesOf 2 tag.toNat ++ bytesOf 1 outcome.code
  | .refill count => [count]
  | .starved => []
  | .claimWait items => bytesOf 3 items.toNat
  | .settle settled => bytesOf 1 (bit settled)
  | .detach cause => bytesOf 1 cause.code
  | .attach => []
  | .shadow on => bytesOf 1 (bit on)

/-- An entry of an EVENT frame: the kind number, then the detail (Table 12-6). -/
def Event.entry (e : Event) : List Byte := bytesOf 1 e.kind ++ e.detail

/-- A point entry (Table 7-3, R114). -/
def Point.entry (p : Point) : List Byte :=
  bytesOf 2 p.number.toNat ++ bytesOf 2 p.tag.toNat ++ pointBytes p.corrected ++ bytesOf 2 p.probe.toNat
    ++ [p.flags.byte] ++ bytesOf 4 p.time.toNat

/-- A THERMAL payload (Table 10-3). -/
def ThermalContent.payload (c : ThermalContent) : List Byte :=
  bytesOf 2 c.cadence.toNat ++ c.carried.flatMap (fun e =>
    bytesOf 1 (16 * e.1 + e.2.1.code) ++ bytesOf 2 e.2.2.toNat)

/-- A PRESENCE payload (Table 3-7). -/
def presencePayload (p : PresenceFields) : List Byte :=
  bytesOf 1 (roleCode p.role) ++ bytesOf 1 (joinCode p.join) ++ bytesOf 1 (bit p.configFault)
    ++ bytesOf 1 (armCode p.arm) ++ bytesOf 1 (runCode p.run) ++ bytesOf 1 (ownerCode p.owner) ++ [p.referenced]
    ++ bytesOf 2 p.standing.toNat ++ [p.mountedState] ++ bytesOf 2 p.mountedId.toNat ++ [p.lastFault]
    ++ bytesOf 2 p.shareSeq.toNat ++ bytesOf 1 (bit p.shadow)

/-- The bytes of one view field; free bytes where the spec gives no codes (log 16). -/
def ViewField.bytes : ViewField → List Byte
  | .u8 v => [v]
  | .u16 v => bytesOf 2 v.toNat
  | .u24 v => bytesOf 3 v.toNat
  | .u32 v => bytesOf 4 v.toNat
  | .code field value => [Config.viewCode field value]
  | .absent field width => (List.range width).map (Config.absentByte field)

/-- A REPLY payload (R167). -/
def Reply.payload (r : Reply) : List Byte :=
  [r.kind] ++ bytesOf 1 r.result.code ++ r.data.flatMap ViewField.bytes

/-- A share frame's payload (Tables 3-3, 4-4, 5-2, 8-1). The JOIN payload is the role, the standing set and a flags
byte whose bit 0 is the founding mark and bit 1 the serves-snapshots flag (Table 5-2). -/
def ShareFrame.payload : ShareFrame → List Byte
  | .lost stations => [stations]
  | .join f => bytesOf 1 (roleCode f.role) ++ bytesOf 2 f.standing.toNat ++ bytesOf 1 (bit f.founding + 2 * bit f.serves)
  | .attach => []
  | .leave => []
  | .claim items => bytesOf 3 items.toNat
  | .withdraw => []
  | .release items => bytesOf 3 items.toNat
  | .clear item => [item]
  | .slotSet slot contents => [slot] ++ bytesOf 2 contents.toNat
  | .slotSense presences => [presences]

end Sys2Proof.Machine
end

