-- ==== Sys2Proof/Machine/Share.lean ====
section
/-! DEFINITION. The share table as pure functions of the table and the frame (chapter 4, R81 to R85, R118 to R120): the
application of each share frame, the grant walk, founding, snapshots. -/

namespace Sys2Proof

/-- A roster entry of the initial table (section 4.3). An ABSENT entry's role is shown as ARM (log 7). -/
def RosterEntry.initial : RosterEntry :=
  { state := .absent, role := .arm, serves := false, conflict := 0, published := 0 }

/-- The roster entry that a JOIN writes (R81, R83). -/
def JoinFields.entry (f : JoinFields) (state : RosterState) (conflict : ZoneSet) : RosterEntry :=
  { state := state, role := f.role, serves := f.serves, conflict := conflict, published := f.standing }

/-- JOINING or ATTACHED. -/
def RosterState.inCell : RosterState → Bool
  | .joining => true
  | .attached => true
  | _ => false

/-- Whether a slot's contents and sensed presence disagree (R118). -/
def SlotRec.disagrees (r : SlotRec) : Bool :=
  match r.contents, r.sensed with
  | .probe _, .absent => true
  | .empty, .present => true
  | _, _ => false

/-- A slot that has become free is tested: contents that disagree become UNKNOWN (R120). -/
def SlotRec.tested (r : SlotRec) : SlotRec := if r.disagrees then { r with contents := .unknown } else r

/-- A part's number (Table 5-3). -/
def SnapshotPart.number (p : SnapshotPart) : Nat :=
  match p.body with
  | .roster _ _ => 1
  | .zonesLow _ => 2
  | .zonesHigh _ => 3
  | .slots _ _ => 4
  | .claims _ => 5

end Sys2Proof

namespace Sys2Proof.Machine

open Sys2Proof

/-- The initial table (R64, R81). -/
def Table.initial : Table :=
  { seq := 0, roster := List.replicate 8 RosterEntry.initial, holders := List.replicate 24 Holder.free,
    slots := List.replicate 8 { contents := .unknown, sensed := .notReported }, claims := [], answering := none }

/-- A station's roster entry. -/
def Table.entry (t : Table) (n : Station) : RosterEntry := t.roster.getD n.val RosterEntry.initial

/-- A station's roster entry changed. -/
def Table.updateEntry (n : Station) (f : RosterEntry → RosterEntry) (t : Table) : Table :=
  { t with roster := updateAt f n.val t.roster }

/-- An item's holder. -/
def Table.holder (t : Table) (item : Nat) : Holder := t.holders.getD item .free

/-- A slot's contents (R119). -/
def Table.contents (t : Table) (slot : Nat) : Contents :=
  (t.slots.getD slot { contents := .unknown, sensed := .notReported }).contents

/-- The slots of a freed item set tested (R120). -/
def testSlots (freed : ItemSet) (slots : List SlotRec) : List SlotRec :=
  mapFrom (fun n r => if freed.getLsbD (16 + n) then r.tested else r) 0 slots

/-! ## The grant rule -/

/-- The items an entry may not take: those held by another station or FENCED (R66). -/
def Table.closedTo (t : Table) (n : Station) : ItemSet :=
  placesMask 24 (fun h => !(h == Holder.free || h == Holder.station n)) 0 t.holders

/-- The items named by a list of entries. -/
def claimedItems : List ClaimEntry → ItemSet
  | [] => 0
  | e :: l => e.items ||| claimedItems l

/-- Whether an entry is grantable with the given entries standing before it (R66). -/
def Table.grantable (t : Table) (before : List ClaimEntry) (e : ClaimEntry) : Bool :=
  e.items &&& (t.closedTo e.station ||| claimedItems before) == 0

/-- An entry's grant: the claimant becomes holder of every item of the set, and its conflict set is emptied (R66). -/
def Table.grant (e : ClaimEntry) (t : Table) : Table :=
  { t with
    holders := mapFrom (fun i h => if e.items.getLsbD i then Holder.station e.station else h) 0 t.holders
    roster := updateAt (fun r => { r with conflict := 0 }) e.station.val t.roster }

/-- The grant walk over the entries still to be tested; `kept` are the entries tested and not granted. The answer is
the table and the entries granted, in order (R66). -/
def Table.walk (kept : List ClaimEntry) : List ClaimEntry → Table → Table × List ClaimEntry
  | [], t => ({ t with claims := kept }, [])
  | e :: rest, t =>
    if t.grantable kept e then
      let r := Table.walk kept rest (t.grant e)
      (r.1, e :: r.2)
    else Table.walk (kept ++ [e]) rest t

/-- The grant walk (R66). -/
def Table.grantWalk (t : Table) : Table × List ClaimEntry := Table.walk [] t.claims t

/-! ## The frames' own changes -/

/-- JOIN, ordinary or founding applied by a table holder (R83). -/
def Table.join (p : Station) (f : JoinFields) (t : Table) : Table :=
  let own := placesMask 24 (fun h => h == Holder.station p || h == Holder.fenced p) 0 t.holders
  let zones := zoneItems f.standing
  let other : ItemSet := placesMask 24 (fun h =>
    match h with
    | .free => false
    | .station n => n != p
    | .fenced n => n != p) 0 t.holders
  { t with
    roster := updateAt (fun _ => f.entry .joining (itemZones (zones &&& other))) p.val t.roster
    holders := mapFrom (fun i h =>
      if zones.getLsbD i && !(other.getLsbD i) then Holder.station p
      else if own.getLsbD i then Holder.free
      else h) 0 t.holders
    slots := testSlots own t.slots }

/-- ATTACH (R89). -/
def Table.attach (p : Station) (t : Table) : Table :=
  if (t.entry p).state == .joining then t.updateEntry p (fun r => { r with state := .attached }) else t

/-- LOST (R71). -/
def Table.lose (stations : StationSet) (t : Table) : Table :=
  let named (n : Station) : Bool := stations.getLsbD n.val && (t.entry n).state.inCell
  { t with
    roster := mapFrom (fun n r => if stations.getLsbD n && r.state.inCell
      then { r with state := .lost, conflict := 0 } else r) 0 t.roster
    holders := t.holders.map (fun h =>
      match h with
      | .station n => if named n then Holder.fenced n else h
      | _ => h) }

/-- LEAVE (R72). -/
def Table.leave (p : Station) (t : Table) : Table :=
  if (t.entry p).state.inCell then
    let published := (t.entry p).published
    let own := t.heldBy p
    { t with
      roster := updateAt (fun r => { r with state := .absent, conflict := 0, published := 0 }) p.val t.roster
      holders := mapFrom (fun i h =>
        if own.getLsbD i then (if i < 16 && published.getLsbD i then Holder.fenced p else Holder.free) else h)
        0 t.holders
      slots := testSlots own t.slots }
  else t

/-- CLAIM, noted at the clock (R67). -/
def Table.claim (p : Station) (items : ItemSet) (now : Clock) (t : Table) : Table :=
  if !((t.entry p).state == .attached && (t.entry p).role == .arm) then t
  else if t.claims.any (fun e => e.station == p) then
    { t with claims := t.claims.map (fun e => if e.station == p then { e with items := items } else e) }
  else if items &&& ~~~ t.heldBy p == 0 then t
  else if t.claims.length < 8 then
    { t with claims := t.claims ++ [{ station := p, items := items, noted := now }] }
  else t

/-- WITHDRAW (R68). -/
def Table.withdraw (p : Station) (t : Table) : Table :=
  { t with claims := t.claims.filter (fun e => e.station != p) }

/-- RELEASE (R69, R120). -/
def Table.release (p : Station) (items : ItemSet) (t : Table) : Table :=
  let freed := items &&& t.heldBy p
  { t with
    holders := mapFrom (fun i h => if freed.getLsbD i then Holder.free else h) 0 t.holders
    slots := testSlots freed t.slots }

/-- Whether the roster shows a station as an ATTACHED planner. -/
def Table.isPlanner (t : Table) (n : Station) : Bool :=
  (t.entry n).state == .attached && (t.entry n).role == .planner

/-- CLEAR (R70). -/
def Table.clear (p : Station) (item : Byte) (t : Table) : Table :=
  if t.isPlanner p && item.toNat < 24 then
    { t with holders := updateAt (fun h =>
        match h with
        | .fenced _ => Holder.free
        | h => h) item.toNat t.holders }
  else t

/-- A slot's contents written, every other slot with the same probe ID becoming UNKNOWN (R119). -/
def writeContents (slot : Nat) (c : Contents) (slots : List SlotRec) : List SlotRec :=
  mapFrom (fun n r =>
    if n == slot then { r with contents := c }
    else
      match c with
      | .probe id => if r.contents == .probe id then { r with contents := .unknown } else r
      | _ => r) 0 slots

/-- SLOT_SET (R119). -/
def Table.slotSet (p : Station) (slot : Byte) (code : BitVec 16) (t : Table) : Table :=
  let h := t.holder (16 + slot.toNat)
  let open_ : Bool :=
    match h with
    | .station _ => false
    | _ => true
  if slot.toNat < 8 && (h == .station p || (t.isPlanner p && open_)) then
    { t with slots := writeContents slot.toNat (contentsOfCode code) t.slots }
  else t

/-- SLOT_SENSE (R118). -/
def Table.slotSense (p : Station) (presences : SlotSet) (t : Table) : Table :=
  if (t.entry p).state == .attached && (t.entry p).role == .arm then
    { t with slots := mapFrom (fun n r =>
        let r := { r with sensed := if presences.getLsbD n then Sensed.present else Sensed.absent }
        if t.holder (16 + n) == .free then r.tested else r) 0 t.slots }
  else t

/-- The change that a frame's kind requires (R62). -/
def Table.change (p : Station) (f : ShareFrame) (now : Clock) (t : Table) : Table :=
  match f with
  | .lost stations => t.lose stations
  | .join fields => t.join p fields
  | .attach => t.attach p
  | .leave => t.leave p
  | .claim items => t.claim p items now
  | .withdraw => t.withdraw p
  | .release items => t.release p items
  | .clear item => t.clear p item
  | .slotSet slot code => t.slotSet p slot code
  | .slotSense presences => t.slotSense p presences

/-- The pending entries of stations whose roster state the change took out of ATTACHED are removed (R62). -/
def Table.dropLeavers (t before : Table) : Table :=
  { t with claims := t.claims.filter (fun e =>
      !((before.entry e.station).state == .attached && (t.entry e.station).state != .attached)) }

/-! ## Snapshot service -/

/-- The lowest-numbered station of the roster that meets `p`. -/
def Table.lowest (t : Table) (p : RosterEntry → Bool) : Option Station :=
  (findPlace p t.roster).bind (fun n => if h : n < 8 then some ⟨n, h⟩ else none)

/-- The station that answers a JOIN: the lowest ATTACHED with its serves-snapshots flag set (R84). -/
def Table.answerer (t : Table) : Option Station := t.lowest (fun r => r.state == .attached && r.serves)

/-- A capture ordered by an application: who captures, for whom, with which cause (R84). -/
structure Capturing where
  by_ : Station
  dest : Station
  cause : CaptureCause
  deriving DecidableEq, Repr

/-- The choice of the answering station at an application (R84), with the capture it orders. A test that finds no qualified station leaves
none answering, and no takeover follows until a JOIN tests again (the model's choice, log 20). -/
def Table.serve (p : Station) (f : ShareFrame) (t : Table) : Table × Option Capturing :=
  match f with
  | .join _ =>
    ({ t with answering := t.answerer },
      t.answerer.map (fun a => { by_ := a, dest := p, cause := .join }))
  | .lost _ | .leave =>
    match t.answering with
    | some a =>
      if (t.entry a).state == .attached then (t, none)
      else
        match t.lowest (fun r => r.state == .joining) with
        | some j => ({ t with answering := t.answerer },
            t.answerer.map (fun a => { by_ := a, dest := j, cause := .takeover }))
        | none => (t, none)
    | none => (t, none)
  | _ => (t, none)

/-- What the application of one share frame gives: the table, the entries the walk granted, a capture. -/
structure Applied where
  table : Table
  granted : List ClaimEntry
  capture : Option Capturing
  deriving DecidableEq, Repr

/-- The application of an accepted share frame to a table (R62): sequence, the frame's change, the entries of stations
that left ATTACHED, the grant walk, and the choice of the answering station. -/
def Table.apply (t : Table) (p : Station) (f : ShareFrame) (now : Clock) : Applied :=
  let counted := { t with seq := t.seq + 1 }
  let changed := (counted.change p f now).dropLeavers t
  let walked := changed.grantWalk
  let served := walked.1.serve p f
  { table := served.1, granted := walked.2, capture := served.2 }

/-- The table a founding JOIN builds: the initial table, with the JOIN applied as its first frame (R81). -/
def Table.found (p : Station) (f : JoinFields) : Table :=
  { Table.initial with
    seq := 1
    roster := updateAt (fun _ => f.entry .attached 0) p.val Table.initial.roster
    holders := mapFrom (fun i h => if (zoneItems f.standing).getLsbD i then Holder.station p else h) 0
      Table.initial.holders }

/-- The published standing set written from an accepted PRESENCE (R63). -/
def Table.publish (p : Station) (standing : ZoneSet) (t : Table) : Table :=
  if (t.entry p).state.inCell then t.updateEntry p (fun r => { r with published := standing }) else t

/-- The five parts of a snapshot image (R84, R85). -/
def Table.image (t : Table) (cause : CaptureCause) : List SnapshotPart :=
  [{ seq := t.seq, body := .roster cause t.roster },
   { seq := t.seq, body := .zonesLow (t.holders.take 8) },
   { seq := t.seq, body := .zonesHigh ((t.holders.drop 8).take 8) },
   { seq := t.seq, body := .slots (t.holders.drop 16) t.slots },
   { seq := t.seq, body := .claims (t.claims.map (fun e => (e.station, e.items))) }]

/-- A part added to the parts held (R86): one of each number, all of one image. -/
def collectPart (held : List SnapshotPart) (p : SnapshotPart) : List SnapshotPart :=
  if held.all (fun q => q.seq == p.seq) then held.filter (fun q => q.number != p.number) ++ [p] else [p]

/-- The part of a number. -/
def partNumbered (parts : List SnapshotPart) (n : Nat) : Option SnapshotPart := parts.find? (fun p => p.number == n)

/-- The table and cause that five parts of one image give, the clock noted beside each list entry (R87). -/
def tableOfParts (parts : List SnapshotPart) (now : Clock) : Option (Table × CaptureCause) :=
  match partNumbered parts 1, partNumbered parts 2, partNumbered parts 3, partNumbered parts 4, partNumbered parts 5 with
  | some ⟨seq, .roster cause roster⟩, some ⟨_, .zonesLow low⟩, some ⟨_, .zonesHigh high⟩, some ⟨_, .slots hs slots⟩,
    some ⟨_, .claims entries⟩ =>
    let t : Table := 
      { seq := seq, roster := roster, holders := low ++ high ++ hs, slots := slots,
        claims := entries.map (fun e => { station := e.1, items := e.2, noted := now }), answering := none }
    some ({ t with answering := t.answerer }, cause)
  | _, _, _, _, _ => none

/-- The stations that a frame takes out of the cell, as the table before shows them (R71, R72). -/
def Table.leaving (t : Table) (p : Station) (f : ShareFrame) : StationSet :=
  placesMask 8 (fun r => r.state.inCell) 0 t.roster &&&
    (match f with
      | .lost stations => stations
      | .leave => stationBit p
      | _ => 0)

/-- Presence records at the point before which `n` log entries stand, written into the table (R87). -/
def publishAt (n : Nat) (records : List PresenceRecord) (t : Table) : Table :=
  records.foldl (fun t r => if r.before == n then t.publish r.sender r.standing else t) t

/-- The logged entries after the image's place applied in order, each presence record at its point (R87). `n` is the
number of log entries up to and including the last one applied. -/
def replay (now : Clock) (records : List PresenceRecord) : Nat → List Logged → Table → Table
  | n, [], t => publishAt n records t
  | n, e :: rest, t => replay now records (n + 1) rest ((publishAt n records t).apply e.sender e.frame now).table

/-- The stations that a replay's LOST and LEAVE frames take out of the cell (R87, R156). -/
def leavers (now : Clock) (records : List PresenceRecord) : Nat → List Logged → Table → StationSet
  | _, [], _ => 0
  | n, e :: rest, t =>
    let before := publishAt n records t
    before.leaving e.sender e.frame ||| leavers now records (n + 1) rest (before.apply e.sender e.frame now).table

/-- The image's place in the log: the number of entries up to and including it (R87). -/
def imagePlace (cause : CaptureCause) (seq : BitVec 16) (log : List Logged) : Option Nat :=
  match cause with
  | .join => if log.isEmpty then none else some 1
  | .takeover => (findPlace (fun e => e.seq == seq &&
      (match e.frame with
        | .lost _ => true
        | .leave => true
        | _ => false)) log).map (· + 1)

end Sys2Proof.Machine
end

