-- ==== Sys2Proof/Machine/Flags.lean ====
section
/-! DEFINITION. The status that the station shows: masks, states and the PRESENCE fields (Tables 3-7, 12-5). -/

namespace Sys2Proof.Machine

open Sys2Proof

/-- The referenced mask: X bit 0, Y bit 1, Z bit 2 (R4, Table 3-7). -/
def State.referencedMask (s : State) : Byte :=
  (if s.axes.x.referenced then 1 else 0) ||| (if s.axes.y.referenced then 2 else 0)
    ||| (if s.axes.z.referenced then 4 else 0)

/-- The limit mask: XLMN, XLMP, YLMN, YLMP, ZLMN, ZLMP in bits 0 to 5 (Table 12-5). -/
def State.limitMask (s : State) : Byte :=
  (if s.axes.x.minusLimit then 1 else 0) ||| (if s.axes.x.plusLimit then 2 else 0)
    ||| (if s.axes.y.minusLimit then 4 else 0) ||| (if s.axes.y.plusLimit then 8 else 0)
    ||| (if s.axes.z.minusLimit then 16 else 0) ||| (if s.axes.z.plusLimit then 32 else 0)

/-- The scale-fault mask: X bit 0, Y bit 1, Z bit 2 (Table 12-5). -/
def State.scaleFaultMask (s : State) : Byte :=
  (if s.axes.x.scaleFault then 1 else 0) ||| (if s.axes.y.scaleFault then 2 else 0)
    ||| (if s.axes.z.scaleFault then 4 else 0)

/-- Any scale-fault input stands asserted (R8, R9). -/
def State.anyScaleFault (s : State) : Bool := s.axes.x.scaleFault || s.axes.y.scaleFault || s.axes.z.scaleFault

/-- The drive-enable outputs of the three axes: active together while the drives are ENERGIZED, and inactive in shadow mode (R3,
R9, R10). -/
def State.driveEnables (s : State) : Vec3 Bool :=
  let on := s.arm.energized && !s.arm.shadow
  ⟨on, on, on⟩

/-- One of the two lock pulse outputs: active while a pulse of its kind that drives its output is in flight (R100). -/
def State.pulseOutput (kind : PulseKind) (s : State) : Bool :=
  match s.head.pulse with
  | some p => p.kind == kind && p.driven
  | none => false

/-- The station's own conflict set (R89, R90). -/
def State.conflict (s : State) : ZoneSet :=
  match s.table with
  | some t => (t.entry s.me).conflict
  | none => 0

/-- The station is in JOIN_CONFLICT: ATTACHED with a conflict set that is not empty (R79). -/
def State.inConflict (s : State) : Bool := s.join.st == .attached && s.conflict != 0

/-- The join state as it is shown (R79). -/
def State.joinShown (s : State) : JoinShown :=
  match s.join.st with
  | .listening => .listening
  | .joining => .joining
  | .attached => if s.conflict != 0 then .joinConflict else .attached
  | .quiet => .quiet

/-- The share sequence shown: 0 without a table (R62). -/
def State.shownSeq (s : State) : BitVec 16 :=
  match s.table with
  | some t => t.seq
  | none => 0

/-- The mounted probe state code: NONE, RESOLVED, UNRESOLVED (Table 3-7). -/
def Mounted.stateCode : Mounted → Nat
  | .none => 0
  | .resolved _ => 1
  | .unresolved _ => 2

/-- The config state shown is FAULT while the load state is READING or FAULT (R176). -/
def State.configFaultShown (s : State) : Bool := s.setup.load != .loaded

/-- The false-trigger count of the current motion: 0 while no motion is current (R102, R107). -/
def State.falseTriggers (s : State) : Nat := s.arm.motion.elim 0 (·.falseTriggers)

/-- The PRESENCE fields as the station stands (R57, Table 3-7). -/
def State.presenceFields (s : State) : PresenceFields :=
  { role := .arm, join := s.joinShown, configFault := s.configFaultShown, arm := s.arm.st, run := s.run.st,
    owner := s.run.owner, referenced := s.referencedMask, standing := s.keep,
    mountedState := BitVec.ofNat 8 s.mounted.stateCode, mountedId := s.mounted.shown,
    lastFault := BitVec.ofNat 8 (lastFaultCode s.lastFault), shareSeq := s.shownSeq, shadow := s.arm.shadow }

end Sys2Proof.Machine
end

