-- ==== Sys2Proof/Machine/Agent.lean ====
section
/-! DEFINITION. The claim agent (R73 to R77). What a requester does when it is told of its claim stands with the motion
controller. -/

namespace Sys2Proof.Machine

open Sys2Proof

/-- The items of a wanted set that are not counted as held (R73). -/
def State.missing (wanted : ItemSet) (s : State) : ItemSet := wanted &&& ~~~ (s.held &&& ~~~ s.releasing)

/-- A CLAIM of a claim is on the line, or accepted with its application to come. -/
def State.claimOnLine (serial : Nat) (s : State) : Bool :=
  s.agent.applying == some serial || (s.m1OnLine && (s.line.m1.take 1).any (M1Entry.isClaimOf serial))

/-- A CLAIM of a claim waits in M1 and is not on the line. -/
def State.claimWaits (serial : Nat) (s : State) : Bool := s.waitsInM1 (M1Entry.isClaimOf serial)

/-- The agent with its current claim replaced. -/
def State.setClaim (c : Option CurrentClaim) (s : State) : State := { s with agent := { s.agent with current := c } }

/-- The agent with its retired claim replaced. -/
def State.setRetired (r : Option RetiredClaim) (s : State) : State := { s with agent := { s.agent with retired := r } }

/-- A new current claim, whose CLAIM is appended to M1 (R73). -/
def State.newClaim (r : Requester) (wanted missing : ItemSet) (s : State) : State :=
  let n := s.agent.formed
  let s := s.pushM1 (.claim missing n)
  { s with agent := { s.agent with
      current := some { requester := r, wanted := wanted, items := missing, phase := .queued, timer := none, serial := n }
      formed := n + 1 } }

/-- The current claim taken over by a request with a missing set (R73): its CLAIM that waits is rewritten, the last one where
two wait, or a CLAIM that replaces its entry in place is appended. -/
def State.takeOver (c : CurrentClaim) (r : Requester) (wanted missing : ItemSet) (s : State) : State :=
  let c' := { c with requester := r, wanted := wanted, items := missing }
  if missing == c.items then s.setClaim (some c')
  else if s.claimWaits c.serial then
    (s.rewriteLastM1 (M1Entry.isClaimOf c.serial) (.claim missing c.serial)).setClaim (some c')
  else (s.pushM1 (.claim missing c.serial)).setClaim (some c')

/-- A request (R73). The flag tells whether the agent answers at once that the items are held; a current claim then stays as it is,
with its requester (the model's choice, log 65). -/
def State.request (r : Requester) (wanted : ItemSet) (s : State) : State × Bool :=
  if s.join.st != .attached then (s, false)
  else
    let missing := s.missing wanted
    if missing == 0 then (s, true)
    else
      match s.agent.current with
      | none => (s.newClaim r wanted missing, false)
      | some c =>
        if c.phase == .expiring then
          if s.waitsInM1 M1Entry.isWithdraw then
            ((s.removeM1 M1Entry.isWithdraw).takeOver { c with phase := .pending, timer := some s.clock } r wanted missing,
              false)
          else
            ((s.setRetired (some { items := c.items, phase := .withdrawing, serial := c.serial })).newClaim r wanted missing,
              false)
        else (s.takeOver c r wanted missing, false)

/-- The CLAIMs of a claim that has ended are of no further use: those that wait in M1 are removed, and with one on the line the
claim is the retired claim with phase RETIRING (R76; log 47 for CLAIMs that replace an entry). -/
def State.endFrames (items : ItemSet) (serial : Nat) (s : State) : State :=
  let s' := s.removeAllM1 (M1Entry.isClaimOf serial)
  if s.claimOnLine serial then s'.setRetired (some { items := items, phase := .retiring, serial := serial }) else s'

/-- A requester's need has ended, and the claim is dropped (R76). A stop does not drop the CONFLICT claim (R90). -/
def State.dropClaim (s : State) : State :=
  match s.agent.current with
  | none => s
  | some c =>
    if c.requester == .conflict then s
    else
      let withdrawing : RetiredClaim := { items := c.items, phase := .withdrawing, serial := c.serial }
      match c.phase with
      | .queued => (s.setClaim none).endFrames c.items c.serial
      | .pending => ((s.pushM1 .withdraw).setClaim none).setRetired (some withdrawing)
      | .expiring => (s.setClaim none).setRetired (some withdrawing)

/-- The items of the station's own entries among the granted ones. -/
def grantedTo (n : Station) (granted : List ClaimEntry) : ItemSet :=
  claimedItems (granted.filter (fun e => e.station == n))

/-- An unwanted grant of the retired claim (R77): what neither the arm nor the current claim wants is released, the WITHDRAW that
waits is removed, and the retired claim is gone, but for a CLAIM of its own on the line (log 47). -/
def State.returnGrant (r : RetiredClaim) (granted : ItemSet) (s : State) : State :=
  let wanted := s.agent.current.elim 0 (·.wanted)
  let s := s.queueRelease (granted &&& ~~~ zoneItems s.keep &&& ~~~ wanted)
  ((s.removeM1 M1Entry.isWithdraw).setRetired none).endFrames r.items r.serial

/-- The current claim's wait has ended with every wanted item held (R74, R75): its WITHDRAW, if one waits, is removed, and
the requester is told. -/
def State.claimHeld (c : CurrentClaim) (s : State) : State × Option Requester :=
  let s := if c.phase == .expiring then s.removeM1 M1Entry.isWithdraw else s
  ((s.setClaim none).endFrames c.items c.serial, some c.requester)

/-- Items are still missing when the claim's entry is gone: the claim goes on QUEUED with its CLAIM that is still to be applied
(the model's choice, log 47), or is formed again from the present table (R74). -/
def State.claimAgain (c : CurrentClaim) (s : State) : State :=
  let s := if c.phase == .expiring then s.removeM1 M1Entry.isWithdraw else s
  if s.claimWaits c.serial || s.claimOnLine c.serial then s.setClaim (some { c with phase := .queued, timer := none })
  else s.newClaim c.requester c.wanted (s.missing c.wanted)

/-- The CLAIM of the current claim waits in M1. -/
def State.currentWaits (s : State) : Bool := s.agent.current.any (fun c => s.claimWaits c.serial)

/-- A CLAIM of the retired claim has been applied (R76): its grant is unwanted; the entry that it leaves passes to a current claim
whose CLAIM waits, or is withdrawn. `entry` tells whether the list holds one. -/
def State.retiredApplied (r : RetiredClaim) (granted : ItemSet) (entry : Bool) (s : State) : State :=
  if granted != 0 then s.returnGrant r granted
  else if r.phase != .retiring then s
  else if !entry || s.currentWaits then s.setRetired none
  else (s.pushM1 .withdraw).setRetired (some { r with phase := .withdrawing })

/-- A CLAIM of the current claim has been applied (R74). With an entry in the list the claim becomes PENDING, and a stopped timer starts
from the clock value noted beside the entry. R74 names no exception for an EXPIRING claim, whose WITHDRAW stands in M1 behind the CLAIM
that replaced the entry: that claim keeps its phase (the model's choice, log 82). -/
def State.currentApplied (c : CurrentClaim) (table : Table) (s : State) : State × Option Requester :=
  if c.wanted &&& ~~~ table.heldBy s.me == 0 then s.claimHeld c
  else
    match table.claims.find? (fun e => e.station == s.me) with
    | some e =>
      if c.phase == .expiring then (s, none)
      else
        (s.setClaim (some { c with
          phase := .pending
          timer := if c.requester == .conflict then none else c.timer <|> some e.noted }), none)
    | none => (s.claimAgain c, none)

/-- The agent at the application of the station's own CLAIM (R74, R76, R77); `table` is the table after the walk. The CLAIM
belongs to the claim whose number it carries. -/
def State.ownClaimApplied (table : Table) (granted : List ClaimEntry) (s : State) : State × Option Requester :=
  let n := s.agent.applying
  let s := { s with agent := { s.agent with applying := none } }
  match s.agent.retired.filter (fun r => n == some r.serial), s.agent.current.filter (fun c => n == some c.serial) with
  | some r, _ => (s.retiredApplied r (grantedTo s.me granted) (table.claims.any (fun e => e.station == s.me)), none)
  | none, some c => s.currentApplied c table
  | none, none => (s, none)

/-- The agent at any other application: a grant of the station's own entry (R74, R75, R77), or its own WITHDRAW, which
ends the retired claim (R76). A grant of an entry that belongs to neither claim leaves its items held (the model's choice,
log 56). -/
def State.grantApplied (table : Table) (granted : List ClaimEntry) (s : State) : State × Option Requester :=
  let mine := grantedTo s.me granted
  if mine == 0 then (s, none)
  else
    match s.agent.retired, s.agent.current with
    | some r, _ => (s.returnGrant r mine, none)
    | none, none => (s, none)
    | none, some c => if c.wanted &&& ~~~ table.heldBy s.me == 0 then s.claimHeld c else (s.claimAgain c, none)

/-- The agent at an application (R74 to R77). -/
def State.agentApplied (p : Station) (f : ShareFrame) (table : Table) (granted : List ClaimEntry) (s : State) :
    State × Option Requester :=
  match f with
  | .claim _ => if p == s.me then s.ownClaimApplied table granted else s.grantApplied table granted
  | .withdraw =>
    let told := s.grantApplied table granted
    if p == s.me then
      (told.1.setRetired (told.1.agent.retired.filter (fun r => r.phase != .withdrawing)), none)
    else told
  | _ => s.grantApplied table granted

/-- The timeout of the claim takes effect as its WITHDRAW wins arbitration (R75): the claim is retired; the requester and
the items still missing are the answer: the wanted items that the table does not show held, so that one which an own RELEASE in M1
names is not among them (the model's choice, log 84). -/
def State.claimFailed (s : State) : State × Option (Requester × ItemSet) :=
  match s.agent.current with
  | some c =>
    if c.phase == .expiring then
      ((s.setClaim none).setRetired (some { items := c.items, phase := .withdrawing, serial := c.serial }),
        some (c.requester, c.wanted &&& ~~~ s.held))
    else (s, none)
  | none => (s, none)

end Sys2Proof.Machine
end

