-- ==== Sys2Proof/Machine/Temperature.lean ====
section
/-! DEFINITION. The thermal unit: local channels, scans, the peer table, role resolution, the settle monitor and the
staleness test (chapters 10 and 11). -/

namespace Sys2Proof.Machine

open Sys2Proof

/-! ## Channels -/

/-- A channel as a good image forms it (R147). -/
def ChannelConf.initial (c : ChannelConf) : Channel :=
  if c.enabled then { Channel.off with st := .unavailable } else Channel.off

/-- The peer table as a good image forms it (R153). -/
def initialPeers (watch : List (Byte × Byte)) : List PeerEntry :=
  watch.map (fun w =>
    { station := w.1, channel := w.2, value := none, st := .unavailable, cadence := none, history := [], rate := none,
      updated := none, since := none })

/-- The judgement of a conversion against its channel's thresholds (R149). -/
def ChannelConf.judge (c : ChannelConf) (v : Temp) : Judged :=
  if c.openAt.sle v then .bad else if v.sle c.shortAt then .bad else .good v

/-- The filter: f + (v - f)/2^k, the quotient rounded once (R150). -/
def filterStep (k : Byte) (f v : Temp) : Temp := BitVec.ofInt 16 (f.toInt + roundDiv (v.toInt - f.toInt) (2 ^ k.toNat))

/-- A rate, limited to -32,767 to 32,767 (R150). -/
def limitRate (r : Int) : Temp :=
  if r < -32767 then BitVec.ofInt 16 (-32767) else if 32767 < r then BitVec.ofInt 16 32767 else BitVec.ofInt 16 r

/-- The rate that a new value gives with a history: unknown below eight values (R150). -/
def rateOf (cadence : Nat) (history : List Temp) (new : Temp) : Option Temp :=
  match history with
  | oldest :: rest =>
    if rest.length = 7 then some (limitRate (roundDiv ((new.toInt - oldest.toInt) * 60000) (8 * cadence))) else none
  | [] => none

/-- A value appended to a history of at most eight (R150). -/
def remember (history : List Temp) (v : Temp) : List Temp :=
  if history.length < 8 then history ++ [v] else history.drop 1 ++ [v]

/-- A channel seeded by its first good reading (R150). -/
def Channel.seeded (c : Channel) (v : Temp) : Channel :=
  { c with filtered := some v, history := [v], rate := none, st := .fresh, since := none }

/-- A channel after a scan that converted it (R150). -/
def Channel.update (now : Clock) (cadence : Nat) (k : Byte) (j : Judged) (c : Channel) : Channel :=
  match j, c.st with
  | .good v, .fresh =>
    match c.filtered with
    | some f =>
      let f' := filterStep k f v
      { c with filtered := some f', rate := rateOf cadence c.history f', history := remember c.history f' }
    | none => c.seeded v
  | .good v, .subst => c.seeded v
  | .good v, .unavailable => c.seeded v
  | .bad, .fresh => { c with st := .subst, since := some now }
  | _, _ => c

/-- Whether an age counted from a clock value has reached a limit in ms (R112's modulo 2^32). -/
def aged (now : Clock) (since : Option Clock) (limit : Nat) : Bool :=
  match since with
  | some t => decide (limit ≤ (now - t).toNat)
  | none => false

/-- A SUBST channel that has reached the age limit becomes UNAVAILABLE (R151). -/
def Channel.ageTo (now : Clock) (limit : Nat) (c : Channel) : Channel :=
  if c.st == .subst && aged now c.since limit then { c with st := .unavailable, since := none, rate := none } else c

/-- The numbers of the enabled channels, ascending (R148). -/
def enabledChannels (confs : List ChannelConf) : List Nat :=
  (List.range 12).filter (fun n => (confs.getD n ⟨false, false, 0, 0, 0⟩).enabled)

/-- The channel records after a scan's results (R150) and the ageing (R151). -/
def scanChannels (now : Clock) (c : Image) (results : List (Nat × Judged)) (channels : List Channel) : List Channel :=
  mapFrom (fun n ch =>
    let ch := match results.find? (fun r => r.1 == n) with
      | some r => ch.update now c.cadence.toNat ((c.channels.getD n ⟨false, false, 0, 0, 0⟩).shift) r.2
      | none => ch
    ch.ageTo now (1000 * c.ageLimit.toNat)) 0 channels

/-! ## Peer entries -/

/-- A peer entry that stands in from now on. -/
def PeerEntry.substitute (now : Clock) (e : PeerEntry) : PeerEntry := { e with st := .subst, since := some now }

/-- A peer entry at a scan completion (R155); both tests are made on the entry as it was. -/
def PeerEntry.age (now : Clock) (limit : Nat) (e : PeerEntry) : PeerEntry :=
  match e.st with
  | .fresh =>
    match e.cadence with
    | some c => if aged now e.updated (3 * c.toNat) then e.substitute now else e
    | none => e
  | .subst => if aged now e.since limit then { e with st := .unavailable, rate := none, since := none } else e
  | _ => e

/-- The readings of lost or left stations, or of all at a detach, stand in (R156). -/
def substitutePeers (now : Clock) (gone : Byte → Bool) (peers : List PeerEntry) : List PeerEntry :=
  peers.map (fun e => if gone e.station && e.st == .fresh then e.substitute now else e)

/-- A peer entry updated by one carried channel (R154). -/
def PeerEntry.take (now : Clock) (cadence : BitVec 16) (state : Nat) (v : Temp) (e : PeerEntry) : PeerEntry :=
  let e := { e with updated := some now }
  let e := if e.cadence == some cadence then e else { e with cadence := some cadence, history := [], rate := none }
  match state with
  | 0 =>
    if e.st == .fresh then
      { e with value := some v, rate := rateOf cadence.toNat e.history v, history := remember e.history v }
    else { e with value := some v, history := [v], rate := none, st := .fresh, since := none }
  | 1 =>
    if e.st == .subst then { e with value := some v }
    else { e with value := some v, st := .subst, since := some now }
  | _ => { e with st := .unavailable, rate := none, since := none }

/-- The peer table after the channels of a THERMAL payload, taken in order (R154); a state code above 2 is skipped. A channel that the
payload carries twice is taken twice (the model's choice, log 72). -/
def takeChannels (now : Clock) (sender : Station) (cadence : BitVec 16) : List Byte → List PeerEntry → List PeerEntry
  | a :: hi :: lo :: rest, peers =>
    let state := a.toNat % 16
    let v : Temp := wordAt [hi, lo] 0
    let peers := if state ≤ 2 then peers.map (fun e =>
      if e.station.toNat == sender.val && e.channel.toNat == a.toNat / 16 then e.take now cadence state v else e)
      else peers
    takeChannels now sender cadence rest peers
  | _, peers => peers

/-- A THERMAL payload taken into the peer table (R153: its form must be right). -/
def takeThermal (now : Clock) (sender : Station) (p : List Byte) (peers : List PeerEntry) : List PeerEntry :=
  if 2 ≤ p.length && (p.length - 2) % 3 == 0 && within 100 10000 (fieldAt p 0 2) then
    takeChannels now sender (wordAt p 0) (p.drop 2) peers
  else peers

/-! ## Roles, settling, staleness -/

/-- A source's state, value and rate (R158). -/
def sourceReading (t : Thermal) : Source → ChannelState × Option Temp × Option Temp
  | .local n =>
    match t.channels[n.toNat]? with
    | some c => (c.st, c.filtered, c.rate)
    | none => (.off, none, none)
  | .peer a b =>
    match t.peers.find? (fun e => e.station == a && e.channel == b) with
    | some e => (e.st, e.value, e.rate)
    | none => (.off, none, none)

/-- A role's value, quality and source rate (R158). -/
def resolveRole (t : Thermal) (r : RoleConf) : RoleValue :=
  match sourceReading t r.primary with
  | (.fresh, v, rate) => { value := v, quality := .good, rate := rate }
  | (.subst, v, rate) => { value := v, quality := .degraded, rate := rate }
  | _ =>
    match r.fallback.map (sourceReading t) with
    | some (.fresh, v, rate) => { value := v, quality := .degraded, rate := rate }
    | some (.subst, v, rate) => { value := v, quality := .degraded, rate := rate }
    | _ => RoleValue.none

/-- A resolution of the five roles (R159). -/
def resolveRoles (c : Image) (t : Thermal) : List RoleValue := c.roles.map (resolveRole t)

/-- A role of a resolution: SCALE_X, SCALE_Y, SCALE_Z, PART, ARM are 0 to 4. -/
def roleAtIndex (roles : List RoleValue) (n : Nat) : RoleValue := roles.getD n RoleValue.none

/-- A settle condition is bad (R163). -/
def roleBad (limit : BitVec 16) (r : RoleValue) : Bool :=
  match r.value, r.rate with
  | some _, some rate => decide (limit.toNat < rate.toInt.natAbs)
  | _, _ => true

/-- The settle monitor's evaluation (R163). -/
def evaluateSettle (now : Clock) (c : Image) (t : Thermal) : Thermal :=
  if t.roles.any (roleBad c.rateLimit) then { t with steadySince := none, settled := false }
  else
    match t.steadySince with
    | none => { t with steadySince := some now, settled := t.settled || c.settleTime == 0 }
    | some since => { t with settled := t.settled || aged now (some since) (1000 * c.settleTime.toNat) }

/-- The staleness test of a record against an ARM value (R165). -/
def ProbeRecord.judgeStale (band : BitVec 16) (arm : Option Temp) (r : ProbeRecord) : ProbeRecord :=
  match r.qual, r.data, arm with
  | .qualified, some d, some v =>
    if band.toNat < (v.toInt - d.temp.toInt).natAbs then { r with qual := .stale } else r
  | _, _, _ => r

/-- The staleness test of the mounted probe's record (R165). -/
def State.judgeStale (arm : Option Temp) (s : State) : State :=
  match s.config, s.mounted.id with
  | some c, some id => s.updateProbe id (ProbeRecord.judgeStale c.band arm)
  | _, _ => s

/-- The ARM role as it resolves now (R159). -/
def State.armNow (s : State) : Option Temp :=
  match s.config with
  | some c => (roleAtIndex (resolveRoles c s.thermal) 4).value
  | none => none

/-! ## The scan -/

/-- The content of a THERMAL frame at a scan completion (R152). -/
def thermalContent (c : Image) (channels : List Channel) : ThermalContent :=
  { cadence := c.cadence,
    carried := (List.range 12).filterMap (fun n =>
      match c.channels[n]?, channels[n]? with
      | some conf, some ch => if conf.enabled && conf.shared then some (n, ch.st, ch.filtered.getD 0) else none
      | _, _ => none) }

/-- Whether the frame on the line is a THERMAL of this station. -/
def TxContent.isThermal : TxContent → Bool
  | .thermal _ => true
  | _ => false

/-- The THERMAL slot filled (R56, R152): beside a THERMAL on the line the new content waits. -/
def State.fillThermal (content : ThermalContent) (s : State) : State :=
  if content.carried.isEmpty then s
  else
    { s with line := { s.line with
        thermal := some content
        tx := s.line.tx.map (fun tx => if tx.content.isThermal then { tx with renewed := true } else tx) } }

/-- A scan completion up to the settle monitor's evaluation (R152, R150, R151, R155, R159, R163). -/
def State.measure (c : Image) (results : List (Nat × Judged)) (s : State) : State :=
  let t := s.thermal
  let t := { t with
    channels := scanChannels s.clock c results t.channels
    peers := t.peers.map (PeerEntry.age s.clock (1000 * c.ageLimit.toNat))
    scan := none }
  let t := { t with roles := resolveRoles c t }
  let t := evaluateSettle s.clock c t
  let s' := { s with thermal := t }
  if t.settled != s.thermal.settled then s'.emit (.settle t.settled) else s'

/-- What a scan completion does after the settle monitor: the staleness test and the THERMAL slot (R152, R165). -/
def State.afterSettle (c : Image) (s : State) : State :=
  (s.judgeStale (roleAtIndex s.thermal.roles 4).value).fillThermal (thermalContent c s.thermal.channels)

/-- The thermal unit as a good image sets it (R147, R148, R153, R166). -/
def Thermal.ofImage (now : Clock) (c : Image) : Thermal :=
  { Thermal.cold with
    channels := c.channels.map ChannelConf.initial
    peers := initialPeers c.watch
    cadence := some now }

end Sys2Proof.Machine
end

