-- ==== Sys2Proof/Machine/Points.lean ====
section
/-! DEFINITION. The capture unit, the ring, the report decision and the correction unit (chapter 7, R160 to R162). -/

namespace Sys2Proof.Machine

open Sys2Proof

/-! ## Correction -/

/-- A coordinate corrected (R161), in exact arithmetic over 10^20: the scale term, then the part term, rounded once. -/
def correctCoordinate (p : Int) (scaleCoeff : Nat) (scale : Option Temp) (datum : Int) (partCoeff : Nat)
    (part : Option Temp) : Int :=
  let q : Int :=
    match scale with
    | some t => p * 10 ^ 10 + p * scaleCoeff * (t.toInt - 2000)
    | none => p * 10 ^ 10
  let p' : Int :=
    match part with
    | some t => q * 10 ^ 10 - (q - datum * 10 ^ 10) * partCoeff * (t.toInt - 2000)
    | none => q * 10 ^ 10
  roundDiv p' (10 ^ 20)

/-- The corrected tip centre (R161). -/
def correctPoint (c : Image) (part : PartData) (roles : List RoleValue) (tip : Vec3 Lu) : Vec3 Lu :=
  vmap (fun a p => toLu (correctCoordinate p.toInt (vget c.scaleCoeff a).toNat (roleAtIndex roles (axisCode a)).value
    (vget part.datum a).toInt part.coeff.toNat (roleAtIndex roles 3).value)) tip

/-- The roles that correction uses: the scale roles, and PART when its coefficient is not 0 (R162). -/
def rolesUsed (part : PartData) (roles : List RoleValue) : List RoleValue :=
  if part.coeff == 0 then roles.take 3 else roles.take 4

/-- The correction flags, with SHADOW (R162, R108). -/
def correctionFlags (part : PartData) (roles : List RoleValue) (settled shadow : Bool) : PointFlags :=
  { unsettled := !settled,
    degraded := (rolesUsed part roles).any (fun r => r.quality == .degraded),
    uncorrected := (rolesUsed part roles).any (fun r => r.value.isNone),
    shadow := shadow }

/-! ## The report decision -/

/-- A POINTS frame of the station is on the line (R112). -/
def State.pointsOnLine (s : State) : Bool :=
  match s.line.tx with
  | some tx =>
    match tx.content with
    | .points _ => true
    | _ => false
  | none => false

/-- A report is due (R112). -/
def State.reportDue (s : State) : Bool :=
  match s.cap.ring with
  | [] => false
  | oldest :: _ =>
    decide (s.cap.level.toNat ≤ s.cap.ring.length) || decide (s.cap.timeout.toNat ≤ (s.age oldest.time).toNat)
      || s.cap.drain

/-- The points a decision names: the head, with the second when it has the head's report address (R112). -/
def pointsNamed : List Point → Nat
  | [] => 0
  | [_] => 1
  | a :: b :: _ => if a.report == b.report then 2 else 1

/-- The report decision (R112). -/
def State.decideReport (s : State) : State :=
  if s.pointsOnLine then s
  else { s with line := { s.line with points := if s.reportDue then pointsNamed s.cap.ring else 0 } }

/-- The drain mark set when the ring is not empty, and the decision (R112: at a run end and at a detach). -/
def State.drainRing (s : State) : State :=
  { s with cap := { s.cap with drain := s.cap.drain || !s.cap.ring.isEmpty } }.decideReport

/-- Points that an accepted frame carried leave the head of the ring (R109, R113). -/
def State.dropPoints (n : Nat) (s : State) : State :=
  let ring := s.cap.ring.drop n
  { s with cap := { s.cap with ring := ring, drain := s.cap.drain && !ring.isEmpty } }

/-! ## Building a point -/

/-- The point that an accepted contact gives, with the fields of the record and the roles resolved now (R108). -/
def State.pointAt (s : State) (c : Image) (tag : BitVec 16) (report : Station) (id : ProbeId) (d : QualData)
    (raw : Vec3 Lu) : Point :=
  let roles := resolveRoles c s.thermal
  let tip := vmap (fun a r => luAdd r (vget d.offset a)) raw
  { number := s.cap.counter, tag := tag, report := report, time := s.clock, raw := raw, tip := tip,
    corrected := correctPoint c s.part roles tip, probe := id, radius := d.radius,
    temps := roles.map (fun r => (r.value, r.quality)),
    flags := correctionFlags s.part roles s.thermal.settled s.arm.shadow }

/-- A contact accepted in the travel of a PROBE segment builds one point, which joins the tail of the ring (R108, R109).
Gate 3 gives the record its qualified data and a run its owner, and gate 4 the ring its room (R103). Where the mounted probe has no
record or no qualified data by then, no point is built and the counter stays (the model's choice, log 59). -/
def State.buildPoint (raw : Vec3 Lu) (s : State) : State :=
  match s.config, s.run.current, s.run.owner, s.mountedRecord with
  | some c, some seg, some owner, some r =>
    match r.data with
    | some d =>
      if 64 ≤ s.cap.ring.length then s
      else
        let p := s.pointAt c seg.tag owner r.defined.id d raw
        { s with cap := { s.cap with ring := s.cap.ring ++ [p], counter := s.cap.counter + 1 } }.decideReport
    | none => s
  | _, _, _, _ => s

end Sys2Proof.Machine
end

