-- ==== Sys2Proof/Machine/Ends.lean ====
section
/-! DEFINITION. How motions, changes, excursions and runs end: interruption (R35), run ends (R22), the end of a change
(R128 to R131), the end of the excursion stack (R139), the three ways a fault acts, and stops (R23, R32). -/

namespace Sys2Proof.Machine

open Sys2Proof

/-! ## Motions -/

/-- No motion is current, and the trigger qualifier is disarmed (R107). -/
def State.endMotion (s : State) : State :=
  { s with arm := { s.arm with motion := none }, trig := { s.trig with latch := none, blocked := false } }

/-- The arm stands: STILL, or OFF without drives, with no motion and no stop. -/
def State.standStill (s : State) : State :=
  let s := s.endMotion
  { s with arm := { s.arm with st := if s.arm.energized then .still else .off, stopping := none } }

/-- A motion that keeps the arm at rest: a dwell, a step in place, or a wait at the target for a latch (R31, R137, R103). -/
def Motion.resting (m : Motion) : Bool :=
  match m.act with
  | .dwell => true
  | .inPlace => true
  | _ => m.atTarget

/-- The arm is executing a motion: MOVING, HOMING or DECELERATING (R101). -/
def State.executing (s : State) : Bool :=
  match s.arm.st with
  | .moving => true
  | .homing => true
  | .decelerating => true
  | _ => false

/-- The setpoints of a motion are moving: the arm executes a motion that is not at rest. -/
def State.travelling (s : State) : Bool :=
  s.executing && (match s.arm.motion with
    | some m => !m.resting
    | none => false)

/-- An interruption: the standing set joins the required set of the motion begun and not completed (R35, log 12). -/
def State.interrupt (s : State) : State :=
  { s with arm := { s.arm with standing := s.arm.standing ||| s.arm.begun, begun := 0 } }

/-- The motion begun has completed or arrived, with a new standing set (R30, R15, R137, R138). -/
def State.arriveIn (standing : ZoneSet) (s : State) : State :=
  { s with arm := { s.arm with standing := standing, begun := 0 } }

/-- The motion begun has completed with the standing set as it is (R35, R125, R142): nothing begun is left to be interrupted. -/
def State.moveDone (s : State) : State := s.arriveIn s.arm.standing

/-- What the motion controller was to start is given up, with any referencing. The referenced flags stay as they are: an axis whose
mark has been met keeps its flag, though its seek has not ended (the model's choice, log 54). -/
def State.clearStarts (s : State) : State :=
  { s with arm := { s.arm with todo := none, itemsHeld := false, seeks := [], markMet := false } }

/-- The drives are de-energized at once, and the arm is OFF (R10); each setpoint is held at its position (R3). -/
def State.deenergize (s : State) : State :=
  let s := s.endMotion
  ({ s with arm := { s.arm with st := .off, energized := false, stopping := none } }).holdSetpoints

/-! ## Runs -/

/-- The queue is flushed and the stack discarded; the current segment stays until the run ends (R23, R32). -/
def State.flush (s : State) : State := { s with run := { s.run with queue := [], stack := [] } }

/-- The RUN_END that a run end sets. With a detach due, by a ninth M1 entry of the same command, it is the detach that ends the
run (R53, R92, log 15). -/
def State.runEndEvent (reason : RunEndReason) (reasonByte : Byte) (s : State) : Event :=
  if s.detachDue.isSome then .runEnd .detached 0 else .runEnd reason reasonByte

/-- A run end (R22, R112). A run that is not in progress does not end. -/
def State.endRun (reason : RunEndReason) (reasonByte : Byte) (s : State) : State :=
  if s.run.st == .none then s
  else
    let s := if reason == .detached then s else s.dropClaim
    let s := s.clearStarts
    let s := { s with run := Run.cold }
    let s := if reason == .detached then s else s.releaseOutside s.keep
    (s.emit (s.runEndEvent reason reasonByte)).drainRing

/-! ## The end of a change -/

/-- The slots of a change that the station holds. -/
def State.changeSlots (r : ChangeRecord) (s : State) : ItemSet := (slotItems r.pick ||| slotItems r.drop) &&& s.held

/-- The change controller is IDLE. -/
def State.dropChange (s : State) : State := { s with chg := { s.chg with change := none } }

/-- CHANGE_END with the mounted ID as recorded now. -/
def State.changeEnded (outcome : ChangeOutcome) (s : State) : State := s.emit (.changeEnd outcome s.mounted.shown)

/-- A pulse that a change requested is in flight or waiting (R129). -/
def Head.hasPulseOf (change : Nat) (h : Head) : Bool :=
  h.pulse.any (fun p => p.change == change) || h.waiting.any (fun p => p.change == change)

/-- The window of an ended change has closed: the probe table judges the head as it stands, and CHANGE_END is set when it has
been judged (R129). -/
def State.judgeHead (outcome : ChangeOutcome) (s : State) : State :=
  if !s.head.seated then ({ s with mounted := .none }).changeEnded outcome
  else if s.mounted == .none then
    ({ s with chg := { s.chg with judging := s.chg.judging ++ [outcome] } }).requestRead
      (fun r => { r with forJudge := true })
  else s.changeEnded outcome

/-- The window of every ended change closes whose own pulses have all ended (R129). -/
def State.closeWindows (s : State) : State :=
  let ready := s.chg.closing.filter (fun w => !s.head.hasPulseOf w.1)
  let open_ := s.chg.closing.filter (fun w => s.head.hasPulseOf w.1)
  ready.foldl (fun s w => s.judgeHead w.2) { s with chg := { s.chg with closing := open_ } }

/-- A change requests a pulse. A waiting request that it replaces is driven no more, and the window of that request's change may
close (R100, R129). -/
def State.askPulse (kind : PulseKind) (r : ChangeRecord) (s : State) : State :=
  (s.requestPulse kind r.serial).closeWindows

/-- A request that waits for the pulse in flight is discarded, as a RESTART and a detach do (R100). -/
def State.discardWaiting (s : State) : State := ({ s with head := { s.head with waiting := none } } : State).closeWindows

/-- The change ends FAILED or ABORTED: at once where its window is closed, otherwise with the window (R129). A read that it
waited for goes on without it (R99). -/
def State.endChange (outcome : ChangeOutcome) (r : ChangeRecord) (s : State) : State :=
  let s := s.dropChange
  let s := { s with head := { s.head with idRead := s.head.idRead.map (fun (q : IdRead) => { q with forChange := false }) } }
  if r.window then
    ({ s with chg := { s.chg with closing := s.chg.closing ++ [(r.serial, outcome)] } } : State).closeWindows
  else s.changeEnded outcome

/-- The change's own end DONE: CHANGE_END, and the staleness test of the newly mounted probe (R128, R132, R165). A change is a
rehearsed one here while shadow mode is still on: one whose RELEASE is applied after SHADOW off is tested, and may be followed by
a QUALIFY (the model's choice, log 67). -/
def State.changeDone (s : State) : State :=
  let s := s.dropChange.changeEnded .done
  if s.arm.shadow then s else s.judgeStale s.armNow

/-- Whether the steps of a change have left CH_CLAIM. -/
def ChangeStep.pastClaim : ChangeStep → Bool
  | .begin => false
  | .claim => false
  | _ => true

/-- A change in progress is aborted (R131), or, in CH_DONE, ends DONE (R128). The LOCK is requested in CH_UNLOCK while the head
has not emptied; a shadow change's head is taken as emptied at the end of its pulse (R132). In the recovery from CHANGE_STUCK the step
is CH_UNLOCK still, so that a further LOCK is requested also when the recovery has requested its own or moves back already; R131 speaks
of the LOCK behind the UNLOCK in flight alone (the model's choice, log 76). -/
def State.abortChange (s : State) : State :=
  match s.chg.change with
  | none => s
  | some r =>
    if r.step == .done then s.changeDone
    else
      let s := if r.step == .unlock && (s.arm.shadow || s.head.seated) then s.askPulse .lock r else s
      let s := if r.step.pastClaim then
          match s.config with
          | some c => { s with arm := { s.arm with standing := s.arm.standing ||| c.rackCorridor } }
          | none => s
        else s
      let s := s.queueRelease (s.changeSlots r ||| zoneItems (itemZones s.held &&& ~~~ s.keep))
      s.endChange .aborted r

/-- A change in progress fails, before the standing set takes its new value (R130, log 13). -/
def State.failChange (s : State) : State :=
  match s.chg.change with
  | none => s
  | some r =>
    if r.step == .done then s.changeDone
    else (s.queueRelease (s.changeSlots r ||| zoneItems (itemZones s.held &&& ~~~ s.keep))).endChange .failed r

/-! ## The end of the excursion stack -/

/-- Whether a QUALIFY stands on the stack. -/
def Run.qualifying (r : Run) : Bool := r.stack.any (fun e => e.kind == .qualify)

/-- QUAL_END of a QUALIFY that did not complete (R139). -/
def State.endQualification (outcome : QualOutcome) (s : State) : State :=
  if s.run.qualifying then ({ s with qual := none }).emit (.qualEnd outcome 0) else { s with qual := none }

/-- Every excursion record is discarded, with the qualification and soak wait; its claim is dropped (R139). -/
def State.discardExcursions (outcome : QualOutcome) (s : State) : State :=
  let s := s.endQualification outcome
  { s with soak := none, chg := { s.chg with stayed := false, parked := false }, run := { s.run with stack := [] } }

/-- The release that the end of a stand-alone excursion queues itself (R139): at once, in the deceleration too (the model's choice,
log 70). -/
def State.releaseAfterExcursion (had : Bool) (s : State) : State :=
  if had && s.run.st == .none then s.releaseOutside s.keep else s

/-! ## Faults -/

/-- Every excursion on the stack fails, and what moved is interrupted (R130, R139, R35). -/
def State.failAll (s : State) : State :=
  let s := s.failChange
  let s := s.interrupt
  ((s.discardExcursions .failed).clearStarts).dropClaim

/-- A fault that de-energizes the drives: FOLLOW, SCALE, LIMIT, HOME_FAIL (R10, R12). -/
def State.faultOff (r : FaultReport) (s : State) : State :=
  let had := !s.run.stack.isEmpty
  let s := (s.raise r).failAll.deenergize
  (s.endRun .fault 0).releaseAfterExcursion had

/-- A fault of an arm at rest that leaves the drives as they are: the gates, claim timeouts, change and qualification
checks (R12, R22, R27, R28, R139). -/
def State.faultStill (r : FaultReport) (s : State) : State :=
  let had := !s.run.stack.isEmpty
  let s := (s.raise r).failAll.standStill
  (s.endRun .fault 0).releaseAfterExcursion had

/-- A fast stop begins, and the arm state is MOVING until its standstill (R32), where a seek or a deceleration was in progress
too (log 45). -/
def State.stopFast (p : Stopping) (s : State) : State :=
  { s with arm := { s.arm with st := .moving, stopping := some { p with fast := true } } }

/-- A fault that makes a fast stop with the drives energized: COLLISION, PROBE_NOISY, NO_PROBE with detail HEAD_EMPTY (R32).
A run in progress ends with FAULT at standstill; an arm at rest is at standstill at once. -/
def State.faultFast (r : FaultReport) (position : Vec3 Lu) (s : State) : State :=
  let had := !s.run.stack.isEmpty
  let s := s.raiseAt r position
  let moving := s.travelling
  let s := s.failAll
  if moving then
    let s := if s.run.st == .none then s else s.flush
    let after : AfterStop := if s.run.st == .none then .still else .endRun .fault 0
    (s.stopFast { fast := true, after := after, held := false, afterBackOff := false, byFault := true }).releaseAfterExcursion had
  else (s.standStill.endRun .fault 0).releaseAfterExcursion had

/-! ## Stops -/

/-- A stop already governs the deceleration, and another changes nothing further (R23, R32). A stop taken with run state NONE
governs it as long as no run has been started since by GO; a STOP then ends that run (the model's choice, log 46). An owner loss in
a governed deceleration leaves the first reason too (the model's choice, log 55). -/
def State.stopGoverns (s : State) : Bool :=
  match s.arm.stopping with
  | some p =>
    match p.after with
    | .endRun _ _ => true
    | .still => s.run.st == .none
    | _ => false
  | none => false

/-- The queue is flushed and the owner cleared, as a stop with run state NONE does (R23, R25). -/
def State.flushUnrun (s : State) : State := { s with run := { s.run with queue := [], owner := none } }

/-- The abort of what is in progress: the motion is interrupted, and change and excursions are aborted (R35, R131, R139).
A detach queues no frame, since the table is gone by then. -/
def State.abortAll (s : State) : State :=
  let s := s.interrupt
  let s := s.abortChange
  ((s.discardExcursions .aborted).clearStarts).dropClaim

/-- The fast stop of a fault is in progress (R32). -/
def State.inFaultStop (s : State) : Bool := s.arm.stopping.any (·.byFault)

/-- The arm comes to rest: by a controlled stop where it travels, at once where it does not (R32). -/
def State.bringToRest (after : AfterStop) (s : State) : State :=
  if s.travelling then
    let fast := s.arm.stopping.any (·.fast)
    { s with arm := { s.arm with
        st := if fast then s.arm.st else .decelerating
        stopping := some
          { fast := fast, after := after, held := false, afterBackOff := false, byFault := s.inFaultStop } } }
  else s.standStill

/-- STOP, CELL_STOP, an owner loss, or the abort that a RESTART makes (R23 to R25, R28, R31, R170). A second STOP in the
deceleration of one taken with run state NONE flushes what has been queued since (the model's choice, log 46). -/
def State.stopAll (reason : RunEndReason) (reasonByte : Byte) (s : State) : State :=
  if s.stopGoverns then (if s.run.st == .none then s.flushUnrun else s)
  else
    let had := !s.run.stack.isEmpty
    let s := s.abortAll
    if s.run.st == .none then
      (s.flushUnrun.releaseAfterExcursion had).bringToRest .still
    else
      let s := s.flush
      let moving := s.travelling
      let s := s.bringToRest (.endRun reason reasonByte)
      if moving then s else s.endRun reason reasonByte

/-- A STOP or CELL_STOP that is taken: in the fast stop of a fault it changes nothing further, whatever the run state and whatever
has been queued or started since (R32). -/
def State.stopTaken (reason : RunEndReason) (reasonByte : Byte) (s : State) : State :=
  if s.inFaultStop then s else s.stopAll reason reasonByte

/-- DRIVES off and ESTOP: everything ends where the arm stands (R10, R11). -/
def State.cutDrives (reason : RunEndReason) (s : State) : State :=
  let had := !s.run.stack.isEmpty
  let s := s.abortAll.deenergize
  (s.endRun reason 0).releaseAfterExcursion had

end Sys2Proof.Machine
end

