-- ==== Sys2Proof/Machine/Geometry.lean ====
section
/-! DEFINITION. Exact geometry: the soft and hardware limit checks (R5, R6), the back-off target (R103), the touches of a
qualification and its transfers (R142), the computation of its result (R144). -/

namespace Sys2Proof.Machine

open Sys2Proof

/-! ## Limit checks -/

/-- How far a coordinate lies outside a soft range (R5). With the soft minimum not below the soft maximum it can pass both ends, and
the larger of the two overruns counts (the model's choice, log 43). -/
def outside (min max v : Int) : Int := Max.max 0 (Max.max (min - v) (v - max))

/-- The soft check of one axis: a target inside the range, or no farther from it than the present position (R5). -/
def softAllows (c : AxisConf) (pos target : Lu) : Bool :=
  decide (outside c.softMin.toInt c.softMax.toInt target.toInt ≤ outside c.softMin.toInt c.softMax.toInt pos.toInt)

/-- The end of the soft range that a refused target passes: SOFT_MIN 0, SOFT_MAX 1 (Table 12-8). With the soft minimum not below
the soft maximum a target may pass both: the end passed farther is named, and SOFT_MIN on a tie (the model's choice, log 43). -/
def softSide (c : AxisConf) (target : Lu) : Nat :=
  if target.toInt - c.softMax.toInt ≤ c.softMin.toInt - target.toInt then 0 else 1

/-- A LIMIT report: the axis, and SOFT_MIN 0, SOFT_MAX 1, HW_MIN 2 or HW_MAX 3 (Table 12-8). -/
def limitReport (a : AxisName) (detail : Nat) : FaultReport :=
  { code := .limit, detail := BitVec.ofNat 8 (axisCode a), value := BitVec.ofNat 32 detail }

/-- The checks of one axis at the start of a motion: the soft range of a referenced axis (R5), then the asserted hardware
limits outside shadow mode (R6, R38). -/
def axisLimit (shadow : Bool) (a : AxisName) (c : AxisConf) (ch : AxisChannel) (target : Lu) : Option FaultReport :=
  if ch.referenced && !softAllows c ch.pos target then some (limitReport a (softSide c target))
  else if !shadow && ch.minusLimit && target.slt ch.pos then some (limitReport a 2)
  else if !shadow && ch.plusLimit && ch.pos.slt target then some (limitReport a 3)
  else none

/-- The checks of a motion toward a target, axes X, Y, Z in order (log 10). -/
def State.limitCheck (target : Vec3 Lu) (s : State) : Option FaultReport :=
  match s.config with
  | none => none
  | some c => allAxes.findSome? (fun a =>
      axisLimit s.arm.shadow a (vget c.axes a) (vget s.axes a) (vget target a))

/-! ## Back-off -/

/-- The integer square root, bit by bit from `2^n`. -/
def sqrtBits (v : Nat) : Nat → Nat → Nat
  | 0, r => r
  | n + 1, r => if (r + 2 ^ n) * (r + 2 ^ n) ≤ v then sqrtBits v n (r + 2 ^ n) else sqrtBits v n r

/-- The integer square root of a number below 2^160. -/
def isqrt (v : Nat) : Nat := sqrtBits v 80 0

/-- The nearest integer to `s - retract * d / √n`, halves away from zero (R103), where `n` is not 0. -/
def backOffCoordinate (s : Int) (retract : Nat) (d : Int) (n : Nat) : Int :=
  let square := 4 * (retract * d.natAbs) * (retract * d.natAbs)
  let twice := isqrt (square / n)
  let near : Int := ((twice + 1) / 2 : Nat)
  let far := s - (if d < 0 then -near else near)
  let tie := twice % 2 == 1 && twice * twice * n == square
  if tie then
    let less := s - (if d < 0 then -(near - 1) else near - 1)
    if far.natAbs < less.natAbs then less else far
  else far

/-- The square of the length of a straight path, in lu². -/
def pathSquare (start target : Vec3 Lu) : Nat :=
  let d (a : AxisName) : Int := (vget target a).toInt - (vget start a).toInt
  (d .x).natAbs ^ 2 + (d .y).natAbs ^ 2 + (d .z).natAbs ^ 2

/-- The place `gone` lu from its start along a straight path, each coordinate at the nearest lu; the target once the whole path
has been gone (R3, R27; the rounding is the model's choice, log 8). -/
def placeOnPath (start target : Vec3 Lu) (gone : Nat) : Vec3 Lu :=
  if pathSquare start target ≤ gone * gone then target
  else vmap (fun a s => toLu (backOffCoordinate s.toInt gone (s.toInt - (vget target a).toInt) (pathSquare start target)))
    start

/-- The place on a seek's line `more` lu from a place, in the homing direction (R14). -/
def seekPlace (c : AxisConf) (place : Lu) (more : Nat) : Lu :=
  toLu (if c.homeMinus then place.toInt - more else place.toInt + more)

/-- The place of two that lies farther in the homing direction. -/
def seekFarther (c : AxisConf) (a b : Lu) : Lu := if a.slt b == c.homeMinus then a else b

/-- The back-off target: the standstill position moved back by the retract distance against the direction from the
travel's start to its target (R103). A travel of zero length has no direction, and the target is free (log 35). -/
def backOffTarget (fresh : Nat) (retract : BitVec 32) (start target standstill : Vec3 Lu) : Vec3 Lu :=
  let d (a : AxisName) : Int := (vget target a).toInt - (vget start a).toInt
  let n := pathSquare start target
  vmap (fun a s =>
    if n = 0 then Config.backOffUndirected fresh (axisCode a)
    else toLu (backOffCoordinate s.toInt retract.toNat (d a) n)) standstill

/-! ## Touches -/

/-- The axis of a touch (Table 9-4). -/
def touchAxis (touch : Nat) : AxisName := if touch ≤ 2 then .x else if touch ≤ 4 then .y else .z

/-- A touch goes in the negative direction of its axis (Table 9-4). -/
def touchNegative (touch : Nat) : Bool := touch % 2 == 0 || touch == 5

/-- Twice the tip coordinate on a touch's own axis, at its start point moved along the touch by `moved` (R142, Table 9-4). -/
def touchTip2 (c : Image) (d : ProbeDef) (touch : Nat) (moved : Nat) : Int :=
  let centre := 2 * (vget c.sphereCentre (touchAxis touch)).toInt
  let reach : Int := (c.sphereDiameter.toNat : Int) + 2 * d.radius.toInt + 2 * (c.clearance.toNat : Int)
  if touchNegative touch then centre + reach - 2 * moved else centre - reach + 2 * moved

/-- The arm position of a touch's start point (`moved` 0) or target (`moved` twice the clearance): the tip position minus
the nominal offset, rounded (R142). -/
def touchPoint (c : Image) (d : ProbeDef) (touch : Nat) (moved : Nat) : Vec3 Lu :=
  vmap (fun a centre =>
    let tip2 := if a == touchAxis touch then touchTip2 c d touch moved else 2 * centre.toInt
    toLu (roundDiv (tip2 - 2 * (vget d.offset a).toInt) 2)) c.sphereCentre

/-- The start point of a touch. -/
def touchStart (c : Image) (d : ProbeDef) (touch : Nat) : Vec3 Lu := touchPoint c d touch 0

/-- The target of a touch: its start point moved by twice the clearance (R142). -/
def touchTarget (c : Image) (d : ProbeDef) (touch : Nat) : Vec3 Lu := touchPoint c d touch (2 * c.clearance.toNat)

/-- The legs of a transfer: along Z to the clearance plane, along X and Y, along Z to the point; legs of zero length are
skipped (R142). -/
def transferLegs (plane : Lu) (present point : Vec3 Lu) : List (Vec3 Lu) :=
  let a : Vec3 Lu := { present with z := plane }
  let b : Vec3 Lu := { point with z := plane }
  (if a == present then [] else [a]) ++ (if b == a then [] else [b]) ++ (if point == b then [] else [point])

/-- The clearance plane: the arm Z of touch 5's start point (R142). -/
def clearancePlane (c : Image) (d : ProbeDef) : Lu := (touchStart c d 5).z

/-! ## The result of a qualification -/

/-- What the computation of R144 gives. -/
inductive QualResult where
  | failed (detail : Nat) (difference : Int)
  | passed (offset : Vec3 Lu) (radius : Lu)
  deriving DecidableEq, Repr

/-- The computation of R144 in quarters of a lu, from the five results. -/
def qualify (c : Image) (rn : Lu) (ax bx ay by_ cz : Lu) : QualResult :=
  let d : Int := c.sphereDiameter.toNat
  let twoRx := bx.toInt - ax.toInt - d
  let twoRy := by_.toInt - ay.toInt - d
  let fourR := twoRx + twoRy
  let tolerance := c.tolerance.toNat
  if 4 * tolerance < (fourR - 4 * rn.toInt).natAbs then .failed 0 (roundDiv (fourR - 4 * rn.toInt) 4)
  else if 2 * tolerance < (twoRx - twoRy).natAbs then .failed 1 (roundDiv (twoRx - twoRy) 2)
  else
    .passed
      ⟨toLu (roundDiv (2 * c.sphereCentre.x.toInt - (ax.toInt + bx.toInt)) 2),
       toLu (roundDiv (2 * c.sphereCentre.y.toInt - (ay.toInt + by_.toInt)) 2),
       toLu (roundDiv (4 * c.sphereCentre.z.toInt + 2 * d + fourR - 4 * cz.toInt) 4)⟩
      (toLu (roundDiv fourR 4))

end Sys2Proof.Machine
end

