-- ==== Sys2Proof/Machine/Motion.lean ====
section
/-! DEFINITION. The motion controller's parts that the families share: forming a motion, the gates of a start (R27), the
excursion records (R134, R135, R138), the completion of a segment (R30). -/

namespace Sys2Proof.Machine

open Sys2Proof

/-- A fault report. -/
def report (code : FaultCode) (detail : Nat) (value : Int) : FaultReport :=
  { code := code, detail := BitVec.ofNat 8 detail, value := BitVec.ofInt 32 value }

/-! ## Starts and motions -/

/-- What the motion controller is to start next. -/
def State.setTodo (t : Start) (s : State) : State := { s with arm := { s.arm with todo := some t, itemsHeld := false } }

/-- A motion is formed and executes (Table 2-5, R102: its false-trigger count is 0). -/
def State.formMotion (m : Motion) (s : State) : State :=
  let s := s.endMotion
  { s with arm := { s.arm with
      st := .moving, motion := some m, todo := none, itemsHeld := false, begun := s.arm.begun ||| m.required } }

/-- A motion that keeps the arm in place (R31, R137). -/
def restingMotion (act : MotionAct) (origin : Origin) (present : Vec3 Lu) (dwell : Option (BitVec 16)) : Motion :=
  { act := act, origin := origin, startedAt := present, target := none, feed := none, required := 0, dwellLeft := dwell,
    falseTriggers := 0, atTarget := false, thenHeld := false }

/-- A straight motion to a target. A touch is a probing travel (R103). -/
def straightMotion (act : MotionAct) (origin : Origin) (present target : Vec3 Lu) (feed : BitVec 16)
    (required : ZoneSet) : Motion :=
  { act := act, origin := origin, startedAt := present, target := some target, feed := some feed, required := required,
    dwellLeft := none, falseTriggers := 0, atTarget := false, thenHeld := false, probing := act == .touch }

/-- A straight motion starts, when the limit checks pass (R5, R6). -/
def State.startStraight (act : MotionAct) (origin : Origin) (target : Vec3 Lu) (feed : BitVec 16) (required : ZoneSet)
    (s : State) : State :=
  match s.limitCheck target with
  | some r => s.faultOff r
  | none => s.formMotion (straightMotion act origin s.positions target feed required)

/-- A step of an excursion that keeps the arm in place (R137). -/
def State.standInPlace (s : State) : State := s.formMotion (restingMotion .inPlace .excursion s.positions none)

/-- How far the feed of a motion brings its setpoints in a millisecond, in lu (R3): 0.1 mm/s is 1 lu in a millisecond (Table 1-3). -/
def Motion.feedSpeed (m : Motion) : Nat := m.feed.elim 0 (·.toNat)

/-- The speed that a motion has in a stop, in lu in a millisecond: the last advance of the stop, or its feed (R32). -/
def Motion.speed (m : Motion) : Nat := m.slowed.getD m.feedSpeed

/-- The setpoints advance by a distance along a motion's path (R3): along the straight line to its target and no farther, or, in a
seek, on the seeking axis in its homing direction (R14). -/
def State.moveAlong (m : Motion) (more : Nat) (s : State) : State :=
  match m.act, m.target, s.config with
  | .seek a, _, some c => s.moveSetpoints (vset s.setpoints a (seekPlace (vget c.axes a) (vget s.setpoints a) more))
  | _, some target, _ =>
    let gone := if pathSquare m.startedAt target ≤ m.gone * m.gone then m.gone else m.gone + more
    let s := s.moveSetpoints (placeOnPath m.startedAt target gone)
    { s with arm := { s.arm with motion := some { m with gone := gone } } }
  | _, _, _ => s

/-- The current motion came to standstill at its target. -/
def State.reachTarget (s : State) : State :=
  match s.arm.motion.bind (·.target) with
  | some t => s.moveSetpoints t
  | none => s

/-! ## Gates -/

/-- The first unreferenced axis (R27 gate 2). -/
def State.unreferenced (s : State) : Option AxisName := allAxes.find? (fun a => !(vget s.axes a).referenced)

/-- Why the mounted probe does not pass: NONE 0, UNRESOLVED 1, NO_RECORD 2 (R105). -/
def State.mountedDetail (s : State) : Option Nat :=
  match s.mounted with
  | .none => some 0
  | .unresolved _ => some 1
  | .resolved id => if (s.probe id).isNone then some 2 else none

/-- The level at which the mounted probe's trigger is asserted (R101); none without a record. -/
def State.assertedLevel (s : State) : Option Bool :=
  s.mountedRecord.map (fun r => r.defined.polarity == .rising)

/-- The trigger input stands asserted (R105 gate 5). Without a mounted probe's record, which a RING_WAIT can lose, there is no level
that means deflected, and it does not (the model's choice, log 66). -/
def State.deflected (s : State) : Bool := s.assertedLevel == some s.trig.high

/-- The need set of the segment at the head of the queue, when it is a MOVE or a PROBE (R30). -/
def State.headNeed (s : State) : ZoneSet :=
  match s.run.queue with
  | { body := .move t, .. } :: _ => t.need
  | { body := .probe _ t, .. } :: _ => t.need
  | _ => 0

/-- The claim agent looks ahead to the head of the queue (R29). -/
def State.lookAhead (s : State) : State :=
  if s.agent.current.isSome || s.headNeed == 0 then s else (s.request .lookahead (zoneItems s.headNeed)).1

/-- The settle gate calls for a SOAK (R164, R135). -/
def State.mustSoak (s : State) : Bool :=
  match s.config with
  | some c => !c.policyFlag && !s.thermal.settled
  | none => false

/-- Auto-qualify is on and shadow mode is off (R135). -/
def State.mayAutoQualify (s : State) : Bool :=
  match s.config with
  | some c => c.autoQualify && !s.arm.shadow
  | none => false

/-! ## Excursion records -/

/-- The corridor set of an excursion (R137). -/
def corridorOf (c : Image) : ExcursionKind → ZoneSet
  | .change => c.rackCorridor
  | .qualify => c.sphereCorridor
  | .soak => c.parkCorridor

/-- A record is pushed (R135, Table 9-2), on a stack of at most three: a CHANGE, a QUALIFY above it, a SOAK above that. -/
def State.push (kind : ExcursionKind) (need : Option ZoneSet) (serves : Bool) (s : State) : State :=
  if 3 ≤ s.run.stack.length then s
  else { s with run := { s.run with stack :=
      { kind := kind, position := s.positions, standing := s.arm.standing, need := need, serves := serves }
        :: s.run.stack } }

/-- A QUALIFY or SOAK is pushed and begins with its claim (R137). -/
def State.pushOut (kind : ExcursionKind) (need : Option ZoneSet) (serves : Bool) (s : State) : State :=
  (s.push kind need serves).setTodo .moveOut

/-- A new change record (R123). -/
def ChangeRecord.new (serial : Nat) (target : ProbeId) (byCommand : Bool) : ChangeRecord :=
  { serial := serial, step := .begin, target := target, pick := none, drop := none, dropped := none, read := none, byCommand := byCommand,
    window := false, wait := .none, failing := none }

/-- A CHANGE is pushed and its change begins (R123). -/
def State.pushChange (target : ProbeId) (serves : Bool) (s : State) : State :=
  let s := (s.push .change none serves).setTodo .changeBegin
  { s with chg := { s.chg with
      change := some (ChangeRecord.new s.chg.begun target (!serves)), begun := s.chg.begun + 1, stayed := false } }

/-- What a record keeps held while it stands on the stack (R138). -/
def ReturnRecord.keeps (c : Image) (r : ReturnRecord) : ZoneSet := corridorOf c r.kind ||| r.standing ||| r.need.getD 0

/-- What the records of a stack keep held. -/
def stackKeeps (c : Image) (stack : List ReturnRecord) : ZoneSet :=
  stack.foldl (fun acc r => acc ||| r.keeps c) 0

/-! ## Completion of a segment -/

/-- A segment completes with its end set (R30). `hold`: the run becomes HELD, as a contact during a hold has it (R103); after a
segment with LAST set the run ends with LAST_DONE all the same (the model's choice, log 51). A RELEASE that is a ninth M1
entry leaves what becomes of the run to the detach (R53, R92). -/
def State.completeSegment (outcome : SegOutcome) (endSet : ZoneSet) (hold : Bool) (s : State) : State :=
  match s.run.current with
  | none => s.standStill
  | some seg =>
    let s := (s.arriveIn endSet).standStill
    let s := { s with run := { s.run with current := none } }
    let s := (s.releaseOutside (s.keep ||| s.headNeed)).emit (.segDone seg.tag outcome)
    if s.detachDue.isSome then s
    else if seg.last then s.endRun .lastDone 0
    else if hold then { s with run := { s.run with st := .held } }
    else if s.run.queue.isEmpty then ({ s with run := { s.run with st := .starved } }).emit .starved
    else s

/-- The end set of the current segment's travel. -/
def State.currentTravel (s : State) : Option TravelSpec :=
  match s.run.current with
  | some { body := .move t, .. } => some t
  | some { body := .probe _ t, .. } => some t
  | _ => none

/-! ## The end of a return -/

/-- The touch to make next: the arm is transferred to its start point (R143). -/
def State.goToTouch (q : Qualification) (touch : Nat) (s : State) : State :=
  match s.config, s.probe q.id with
  | some c, some r =>
    let legs := transferLegs (clearancePlane c r.defined) s.positions (touchStart c r.defined touch)
    let s := { s with qual := some { q with touch := touch, latched := none, legs := legs, returning := false } }
    s.setTodo (if legs.isEmpty then .touch else .leg)
  | _, _ => s

/-- A QUALIFY begins, or begins again, at touch 1 (R142, R143); without a mounted probe's record there is nothing to
qualify (log 24). -/
def State.beginTouches (s : State) : State :=
  match s.mountedRecord with
  | some r =>
    s.goToTouch { id := r.defined.id, touch := 1, results := [], latched := none, legs := [], returning := false } 1
  | none => s.faultStill (report .noProbe (s.mountedDetail.getD 1) 0)

/-- The top record is popped at the standstill of its return move (R138). -/
def State.pop (s : State) : State :=
  match s.config, s.run.stack with
  | some c, top :: rest =>
    let s := (s.arriveIn top.standing).standStill
    let s := { s with
      run := { s.run with stack := rest }
      chg := { s.chg with stayed := s.chg.stayed && !(top.kind == ExcursionKind.change) }
      qual := if top.kind == ExcursionKind.qualify then none else s.qual }
    match rest with
    | [] =>
      if top.serves then s.completeSegment .done top.standing false
      else
        let s := s.releaseOutside (s.keep ||| top.need.getD 0)
        if top.need.isSome then s.setTodo .segment else s
    | below :: _ =>
      let s := s.releaseOutside (s.keep ||| top.need.getD 0 ||| stackKeeps c rest)
      match below.kind with
      | .qualify =>
        match s.qual with
        | some q => s.goToTouch { q with results := [] } 1
        | none => s.beginTouches
      | _ => s.setTodo .beginReturn
  | _, _ => s

end Sys2Proof.Machine
end

