-- ==== Sys2Proof/Machine/Changes.lean ====
section
/-! DEFINITION. The change controller's own steps (chapter 8): the choice of the slots, the steps CH_CLAIM to CH_DONE,
the judgement of the head. -/

namespace Sys2Proof.Machine

open Sys2Proof

/-- The change record changed. -/
def State.updateChange (f : ChangeRecord → ChangeRecord) (s : State) : State :=
  { s with chg := { s.chg with change := s.chg.change.map f } }

/-- A change window is open (R98, R129). -/
def State.inWindow (s : State) : Bool :=
  (match s.chg.change with
    | some r => r.window
    | none => false) || !s.chg.closing.isEmpty

/-! ## Choosing the slots (R123) -/

/-- A slot's contents are EMPTY and its holder is none. -/
def Table.slotFree (t : Table) (n : Nat) : Bool := t.contents n == .empty && t.holder (16 + n) == .free

/-- The lowest slot of 0 to 7 that meets `p`. -/
def lowestSlot (p : Nat → Bool) : Option (Fin 8) := (List.finRange 8).find? (fun n => p n.val)

/-- The pick slot: the slot whose contents equal the target (R123). -/
def Table.pickSlot (t : Table) (target : ProbeId) : Option (Fin 8) :=
  lowestSlot (fun n => t.contents n == .probe target)

/-- The drop slot of a mounted probe: its home slot when free and EMPTY, otherwise the lowest such slot (R123). -/
def Table.dropSlot (t : Table) (home : Option (Fin 8)) : Option (Fin 8) :=
  match home with
  | some n => if t.slotFree n.val then some n else lowestSlot t.slotFree
  | none => lowestSlot t.slotFree

/-- What follows a change that ended DONE or NONE_NEEDED: a QUALIFY above it, or its return (R135, R138). -/
def State.afterChange (s : State) : State :=
  match s.mountedRecord with
  | some r => if s.mayAutoQualify && r.qual != .qualified then s.pushOut .qualify none false else s.setTodo .beginReturn
  | none => s.setTodo .beginReturn

/-- The slots are chosen, and the change enters CH_CLAIM (R123, R124). -/
def State.claimSlots (pick : Fin 8) (drop : Option (Fin 8)) (s : State) : State :=
  (s.updateChange (fun r => { r with step := .claim, pick := some pick, drop := drop })).setTodo .changeClaim

/-- The start of a change, once the mounted-probe record stands for the head (R123). -/
def State.chooseSlots (r : ChangeRecord) (s : State) : State :=
  if s.mounted == .resolved r.target then
    let s := s.dropChange.changeEnded .noneNeeded
    ({ s with chg := { s.chg with stayed := true } }).afterChange
  else
    match s.table with
    | none => s.faultStill (report .noSlot 0 0)
    | some t =>
      match t.pickSlot r.target with
      | none => s.faultStill (report .noSlot 0 0)
      | some pick =>
        if s.mounted == .none then s.claimSlots pick none
        else
          match t.dropSlot (s.mountedRecord.bind (·.homeSlot)) with
          | none => s.faultStill (report .noSlot 1 0)
          | some drop => s.claimSlots pick (some drop)

/-- A start of a change waits for an identity read of the head that is in flight (R123, log 22). -/
def State.mustWaitForRead (s : State) : Bool :=
  match s.head.idRead with
  | some r => r.forHead || r.forJudge
  | none => false

/-- The change begins (R123). -/
def State.beginChange (s : State) : State :=
  match s.chg.change with
  | none => s
  | some r =>
    if s.mustWaitForRead then (s.updateChange (fun r => { r with wait := .read })).standInPlace
    else (s.updateChange (fun r => { r with wait := .none })).chooseSlots r

/-- The slots fail their second test (R124): the slot that does. When both do, R124's "that slot" does not say which is named: it is the
pick slot (the model's choice, log 75). -/
def Table.spoiledSlot (t : Table) (r : ChangeRecord) : Option (Fin 8) :=
  match r.pick with
  | none => none
  | some pick =>
    if t.contents pick.val != .probe r.target then some pick
    else
      match r.drop with
      | some drop => if t.contents drop.val != .empty then some drop else none
      | none => none

/-- The items of the change are held: the slots are tested again, and the moves begin (R124, R125). -/
def State.changeHeld (s : State) : State :=
  match s.chg.change, s.table with
  | some r, some t =>
    match t.spoiledSlot r with
    | some slot => s.faultStill (report .slotUnknown slot.val 0)
    | none =>
      match r.drop with
      | some _ => (s.updateChange (fun r => { r with step := .toDrop })).setTodo (.changeMove .dropApproach)
      | none =>
        (s.updateChange (fun r => { r with step := .toPick, window := !s.arm.shadow })).setTodo
          (.changeMove .pickApproach)
  | _, _ => s

/-! ## Moves (R125) -/

/-- The slot that a move of a change goes to or from. -/
def ChangeRecord.slotOf (r : ChangeRecord) : ChangeMove → Option (Fin 8)
  | .dropApproach => r.drop
  | .dropDock => r.drop
  | .leaveDrop => r.drop
  | .pickApproach => r.pick
  | .pickDock => r.pick
  | .leavePick => r.pick

/-- A move ends at the slot's dock point. -/
def ChangeMove.docks : ChangeMove → Bool
  | .dropDock => true
  | .pickDock => true
  | _ => false

/-- A move runs at the excursion feed: the moves to an approach point that do not come from its dock point. -/
def ChangeMove.fast : ChangeMove → Bool
  | .dropApproach => true
  | .pickApproach => true
  | _ => false

/-- A slot's geometry. -/
def Image.slot (c : Image) (n : Fin 8) : SlotGeom := c.rack.getD n.val { approach := ⟨0, 0, 0⟩, dock := ⟨0, 0, 0⟩ }

/-- A move of a change starts (R125). -/
def State.startChangeMove (m : ChangeMove) (s : State) : State :=
  match s.config, s.chg.change with
  | some c, some r =>
    match r.slotOf m with
    | some slot =>
      let g := c.slot slot
      s.startStraight (.changeMove m) .excursion (if m.docks then g.dock else g.approach)
        (if m.fast then c.excursionFeed else c.dockFeed) c.rackCorridor
    | none => s
  | _, _ => s

/-! ## Steps -/

/-- A SLOT_SET is queued; none in shadow mode (R126, R127, R132). -/
def State.queueSlotSet (slot : Option (Fin 8)) (contents : Contents) (s : State) : State :=
  match slot with
  | some n => if s.arm.shadow then s else s.pushM1 (.slotSet n contents)
  | none => s

/-- A pulse step begins at a dock point (R126, R127). -/
def State.pulseStep (step : ChangeStep) (kind : PulseKind) (s : State) : State :=
  let s := s.updateChange (fun r => { r with step := step, wait := .pulse, window := !s.arm.shadow })
  let s := match s.chg.change with
    | some r => s.askPulse kind r
    | none => s
  s.standInPlace

/-- What an identity read says of a slot's contents. -/
def ReadResult.contents : ReadResult → Contents
  | .id i => .probe i
  | .unreadable => .unknown

/-- The identity that the mounted-probe record holds. -/
def Mounted.result : Mounted → Option ReadResult
  | .none => Option.none
  | .resolved i => some (.id i)
  | .unresolved r => some r

/-- The arm leaves a dock point: the arm stands, and the move back is next. -/
def State.leaveDock (m : ChangeMove) (s : State) : State := s.standStill.setTodo (.changeMove m)

/-- The head has emptied in CH_UNLOCK (R126); in shadow mode the records stay as they are (R132). With the mounted-probe record NONE
there is no identity to write, and the drop slot becomes UNKNOWN (the model's choice, log 60). -/
def State.headEmptied (r : ChangeRecord) (s : State) : State :=
  let dropped := s.mounted.result
  let s := s.updateChange (fun r => { r with step := .leaveDrop, wait := .none, dropped := dropped })
  if s.arm.shadow then s.leaveDock .leaveDrop
  else
    let s := match s.mounted.id with
      | some id => s.updateProbe id (fun p => { p with homeSlot := r.drop })
      | none => s
    let s := { s with mounted := .none }
    (s.queueSlotSet r.drop ((dropped.map ReadResult.contents).getD .unknown)).leaveDock .leaveDrop

/-- The UNLOCK pulse has ended (R126, R132). -/
def State.unlockEnded (r : ChangeRecord) (s : State) : State :=
  if s.arm.shadow || !s.head.seated then s.headEmptied r
  else s.updateChange (fun r => { r with wait := .release s.clock })

/-- The head is seated in CH_LOCK, and CH_IDENT begins (R127); in shadow mode the identity is taken as the target (R132). -/
def State.headSeated (r : ChangeRecord) (s : State) : State :=
  if s.arm.shadow then
    (s.updateChange (fun c => { c with step := .leavePick, wait := .none, read := some (.id r.target) })).leaveDock
      .leavePick
  else
    (s.updateChange (fun c => { c with step := .ident, wait := .read })).requestRead
      (fun q => { q with forChange := true })

/-- The LOCK pulse of CH_LOCK has ended (R127, R132). -/
def State.lockEnded (r : ChangeRecord) (s : State) : State :=
  if s.arm.shadow || s.head.seated then s.headSeated r
  else s.updateChange (fun r => { r with wait := .seat s.clock })

/-- A lock pulse of the change in progress has ended (R126, R127). -/
def State.pulseEnded (s : State) : State :=
  match s.chg.change with
  | none => s
  | some r =>
    match r.step, r.wait with
    | .unlock, .pulse => s.unlockEnded r
    | .unlock, .relock => (s.updateChange (fun r => { r with wait := .none })).leaveDock .leaveDrop
    | .lock, .pulse => s.lockEnded r
    | _, _ => s

/-- The release time passes with the head seated (R126). -/
def State.unlockStuck (r : ChangeRecord) (s : State) : State :=
  (s.updateChange (fun r => { r with wait := .relock, failing := some .changeStuck })).askPulse .lock r

/-- The seat time passes with the head empty (R127). R127 names no step for the move back: it stays CH_LOCK (the model's choice, log 88). -/
def State.lockEmpty (r : ChangeRecord) (s : State) : State :=
  let s := s.queueSlotSet r.pick .unknown
  (s.updateChange (fun r => { r with wait := .none, failing := some .changeEmpty })).leaveDock .leavePick

/-- The read of CH_IDENT has ended; the window closes (R127). With the head empty R127 names no step for the move back: it stays CH_IDENT
(the model's choice, log 88). -/
def State.identified (r : ChangeRecord) (result : ReadResult) (s : State) : State :=
  if s.head.seated then
    let s := { s with mounted := .unresolved result }
    let s := s.queueSlotSet r.pick .empty
    (s.updateChange (fun c =>
      { c with step := .leavePick, wait := .none, read := some result, window := false })).leaveDock .leavePick
  else
    let s := { s with mounted := .none }
    let s := s.queueSlotSet r.pick .unknown
    (s.updateChange (fun c =>
      { c with wait := .none, failing := some .changeEmpty, window := false })).leaveDock .leavePick

/-- The fault that a change raises when its move back arrives (R126, R127). -/
def State.raiseFailing (r : ChangeRecord) (f : FaultCode) (s : State) : State :=
  let slot := if f == .changeStuck then r.drop else r.pick
  s.faultStill (report f (slot.elim 0 (·.val)) 0)

/-- The arm is back at the pick approach point with an identity read (R128). -/
def State.judgeIdentity (r : ChangeRecord) (s : State) : State :=
  match r.read with
  | some (.id i) =>
    if i == r.target then
      let s := (s.updateChange (fun r => { r with step := .done })).standStill
      s.queueRelease (slotItems r.drop ||| slotItems r.pick)
    else s.faultStill (report .changeMismatch 0 i.toNat)
  | _ => s.faultStill (report .changeUnread (r.pick.elim 0 (·.val)) 0)

/-- A move of a change has come to standstill at its target (R125 to R128). -/
def State.changeArrived (m : ChangeMove) (r : ChangeRecord) (s : State) : State :=
  match m with
  | .dropApproach => s.standStill.setTodo (.changeMove .dropDock)
  | .dropDock => s.pulseStep .unlock .unlock
  | .leaveDrop =>
    match r.failing with
    | some f => s.standStill.raiseFailing r f
    | none => (s.updateChange (fun r => { r with step := .toPick })).standStill.setTodo (.changeMove .pickApproach)
  | .pickApproach => s.standStill.setTodo (.changeMove .pickDock)
  | .pickDock => s.pulseStep .lock .lock
  | .leavePick =>
    match r.failing with
    | some f => s.standStill.raiseFailing r f
    | none => s.standStill.judgeIdentity r

/-- The RELEASE of CH_DONE is applied: the change ends DONE (R128), and its excursion goes on (R135, R138); when a referencing
taken meanwhile (R13) has the arm, it goes on after the referencing (the model's choice, log 52). -/
def State.finishChange (s : State) : State :=
  let s := s.changeDone
  if s.arm.st == .still && s.arm.todo.isNone then s.afterChange
  else { s with chg := { s.chg with parked := true } }

/-- The station's own RELEASE has been applied (R128). -/
def State.changeReleased (items : ItemSet) (s : State) : State :=
  match s.chg.change with
  | some r => if r.step == .done && slotItems r.pick &&& ~~~ items == 0 then s.finishChange else s
  | none => s

end Sys2Proof.Machine
end

