-- ==== Sys2Proof/Machine/Starts.lean ====
section
/-! DEFINITION. What starts when the arm stands: the gates of each start and the motions they form (R14, R27, R31, R34,
R137, R138, R143), and the take of the head segment (R26). -/

namespace Sys2Proof.Machine

open Sys2Proof

/-! ## Gate 1 -/

/-- The top record of the stack. -/
def State.top (s : State) : Option ReturnRecord := s.run.stack.head?

/-- The corridor set of the active excursion. -/
def State.topCorridor (s : State) : ZoneSet :=
  match s.config, s.top with
  | some c, some r => corridorOf c r.kind
  | _, _ => 0

/-- What a return asks for: the corridor set, the return standing set and the stored need set (R138). -/
def State.returnItems (s : State) : ZoneSet :=
  match s.config, s.top with
  | some c, some r => r.keeps c
  | _, _ => 0

/-- The requester and the zones of a start beside the standing set, with its slots; none for a start that asks nothing. -/
def State.asks (s : State) : Start → Option (Requester × ItemSet)
  | .segment => some (.motion, zoneItems (s.currentTravel.elim 0 (·.need)))
  | .dwellOn _ => some (.motion, 0)
  | .backOff _ =>
    if s.run.stack.isEmpty then some (.motion, zoneItems (s.currentTravel.elim 0 (·.need)))
    else some (.excursion, zoneItems s.topCorridor)
  | .home => some (.home, zoneItems (s.config.elim 0 (·.homeZones)))
  | .changeClaim =>
    match s.chg.change with
    | some r => some (.change, zoneItems s.topCorridor ||| slotItems r.pick ||| slotItems r.drop)
    | none => none
  | .changeMove _ => some (.change, zoneItems s.topCorridor)
  | .moveOut => some (.excursion, zoneItems s.topCorridor)
  | .leg => some (.excursion, zoneItems s.topCorridor)
  | .touch => some (.excursion, zoneItems s.topCorridor)
  | .touchBack => some (.excursion, zoneItems s.topCorridor)
  | .beginReturn => if s.chg.stayed && s.top.any (fun r => r.kind == .change) then none
      else some (.excursion, zoneItems s.returnItems)
  | .returnMove => some (.excursion, zoneItems s.returnItems)
  | .segmentPastRing => none
  | .touchPastRing => none
  | .changeBegin => none

/-- The current claim is the one that this start made before a hold (R34: a claim still pending). -/
def State.claimStands (r : Requester) (wanted : ItemSet) (s : State) : Bool :=
  s.agent.current.any (fun c => c.requester == r && c.wanted == wanted)

/-- The arm waits for a claim. -/
def State.waitForItems (s : State) : State := { s with arm := { s.arm with st := .claiming } }

/-- Gate 1 (R27, R36): the items are held, or the arm is CLAIMING. A start held while it was CLAIMING goes on with its claim and
its timer as they stand (R34), and sets no second CLAIM_WAIT (the model's choice, log 85). The flag tells whether the start goes on. -/
def State.gateItems (t : Start) (s : State) : State × Bool :=
  if s.arm.itemsHeld then ({ s with arm := { s.arm with itemsHeld := false } }, true)
  else
    match s.asks t with
    | none => (s, true)
    | some (r, items) =>
      let wanted := items ||| zoneItems s.keep
      if s.claimStands r wanted then (s.waitForItems, false)
      else
        let answer := s.request r wanted
        if answer.2 then (answer.1, true)
        else (answer.1.waitForItems.emit (.claimWait (s.missing wanted)), false)

/-! ## Segments (R27, R31) -/

/-- Gate 2 (R27): the axes are referenced. -/
def State.withReferences (f : State → State) (s : State) : State :=
  match s.unreferenced with
  | some a => s.faultStill (report .unrefAxis (axisCode a) 0)
  | none => f s

/-- The motion in progress is a probing travel, or none (R103). -/
def State.markProbing (probing : Bool) (s : State) : State :=
  { s with arm := { s.arm with motion := s.arm.motion.map (fun m => { m with probing := probing }) } }

/-- The travel of the current segment starts, and the agent looks ahead (R27, R29). -/
def State.startTravel (probing : Bool) (t : TravelSpec) (s : State) : State :=
  let s := (s.startStraight .travel .segment t.target t.feed t.need).markProbing probing
  if s.arm.motion.isSome then s.lookAhead else s

/-- The trigger input stands asserted at gate 5, outside shadow mode (R27, R38). Gate 4 of a touch uses it too (R143; that shadow mode
passes it there is the model's reading, log 83). -/
def State.blockedByTrigger (s : State) : Bool := !s.arm.shadow && s.deflected

/-- Gates 5 and 6 of a PROBE start (R27, R105). -/
def State.probePastRing (s : State) : State :=
  match s.run.current with
  | some seg =>
    if s.blockedByTrigger then s.faultStill (report .probeDeflected 0 seg.tag.toNat)
    else
      match s.currentTravel with
      | some t => s.startTravel true t
      | none => s
  | none => s

/-- Gate 4 (R110). -/
def State.gateRing (past : Start) (go : State → State) (s : State) : State :=
  if 64 ≤ s.cap.ring.length then
    let s := s.setTodo past
    { s with arm := { s.arm with st := .ringWait } }
  else go s

/-- Gate 3 of a PROBE start and what follows it (R27, R105, R135, R164). -/
def State.startProbe (t : TravelSpec) (s : State) : State :=
  match s.mountedDetail, s.mountedRecord with
  | some detail, _ => s.faultStill (report .noProbe detail 0)
  | none, none => s.faultStill (report .noProbe 2 0)
  | none, some r =>
    if r.qual != .qualified then
      if s.mayAutoQualify then s.pushOut .qualify (some t.need) false
      else s.faultStill (report .qualStale r.qual.code 0)
    else if s.mustSoak then s.pushOut .soak (some t.need) false
    else s.gateRing .segmentPastRing State.probePastRing

/-- The start of the current segment past gate 1 (R27). -/
def State.startSegment (s : State) : State :=
  match s.run.current with
  | some { body := .move t, .. } => s.withReferences (State.startTravel false t)
  | some { body := .probe _ t, .. } => s.withReferences (State.startProbe t)
  | _ => s

/-- A dwell runs (R31). -/
def State.startDwell (left : BitVec 16) (s : State) : State :=
  s.formMotion (restingMotion .dwell .segment s.positions (some left))

/-- A back-off starts (R103, R34): after a PROBE travel at the segment's feed, with its need set. After a touch, for which R103 and R143
name neither, it runs at the touch feed with the corridor set of the top excursion record (the model's choice, log 74). -/
def State.startBackOff (target : Vec3 Lu) (thenHeld : Bool) (s : State) : State :=
  let touching := !s.run.stack.isEmpty
  let feed := if touching then s.config.elim 0 (·.touchFeed) else s.currentTravel.elim 0 (·.feed)
  let required := if touching then s.topCorridor else s.currentTravel.elim 0 (·.need)
  match s.limitCheck target with
  | some r => s.faultOff r
  | none =>
    s.formMotion { straightMotion .backOff .backOff s.positions target feed required with thenHeld := thenHeld }

/-! ## Referencing (R14 to R16) -/

/-- An axis's limit stands asserted on the side toward which its seek would move: HW_MIN 2 or HW_MAX 3 (R16). -/
def seekBlocked (c : AxisConf) (ch : AxisChannel) : Option Nat :=
  if c.homeMinus then (if ch.minusLimit then some 2 else none) else (if ch.plusLimit then some 3 else none)

/-- The next axis begins its seek, or the referencing is complete (R14, R15). The release keeps what the records of the excursion
stack keep held (R138). -/
def State.nextSeek (s : State) : State :=
  match s.config, s.arm.seeks with
  | some c, a :: _ =>
    let s := { s with axes := vset s.axes a { vget s.axes a with referenced := false } }
    match seekBlocked (vget c.axes a) (vget s.axes a) with
    | some detail => s.faultOff (report .homeFail (axisCode a) detail)
    | none =>
      let m : Motion := { restingMotion (.seek a) .seek s.positions none with
        feed := some (vget c.axes a).homeFeed, required := c.homeZones }
      let s := s.formMotion m
      { s with arm := { s.arm with st := .homing, markMet := false } }
  | some c, [] =>
    let s := (s.arriveIn c.homeStanding).standStill
    s.releaseOutside (s.keep ||| stackKeeps c s.run.stack)
  | none, _ => s

/-- The seeks begin (R13, R14). -/
def State.startHome (s : State) : State :=
  match s.config with
  | some c =>
    let s := { s with arm := { s.arm with todo := none, begun := s.arm.begun ||| c.homeZones, seeks := c.order } }
    s.nextSeek
  | none => s

/-! ## Excursions (R137, R138, R143) -/

/-- The target of the active excursion's move out (R137). -/
def State.outTarget (c : Image) (s : State) : Vec3 Lu :=
  match s.top with
  | some r => if r.kind == .soak then c.park else c.sphereApproach
  | none => c.sphereApproach

/-- The move out (R137). -/
def State.startMoveOut (s : State) : State :=
  match s.config with
  | some c => s.withReferences (State.startStraight .moveOut .excursion (s.outTarget c) c.excursionFeed s.topCorridor)
  | none => s

/-- The move back to the return position; one of zero length completes at once (R138). -/
def State.startReturnMove (s : State) : State :=
  match s.config, s.top with
  | some c, some r =>
    if s.positions == r.position then s.pop
    else s.startStraight .returnMove .excursion r.position c.excursionFeed (corridorOf c r.kind ||| r.standing)
  | _, _ => s

/-- A return begins with its items held (R138): for a QUALIFY with the transfer to the sphere approach point; a change
that stayed is popped at once. -/
def State.startReturn (s : State) : State :=
  match s.config, s.top with
  | some c, some r =>
    match r.kind with
    | .change => if s.chg.stayed then s.pop else s.setTodo .returnMove
    | .soak => s.setTodo .returnMove
    | .qualify =>
      match s.qual with
      | some q =>
        match s.probe q.id with
        | some p =>
          let legs := transferLegs (clearancePlane c p.defined) s.positions c.sphereApproach
          let s := { s with qual := some { q with legs := legs, returning := true } }
          s.setTodo (if legs.isEmpty then .returnMove else .leg)
        | none => s.setTodo .returnMove
      | none => s.setTodo .returnMove
  | _, _ => s

/-- A leg of a transfer (R142). -/
def State.startLeg (s : State) : State :=
  match s.config, s.qual with
  | some c, some q =>
    match q.legs with
    | leg :: _ => s.startStraight .leg .excursion leg c.excursionFeed c.sphereCorridor
    | [] => s
  | _, _ => s

/-- The travel of a touch with its ring space gate passed: the deflection gate and the limit checks (R143). R38 lets a PROBE pass the
deflection gate in shadow mode, and neither its words on QUALIFY nor R143 say so of a touch: the model lets a touch pass too (log 83). -/
def State.touchPastRing (s : State) : State :=
  match s.config, s.qual with
  | some c, some q =>
    match s.probe q.id with
    | some p =>
      if s.blockedByTrigger then s.faultStill (report .probeDeflected q.touch 0)
      else s.startStraight .touch .touch (touchTarget c p.defined q.touch) c.touchFeed c.sphereCorridor
    | none => s
  | _, _ => s

/-- Why the probe gate of a touch fails (R143, R105; log 23 for a resolved probe that is another). -/
def State.touchProbeDetail (id : ProbeId) (s : State) : Option Byte :=
  match s.mountedDetail with
  | some d => some (BitVec.ofNat 8 d)
  | none => if s.mounted == .resolved id then none else some Config.noProbeOtherDetail

/-- A touch starts (R143). -/
def State.startTouch (s : State) : State :=
  match s.qual with
  | some q =>
    match s.touchProbeDetail q.id with
    | some d => s.faultStill { code := .noProbe, detail := d, value := 0 }
    | none =>
      if s.mustSoak then
        ({ s with qual := some { q with results := [], latched := none } }).pushOut .soak none false
      else s.gateRing .touchPastRing State.touchPastRing
  | none => s

/-- After a hold the arm moves back along the touch line to the touch's start point (R140). -/
def State.startTouchBack (s : State) : State :=
  match s.config, s.qual with
  | some c, some q =>
    match s.probe q.id with
    | some p => s.startStraight .touchBack .excursion (touchStart c p.defined q.touch) c.touchFeed c.sphereCorridor
    | none => s
  | _, _ => s

/-! ## The driver -/

/-- A start past gate 1. -/
def State.startPastGate (t : Start) (s : State) : State :=
  match t with
  | .segment => s.startSegment
  | .segmentPastRing => s.probePastRing
  | .dwellOn left => s.startDwell left
  | .backOff target => s.startBackOff target false
  | .home => s.startHome
  | .changeBegin => s.beginChange
  | .changeClaim => s.changeHeld
  | .changeMove m => s.startChangeMove m
  | .moveOut => s.startMoveOut
  | .beginReturn => s.startReturn
  | .returnMove => s.startReturnMove
  | .leg => s.startLeg
  | .touch => s.startTouch
  | .touchPastRing => s.touchPastRing
  | .touchBack => s.startTouchBack

/-- What waits is started: gate 1, then the rest. -/
def State.begin_ (t : Start) (s : State) : State :=
  let g := s.gateItems t
  if g.2 then ({ g.1 with arm := { g.1.arm with todo := none } }).startPastGate t else g.1

/-- A start may begin: the run is not HELD, but for a referencing (R33). The decision of R123 at the end of an identity read is such a
start, `changeBegin`, and waits too (the model's choice, log 14). -/
def State.mayBegin (t : Start) (s : State) : Bool := s.run.st != .held || t == .home

/-- The head segment may be taken (R26). -/
def State.mayTake (s : State) : Bool := s.run.st == .active && s.run.stack.isEmpty && s.run.current.isNone

/-- REFILL when a take brings the count from above the low mark to it (R20). -/
def State.refill (s : State) : State :=
  match s.config with
  | some c =>
    if s.run.queue.length == c.lowMark.toNat then s.emit (.refill (BitVec.ofNat 8 s.run.queue.length)) else s
  | none => s

/-- A segment becomes current (R26). -/
def State.take (seg : Segment) (rest : List Segment) (s : State) : State :=
  let s := ({ s with run := { s.run with queue := rest, current := some seg } }).refill
  match seg.body with
  | .move _ => s.setTodo .segment
  | .probe _ _ => s.setTodo .segment
  | .dwell ms => s.setTodo (.dwellOn ms)
  | .change id => s.pushChange id true
  | .qualify => s.pushOut .qualify none true

/-- An excursion goes on whose change has ended during a referencing (R13, R138). -/
def State.resumeExcursion (s : State) : State :=
  ({ s with chg := { s.chg with parked := false } } : State).afterChange

/-- One thing that the standing arm goes on with; none when it has nothing to do, or when a detach is due (R92). -/
def State.advance (s : State) : Option State :=
  if s.detachDue.isSome then none
  else
    match s.arm.st with
    | .still =>
      match s.arm.todo with
      | some t => if s.mayBegin t then some (s.begin_ t) else none
      | none =>
        if s.chg.parked then some s.resumeExcursion
        else
          match s.run.queue with
          | seg :: rest => if s.mayTake then some (s.take seg rest) else none
          | [] => none
    | _ => none

/-- The arm goes on until it moves, waits or has nothing to do (R26). The bound is more than any command needs
(log 42). -/
def State.goOn : Nat → State → State
  | 0, s => s
  | n + 1, s =>
    match s.advance with
    | some s' => goOn n s'
    | none => s

/-- The arm goes on after a command. -/
def State.settle (s : State) : State := s.goOn 256

end Sys2Proof.Machine
end

