-- ==== Sys2Proof/Machine/Joining.lean ====
section
/-! DEFINITION. The join unit and what an applied share frame does at its station: detach (R91, R92), QUIET (R49), joining
(R80 to R90), the other blocks after the grant walk (R62). -/

namespace Sys2Proof.Machine

open Sys2Proof

/-! ## Claims told -/

/-- The requester is told that its items are held (R28, R74): a start that waits for them goes on. -/
def State.claimTold (r : Option Requester) (s : State) : State :=
  match r with
  | none => s
  | some .lookahead => s
  | some .conflict => s
  | some _ =>
    if s.arm.todo.isSome then
      { s with arm := { s.arm with itemsHeld := true, st := if s.arm.st == .claiming then .still else s.arm.st } }
    else s

/-- The requester is told that its wait has failed (R75). A CONFLICT claim has no timer; were it EXPIRING, nothing would be told (the
model's choice, log 90). -/
def State.claimTimedOut (r : Option (Requester × ItemSet)) (s : State) : State :=
  match r with
  | none => s
  | some (.lookahead, _) => s
  | some (.conflict, _) => s
  | some (_, items) => s.faultStill (report .zoneTimeout 0 items.toNat)

/-! ## Mailboxes -/

/-- A frame on the line no longer stands for mailbox content that meets `p` (R54, R60). -/
def staleIf (p : TxContent → Bool) (tx : Option Tx) : Option Tx :=
  tx.map (fun tx => if p tx.content then { tx with stale := true } else tx)

/-- A frame of M0, M1 or M2. -/
def TxContent.ofTable : TxContent → Bool
  | .lost _ => true
  | .share _ _ => true
  | .snapshot _ => true
  | _ => false

/-- A snapshot part. -/
def TxContent.isSnapshot : TxContent → Bool
  | .snapshot _ => true
  | _ => false

/-- M2 holds other parts, or none (R54). -/
def State.setParts (parts : List M2Part) (s : State) : State :=
  { s with line := { s.line with m2 := parts, tx := staleIf TxContent.isSnapshot s.line.tx } }

/-- M1, M2, the LOST set and the times are discarded, and the counts are 0 (R60). -/
def Line.detached (l : Line) : Line :=
  { l with
    m1 := [], m2 := [], lostSet := 0, lastHeard := List.replicate 8 none, heardAny := none, crcVetoes := 0, voids := 0,
    awaiting := none, tx := staleIf TxContent.ofTable l.tx }

/-- Every mailbox is emptied (R60, R180); the event set is emptied with it. -/
def Line.emptied (l : Line) : Line :=
  { l.detached with
    m3 := none, points := 0, thermal := none, presence := false, tx := staleIf (fun _ => true) l.tx }

/-! ## Join states -/

/-- LISTENING with a fresh join window, which runs only with a good image (R79, R80). A LEAVE wait in progress runs on (log 48). -/
def State.enterListening (s : State) : State :=
  { s with join := { Join.cold with
      leaveWait := s.join.leaveWait
      window := if s.setup.load == .loaded then some s.clock else none } }

/-- QUIET is entered (R49). -/
def State.enterQuiet (s : State) : State :=
  { s with
    join := { Join.cold with st := .quiet, leaveWait := s.join.leaveWait, quietSince := some s.clock }
    line := { s.line with
      crcVetoes := 0, m1 := [], m2 := [], awaiting := none, tx := staleIf TxContent.ofTable s.line.tx } }

/-- A detach (R92). A station that is LISTENING or QUIET does not detach (R91). A LEAVE wait runs on through it (the model's
choice, log 48). -/
def State.detach (cause : DetachCause) (s : State) : State :=
  if !(s.join.st == .joining || s.join.st == .attached) then s
  else
    let s := { s with
      table := none
      agent := { current := none, retired := none }
      line := s.line.detached
      mounted := match s.mounted with
        | .resolved id => .unresolved (.id id)
        | m => m
      thermal := { s.thermal with peers := substitutePeers s.clock (fun _ => true) s.thermal.peers } }
    let s := s.discardWaiting.abortAll.bringToRest .still
    let s := ((s.endRun .detached 0).flushUnrun).drainRing
    let s := s.emit (.detach cause)
    if cause == .vetoLimit then s.enterQuiet else s.enterListening

/-- A command's effects are complete: the arm goes on, and a detach that a ninth M1 entry caused is carried out; with a detach
due, the arm starts nothing more (R26, R53, R92, log 15). -/
def State.finish (s : State) : State :=
  let s := s.settle
  match s.detachDue with
  | some cause => ({ s with detachDue := none }).detach cause
  | none => s

/-- A join that is not adopted fails (R88). Its wait timer stops with it, also when the log or the records are full: R88 does not say
(the model's choice, log 86). -/
def State.failJoin (s : State) : State :=
  ({ s with join := { s.join with logging := false, log := [], presences := [], parts := [], wait := none } }).pushM1
    (.join false)

/-- M1 holds a JOIN. -/
def State.holdsJoin (s : State) : Bool := s.line.m1.any M1Entry.isJoin

/-- The station has heard the cell (R80). -/
def State.heardCell (s : State) : State :=
  if s.setup.load != .loaded then s
  else if !s.holdsJoin then s.pushM1 (.join false)
  else s.rewriteM1 M1Entry.isJoin (.join false)

/-! ## The mounted probe (R121, R122) -/

/-- A slot of the table holds a probe ID. -/
def Table.holds (t : Table) (id : ProbeId) : Bool := t.slots.any (fun r => r.contents == .probe id)

/-- The mounted-probe record after an application: unresolved by a slot that names it (R121), then checked (R122). -/
def mountedAfter (t : Table) (attached : Bool) (m : Mounted) : Mounted :=
  let m := match m with
    | .resolved id => if t.holds id then Mounted.unresolved (.id id) else m
    | _ => m
  match m with
  | .unresolved (.id id) => if attached && !t.holds id then .resolved id else m
  | _ => m

/-- The mounted-probe check (R122). -/
def State.checkMounted (s : State) : State :=
  match s.table with
  | some t => { s with mounted := mountedAfter t (s.join.st == .attached) s.mounted }
  | none => s

/-! ## Entering ATTACHED -/

/-- The set of slots sensed PRESENT, when every slot has been reported (R117). -/
def Table.differsFrom (t : Table) (presences : SlotSet) : Bool :=
  (mapFrom (fun n (r : SlotRec) => r.sensed == (if presences.getLsbD n then Sensed.present else Sensed.absent)) 0
    t.slots).contains false

/-- The rack host queues its presences, or rewrites a SLOT_SENSE that waits (R117). -/
def State.queueSlotSense (s : State) : State :=
  if s.waitsInM1 M1Entry.isSlotSense then s.rewriteM1 M1Entry.isSlotSense (.slotSense s.rack)
  else s.pushM1 (.slotSense s.rack)

/-- The rack host compares its presences with its table on becoming ATTACHED (R117). -/
def State.reportRack (s : State) : State :=
  match s.table with
  | some t => if s.setup.straps.rackHost && t.differsFrom s.rack then s.queueSlotSense else s
  | none => s

/-- Peer and isolation timing begin (R58, R59). -/
def State.startTiming (t : Table) (s : State) : State :=
  { s with line := { s.line with
      lastHeard := mapFrom (fun n r => if r.state.inCell && n != s.me.val then some s.clock else none) 0 t.roster
      heardAny := some s.clock } }

/-- The station becomes ATTACHED: ATTACH event, timing, the rack host's comparison; a conflict set that is not empty
de-energizes the drives and is claimed (R89, R90, R117). The rack host's SLOT_SENSE stands before the CLAIM in M1 (the model's
choice, log 68). -/
def State.becomeAttached (t : Table) (s : State) : State :=
  let s := { s with join := { Join.cold with st := .attached, leaveWait := s.join.leaveWait } }
  let s := ((s.startTiming t).emit .attach).checkMounted.reportRack
  let conflict := (t.entry s.me).conflict
  if conflict == 0 then s else (s.deenergize.request .conflict (zoneItems conflict)).1

/-- The station's own founding JOIN is accepted (R81). -/
def State.found (f : JoinFields) (s : State) : State :=
  let t := Table.found s.me f
  ({ s with table := some t }).becomeAttached t

/-! ## Application at a table holder (R62) -/

/-- Run control acts on the loss of its owner (R25). With run state NONE the queue is flushed, and a stand-alone excursion goes on
(the model's choice, log 69). -/
def State.loseOwner (gone : StationSet) (s : State) : State :=
  match s.run.owner with
  | some o =>
    if gone.getLsbD o.val then (if s.run.st == .none then s.flushUnrun else s.stopAll .ownerLost 0) else s
  | none => s

/-- The line controller acts on its LOST set and the peers' times (R52, R58). -/
def State.lineApplied (p : Station) (f : ShareFrame) (gone : StationSet) (s : State) : State :=
  let lost := match f with
    | .lost stations => if p == s.me then s.line.lostSet else s.line.lostSet &&& ~~~ stations
    | .leave => s.line.lostSet &&& ~~~ stationBit p
    | _ => s.line.lostSet
  let joined := match f with
    | .join _ => s.join.st == .attached && p != s.me
    | _ => false
  { s with line := { s.line with
      lostSet := lost
      lastHeard := mapFrom (fun n t =>
        if gone.getLsbD n then none else if joined && n == p.val then some s.clock else t) 0 s.line.lastHeard } }

/-- The snapshot mailbox: parts for a joiner that is no longer JOINING are discarded, and a capture replaces all parts
(R54, R84). -/
def State.snapshotApplied (a : Applied) (s : State) : State :=
  let s := match s.line.m2 with
    | part :: _ => if (a.table.entry part.dest).state == .joining then s else s.setParts []
    | [] => s
  match a.capture with
  | some c =>
    if c.by_ == s.me then s.setParts ((a.table.image c.cause).map (fun part => { dest := c.dest, part := part })) else s
  | none => s

/-- The FRESH readings of the stations that have left the cell stand in (R156). -/
def State.substituteReadings (gone : StationSet) (s : State) : State :=
  { s with thermal := { s.thermal with
      peers := substitutePeers s.clock (fun n => gone.getLsbD n.toNat) s.thermal.peers } }

/-- The blocks act on what an application changed (R62), in its order. -/
def State.blocksAct (p : Station) (f : ShareFrame) (gone : StationSet) (a : Applied) (s : State) : State :=
  let s := ((s.loseOwner gone).lineApplied p f gone).snapshotApplied a
  let s := s.checkMounted.substituteReadings gone
  let told := s.agentApplied p f a.table a.granted
  let s := told.1.claimTold told.2
  if p == s.me then
    match f with
    | .attach => if s.join.st == .joining then s.becomeAttached a.table else s
    | .release items => s.changeReleased items
    | _ => s
  else s

/-- The application of an accepted share frame at a station that holds a table (R62, R71). -/
def State.applyShare (t : Table) (p : Station) (f : ShareFrame) (s : State) : State :=
  let a := t.apply p f s.clock
  let gone := t.leaving p f
  let s := { s with table := some a.table }
  match f with
  | .lost _ => if gone.getLsbD s.me.val then s.detach .declaredLost else s.blocksAct p f gone a
  | _ => s.blocksAct p f gone a

/-! ## Stations without a table -/

/-- A share frame accepted by a JOINING station that has not adopted is logged (R86, R88). -/
def State.logShare (p : Station) (seq : BitVec 16) (f : ShareFrame) (s : State) : State :=
  let named := match f with
    | .lost stations => stations.getLsbD s.me.val
    | _ => false
  if named then s.detach .declaredLost
  else if !s.join.logging then s
  else if s.join.log.length < 32 then
    { s with join := { s.join with log := s.join.log ++ [{ sender := p, seq := seq, frame := f }] } }
  else s.failJoin

/-- A founding image is kept from an observed founding JOIN (R82). A JOIN that waits in M1 is removed before the ordinary one is
appended, founding or not: the rule names only a founding JOIN, and M1 then holds one JOIN (the model's choice, log 36). -/
def State.keepFoundingImage (p : Station) (f : JoinFields) (s : State) : State :=
  let s := s.removeM1 M1Entry.isJoin
  let s := { s with join := { s.join with heardShare := true, image := some (Table.found p f) } }
  s.pushM1 (.join false)

/-- A share frame accepted by a LISTENING station (R80, R82). -/
def State.listenShare (p : Station) (f : ShareFrame) (s : State) : State :=
  if s.setup.load != .loaded then s
  else
    let founding := match f with
      | .join fields => fields.founding && !s.join.heardShare
      | _ => false
    match founding, f with
    | true, .join fields => s.keepFoundingImage p fields
    | _, _ =>
      let s := { s with join := { s.join with
        heardShare := true
        image := s.join.image.map (fun (t : Table) => (t.apply p f s.clock).table) } }
      s.heardCell

/-! ## Receiving -/

/-- A frame from another station has been received correctly: the CRC veto count, the silence times, and the join window
unless a LISTENING PRESENCE (R49, R58, R59, R80). A QUIET station makes no count. -/
def State.heard (p : Station) (opensWindow : Bool) (s : State) : State :=
  if s.join.st == .quiet then s
  else
    { s with
      line := { s.line with
        crcVetoes := 0
        lastHeard := updateAt (fun t => t.map (fun _ => s.clock)) p.val s.line.lastHeard
        heardAny := s.line.heardAny.map (fun _ => s.clock) }
      join := { s.join with
        window := if s.join.st == .listening && s.setup.load == .loaded && opensWindow then some s.clock
          else s.join.window } }

/-- A share frame accepted at a station without a table is the join unit's (Table 3-5): logged by a JOINING station, heard by a
LISTENING one, ignored in QUIET. -/
def State.joinUnitTakes (p : Station) (seq : BitVec 16) (f : ShareFrame) (s : State) : State :=
  match s.join.st with
  | .joining => s.logShare p seq f
  | .listening => s.listenShare p f
  | _ => s

/-- The frame comes from another station, and the line controller follows the line (R41, R44). -/
def State.receives (p : Station) (s : State) : Bool := s.line.active && p != s.me

/-- The Sequence check of a share frame other than JOIN fails (R46). -/
def mismatched (t : Table) (seq : BitVec 16) (f : ShareFrame) : Bool :=
  match f with
  | .join _ => false
  | _ => seq != t.seq + 1

/-- A share frame of another station, received correctly (R46, R48, Table 3-5). -/
def State.shareReceived (p : Station) (seq : BitVec 16) (f : ShareFrame) (s : State) : State :=
  let s := s.heard p true
  match s.table with
  | some t => if mismatched t seq f then s.detach .mismatch else s.applyShare t p f
  | none => s.joinUnitTakes p seq f

/-! ## Adoption (R86, R87) -/

/-- The station adopts a table: JOINING-adopted, with ATTACH queued and the mounted-probe check made (R82, R87). -/
def State.adopt (t : Table) (s : State) : State :=
  let s := { s with
    table := some t
    join := { Join.cold with st := .joining, leaveWait := s.join.leaveWait } }
  (s.pushM1 .attach).checkMounted

/-- A part has been collected; with five parts of one image the station adopts it, or discards them when its place is not
in the log (R87). The readings of the stations that the replay takes out of the cell stand in (R156). -/
def State.collect (part : SnapshotPart) (s : State) : State :=
  let parts := collectPart s.join.parts part
  match tableOfParts parts s.clock with
  | none => { s with join := { s.join with parts := parts } }
  | some (t, cause) =>
    match imagePlace cause t.seq s.join.log with
    | none => { s with join := { s.join with parts := [] } }
    | some n =>
      let gone := leavers s.clock s.join.presences n (s.join.log.drop n) t
      (s.substituteReadings gone).adopt (replay s.clock s.join.presences n (s.join.log.drop n) t)

end Sys2Proof.Machine
end

