-- ==== Sys2Proof/Machine/AxisRows.lean ====
section
/-! DEFINITION. The axis unit's commands: scale counting, scale faults, reference marks, limits, following error, ESTOP
(chapter 1). -/

namespace Sys2Proof.Machine

open Sys2Proof

/-- One axis channel changed. -/
def State.updateAxis (a : AxisName) (f : AxisChannel → AxisChannel) (s : State) : State :=
  { s with axes := vset s.axes a (f (vget s.axes a)) }

/-- The position follows the scale outside shadow mode (R2), and the setpoint the position while the drives are
DE_ENERGIZED (R3). -/
def AxisChannel.follow (shadow energized : Bool) (scale : Lu) (a : AxisChannel) : AxisChannel :=
  let pos := if shadow then a.pos else scale
  { a with scale := scale, pos := pos, setpoint := if energized then a.setpoint else pos }

/-- The scale's step in lu, in the direction of the count sense (R1). -/
def AxisConf.step (c : AxisConf) (forward : Bool) : BitVec 32 :=
  if forward == c.senseNegative then -(c.resolution.setWidth 32) else c.resolution.setWidth 32

/-- SCALE_STEP (R1). -/
def execScaleStep (axis : AxisName) (forward : Bool) (s : State) : Host.Outcome State Fault Refusal :=
  .next (s.updateAxis axis (fun a =>
    let a := { a with count := if forward then a.count + 1 else a.count - 1 }
    match s.config with
    | some c => a.follow s.arm.shadow s.arm.energized (a.scale + (vget c.axes axis).step forward)
    | none => a))

/-- A scale fault: the referenced flag is cleared, and SCALE is raised with INPUT 0 or COUNT 1 (R8, Table 12-8). -/
def State.scaleFault (axis : AxisName) (detail : Nat) (s : State) : State :=
  let s := s.updateAxis axis (fun a => { a with referenced := false })
  let r := report .scale (axisCode axis) detail
  if s.arm.energized then s.faultOff r else (s.raise r).endRun .fault 0

/-- SCALE_COUNT_FAULT (R1, R8). -/
def execScaleCountFault (axis : AxisName) (s : State) : Host.Outcome State Fault Refusal :=
  .next (s.scaleFault axis 1).finish

/-- SCALE_FAULT_INPUT (R8): an input that is asserted already does not assert. -/
def execScaleFaultInput (axis : AxisName) (s : State) : Host.Outcome State Fault Refusal :=
  if (vget s.axes axis).scaleFault then .next s
  else .next ((s.updateAxis axis (fun a => { a with scaleFault := true })).scaleFault axis 0).finish

/-- SCALE_FAULT_CLEARED (R8, R9). -/
def execScaleFaultCleared (axis : AxisName) (s : State) : Host.Outcome State Fault Refusal :=
  .next (s.updateAxis axis (fun a => { a with scaleFault := false }))

/-- The axis whose seek is in progress. -/
def State.seeking (s : State) : Option AxisName :=
  if s.arm.st == .homing && s.arm.stopping.isNone then s.arm.seeks.head? else none

/-- The reference mark sets the axis's position (R14); the setpoint moves with it (log 11). -/
def AxisChannel.refer (reference : Lu) (a : AxisChannel) : AxisChannel :=
  { a with
    scale := reference, pos := reference, setpoint := a.setpoint + (reference - a.pos), referenced := true }

/-- REFERENCE_MARK (R14); outside the seek of its axis, or after its mark, it is ignored (R1, R16). -/
def execReferenceMark (axis : AxisName) (s : State) : Host.Outcome State Fault Refusal :=
  match s.config with
  | some c =>
    if s.seeking == some axis && !s.arm.markMet then
      let s := s.updateAxis axis (AxisChannel.refer (vget c.axes axis).reference)
      .next { s with arm := { s.arm with markMet := true } }
    else .next s
  | none => .next s

/-- The place where a seek's stop ends: so far beyond its mark in the homing direction, and not behind the present setpoint
(R14; the distance is the row's operand, log 8). -/
def seekRest (c : AxisConf) (a : AxisChannel) (beyond : BitVec 32) : Lu :=
  seekPlace c (seekFarther c c.reference a.setpoint) beyond.toNat

/-- SEEK_END (R14, R15): the axis has stopped beyond its mark, and the next seek begins. -/
def execSeekEnd (beyond : BitVec 32) (s : State) : Host.Outcome State Fault Refusal :=
  match s.seeking, s.config with
  | some axis, some c =>
    if s.arm.markMet then
      let s := s.updateAxis axis (fun a => { a with setpoint := seekRest (vget c.axes axis) a beyond })
      .next ({ s with arm := { s.arm with seeks := s.arm.seeks.drop 1 } }).nextSeek.finish
    else .next s
  | _, _ => .next s

/-- The level of a limit input. -/
def AxisChannel.limitLevel (side : Side) (a : AxisChannel) : Bool :=
  match side with
  | .minus => a.minusLimit
  | .plus => a.plusLimit

/-- The level of a limit input set. -/
def AxisChannel.setLimit (side : Side) (level : Bool) (a : AxisChannel) : AxisChannel :=
  match side with
  | .minus => { a with minusLimit := level }
  | .plus => { a with plusLimit := level }

/-- HW_MIN 2 and HW_MAX 3 (Table 12-8). -/
def sideDetail : Side → Nat
  | .minus => 2
  | .plus => 3

/-- HW_LIMIT_ASSERTED (R6, R16): HOME_FAIL on the seeking axis from the start of its seek to its end, LIMIT in the
controlled stop of a seek that was given up (log 26). -/
def execHwLimitAsserted (axis : AxisName) (side : Side) (s : State) : Host.Outcome State Fault Refusal :=
  if (vget s.axes axis).limitLevel side then .next s
  else
    let s := s.updateAxis axis (AxisChannel.setLimit side true)
    if s.arm.energized && !s.arm.shadow then
      let code := if s.seeking == some axis then FaultCode.homeFail else .limit
      .next (s.faultOff (report code (axisCode axis) (sideDetail side))).finish
    else .next s

/-- HW_LIMIT_CLEARED (R6). -/
def execHwLimitCleared (axis : AxisName) (side : Side) (s : State) : Host.Outcome State Fault Refusal :=
  .next (s.updateAxis axis (AxisChannel.setLimit side false))

/-- The state at a step of the position loop: the loop's steps fall between the milliseconds of the station clock, and the setpoints
of a travelling arm have gone up to one millisecond's way further along the path since the last one (R3, R7; the distance is
the row's operand, log 8). -/
def State.atLoopStep (since : BitVec 32) (s : State) : State :=
  match s.arm.motion with
  | some m => if s.travelling then s.moveAlong m (min since.toNat m.speed) else s
  | none => s

/-- FOLLOWING_ERROR (R7): FOLLOW when the difference exceeds the following limit, with the drives energized and shadow mode
off. The setpoint compared is the axis's own at that step of the position loop. -/
def execFollowingError (axis : AxisName) (since : BitVec 32) (now : State) : Host.Outcome State Fault Refusal :=
  let s := now.atLoopStep since
  match s.config with
  | some c =>
    let difference := (vget s.axes axis).setpoint.toInt - (vget s.axes axis).pos.toInt
    if s.arm.energized && !s.arm.shadow && decide ((vget c.axes axis).following.toNat < difference.natAbs) then
      let r : FaultReport :=
        { code := .follow, detail := BitVec.ofNat 8 (axisCode axis), value := toLu difference }
      .next (s.faultOff r).finish
    else .next now
  | none => .next now

/-- ESTOP (R11, R39): the drives are cut, shadow mode ends, a run ends with ESTOP; with run NONE the zones of a rehearsal are
released at once. -/
def execEstop (s : State) : Host.Outcome State Fault Refusal :=
  if s.estop then .next s
  else
    let s := { s with estop := true }
    let had := !s.run.stack.isEmpty
    let shadow := s.arm.shadow
    let s := s.abortAll
    let s := if shadow then s.leaveShadow else s
    let s := (s.deenergize.endRun .estop 0).releaseAfterExcursion (had || shadow)
    .next s.finish

/-- ESTOP_CLEARED (R11): nothing is energized. -/
def execEstopCleared (s : State) : Host.Outcome State Fault Refusal := .next { s with estop := false }

end Sys2Proof.Machine
end

