-- ==== Sys2Proof/Machine/ProbeRows.lean ====
section
/-! DEFINITION. The commands of the probe head and the rack: trigger, head sensing, identity reads, lock pulses and their
waits, rack presence inputs (chapters 6 and 8). -/

namespace Sys2Proof.Machine

open Sys2Proof

/-! ## The trigger qualifier (R101 to R107) -/

/-- The trigger qualifier is armed (R101). -/
def State.armed (s : State) : Bool :=
  s.executing && s.arm.energized && !s.arm.shadow && s.head.seated && s.mountedRecord.isSome && !s.inWindow &&
    match s.arm.motion with
    | some m => !(m.origin == .backOff)
    | none => false

/-- A probing travel: the travel of a PROBE segment, or a touch (R103). It stays one in the stop of a detach or a STOP, when its
segment is no longer current (R107). -/
def State.probing (s : State) : Bool := s.arm.motion.any (·.probing)

/-- A qualifier that is disarmed holds no pending latch (R101). -/
def State.keepLatchWhileArmed (s : State) : State := if s.armed then s else s.dropLatch

/-- What a contact of a probing travel leaves: a point, or the result of the touch (R103, R108, R143). -/
def State.recordContact (position : Vec3 Lu) (s : State) : State :=
  match s.qual, s.arm.motion with
  | some q, some m =>
    if m.act == .touch then { s with qual := some { q with latched := some (vget position (touchAxis q.touch)) } }
    else s.buildPoint position
  | _, _ => s.buildPoint position

/-- The back-off of a contact at standstill: target formed, and the motion started (R103). -/
def State.beginBackOff (thenHeld : Bool) (s : State) : State :=
  match s.config, s.arm.motion with
  | some c, some m =>
    let target := backOffTarget s.freeCount c.retract m.startedAt (m.target.getD m.startedAt) s.positions
    let s := { s with freeCount := s.freeCount + 1 }
    s.standStill.startBackOff target thenHeld
  | _, _ => s

/-- An accepted contact ends a probing travel (R103): by a fast stop, or at once where the arm waits at its target. -/
def State.contactEnds (position : Vec3 Lu) (held : Bool) (s : State) : State :=
  let s := s.recordContact position
  if s.travelling then s.stopFast { fast := true, after := .backOff, held := false, afterBackOff := held }
  else s.beginBackOff held

/-- An accepted contact in a probing travel, by the deceleration in progress (R103). A travel that waits at its target takes a hold
with it (log 50). In a fast stop that an earlier contact or a fault has made, a further contact changes nothing (the model's
choice, log 57). -/
def State.probingContact (position : Vec3 Lu) (s : State) : State :=
  match s.arm.stopping with
  | none => s.contactEnds position (s.arm.motion.any (·.thenHeld))
  | some p =>
    match p.after with
    | .resume => s.contactEnds position p.held
    | .backOff => s
    | _ => s.stopFast p

/-- The code of the current motion's origin (Table 12-8). -/
def State.originCode (s : State) : Nat := s.arm.motion.elim 0 (·.origin.code)

/-- A contact is accepted (R102): the qualifier takes no edge until the input returns. -/
def State.acceptContact (position : Vec3 Lu) (s : State) : State :=
  let s := { s with trig := { s.trig with latch := none, blocked := true } }
  if s.probing then s.probingContact position else s.faultFast (report .collision s.originCode 0) position

/-- The travel has reached its target with no contact and no latch: a miss (R104). -/
def State.miss (s : State) : State :=
  match s.qual, s.run.stack with
  | some q, _ :: _ => s.faultStill (report .noContact q.touch 0)
  | _, _ =>
    match s.run.current with
    | some { body := .probe missOk t, tag := tag, .. } =>
      if missOk then s.completeSegment .miss t.endSet (s.arm.motion.any (·.thenHeld))
      else (s.arriveIn t.endSet).faultStill (report .noContact 0 tag.toNat)
    | _ => s

/-- A false trigger (R102): counted from 0 to 8, and PROBE_NOISY when it brings the count to 8; a travel that waits at its target
ends in a miss. -/
def State.countFalse (s : State) : State :=
  match s.arm.motion with
  | none => s
  | some m =>
    let n := if m.falseTriggers < 8 then m.falseTriggers + 1 else m.falseTriggers
    let s := { s with
      trig := { s.trig with latch := none }
      arm := { s.arm with motion := some { m with falseTriggers := n } } }
    if m.falseTriggers == 7 then s.faultFast (report .probeNoisy m.origin.code 0) s.positions
    else if m.atTarget then s.miss
    else s

/-- The trigger input stands at a level (R101, R102). The level is judged by the polarity that the mounted probe's record has then: a
PROBEDEF that changes it leaves a pending latch pending, and after an accepted contact leaves the qualifier waiting for the level that is
then unasserted, so that it takes no edge before (the model's choices, log 58). -/
def State.triggerTo (high : Bool) (s : State) : State :=
  if s.trig.high == high then s
  else
    let s := { s with trig := { s.trig with high := high } }
    if !s.armed then { s with trig := { s.trig with latch := none, blocked := false } }
    else if s.assertedLevel == some high then
      if s.trig.latch.isSome || s.trig.blocked then s
      else
        match s.mountedRecord with
        | some r =>
          if r.defined.width == 0 then s.acceptContact s.positions
          else { s with trig := { s.trig with latch := some { position := s.positions, width := r.defined.width } } }
        | none => s
    else if s.trig.latch.isSome then s.countFalse
    else { s with trig := { s.trig with blocked := false } }

/-- TRIGGER_EDGE (R101): the input changes to a level. -/
def execTriggerEdge (high : Bool) (s : State) : Host.Outcome State Fault Refusal :=
  if s.trig.high == high then .next s else .next (s.triggerTo high).finish

/-- FALSE_TRIGGER (R102): the input leaves the asserted level while a latch is pending. -/
def execFalseTrigger (s : State) : Host.Outcome State Fault Refusal :=
  if s.armed && s.trig.latch.isSome then .next (s.triggerTo (!s.trig.high)).finish else .next s

/-- TRIGGER_RETURN_UNASSERTED (R101): the input changes to a level. -/
def execTriggerReturnUnasserted (high : Bool) (s : State) : Host.Outcome State Fault Refusal :=
  if s.trig.high == high then .next s else .next (s.triggerTo high).finish

/-- CONTACT_ACCEPTED (R102): the width timer of the pending latch ends with the input asserted. -/
def execContactAccepted (s : State) : Host.Outcome State Fault Refusal :=
  match s.trig.latch with
  | some l => if s.armed then .next (s.acceptContact l.position).finish else .next s
  | none => .next s

/-! ## Head sensing (R98) -/

/-- A change of the seated state inside a change window: the change controller judges it (R126, R127). -/
def State.headInWindow (seated : Bool) (s : State) : State :=
  match s.chg.change with
  | some r =>
    match r.step, r.wait, seated with
    | .unlock, .release _, false => s.headEmptied r
    | .lock, .seat _, true => s.headSeated r
    | _, _, _ => s
  | none => s

/-- A change of the seated state outside a change window (R98). -/
def State.headOutside (seated : Bool) (s : State) : State :=
  if seated then s.requestRead (fun r => { r with forHead := true })
  else
    let moving := s.executing && s.arm.energized && !s.arm.shadow
    let s := { s with mounted := .none }
    if moving then s.faultFast (report .noProbe 3 0) s.positions else s

/-- A read in flight sees the seated state (R99). -/
def IdRead.see (seated : Bool) (r : IdRead) : IdRead := { r with emptied := r.emptied || !seated }

/-- HEAD_FILTER_END (R98): the seated state changes; a read in flight that sees EMPTY gives UNREADABLE (R99). -/
def execHeadFilterEnd (seated : Bool) (s : State) : Host.Outcome State Fault Refusal :=
  if !s.line.active || s.head.seated == seated then .next s
  else
    let s := { s with head := { s.head with
        seated := seated
        idRead := s.head.idRead.map (IdRead.see seated) } }
    let s := s.keepLatchWhileArmed
    .next (if s.inWindow then s.headInWindow seated else s.headOutside seated).finish

/-! ## Identity reads (R99) -/

/-- The result of a read from what the lines gave: 0, FFFFh, silence or an emptied head give UNREADABLE (R99). -/
def readResult (emptied : Bool) (lines : Option (BitVec 16)) : ReadResult :=
  match lines with
  | some v => if emptied || !validProbeId v then .unreadable else .id v
  | none => .unreadable

/-- The head sensing takes the result (R98), when the head is seated. -/
def State.readForHead (result : ReadResult) (s : State) : State :=
  if s.head.seated then { s with mounted := .unresolved result } else s

/-- The judgement of a window's end takes the result, and the CHANGE_END of each change judged is set (R129). -/
def State.readForJudge (result : ReadResult) (s : State) : State :=
  let s := s.readForHead result
  s.chg.judging.foldl (fun s outcome => s.changeEnded outcome) { s with chg := { s.chg with judging := [] } }

/-- The change controller takes the result: CH_IDENT (R127), or the wait before the slots are chosen (R123). In a HELD run that choice, and
all that R123 decides with it, waits for GO_ON (the model's choice, log 14). -/
def State.readForChange (result : ReadResult) (forChange : Bool) (s : State) : State :=
  match s.chg.change with
  | some r =>
    match r.step, r.wait with
    | .ident, .read => if forChange then s.identified r result else s
    | .begin, .read => s.standStill.setTodo .changeBegin
    | _, _ => s
  | none => s

/-- ID_READ_END (R99): the last result is kept, and each requester takes it. -/
def execIdReadEnd (lines : Option (BitVec 16)) (s : State) : Host.Outcome State Fault Refusal :=
  match s.head.idRead with
  | some r =>
    let result := readResult r.emptied lines
    let s := { s with head := { s.head with idRead := none, lastRead := some result } }
    let s := if r.forHead then s.readForHead result else s
    let s := if r.forJudge then s.readForJudge result else s
    .next (s.readForChange result r.forChange).keepLatchWhileArmed.finish
  | none => .next s

/-! ## Lock pulses (R100, R126, R127, R129) -/

/-- LOCK_PULSE_END (R100): a waiting request is driven; the change, or the end of a window, goes on. -/
def execLockPulseEnd (s : State) : Host.Outcome State Fault Refusal :=
  match s.head.pulse with
  | some p =>
    let s := s.nextPulse
    let own := s.chg.change.any (fun r => r.serial == p.change)
    .next ((if own then s.pulseEnded else s).closeWindows).finish
  | none => .next s

/-- RELEASE_TIME_EXPIRY (R126). -/
def execReleaseTimeExpiry (s : State) : Host.Outcome State Fault Refusal :=
  match s.config, s.chg.change with
  | some c, some r =>
    match r.step, r.wait with
    | .unlock, .release since => .next ((s.reach since c.releaseTime.toNat).unlockStuck r).finish
    | _, _ => .next s
  | _, _ => .next s

/-- SEAT_TIME_EXPIRY (R127). -/
def execSeatTimeExpiry (s : State) : Host.Outcome State Fault Refusal :=
  match s.config, s.chg.change with
  | some c, some r =>
    match r.step, r.wait with
    | .lock, .seat since => .next ((s.reach since c.seatTime.toNat).lockEmpty r).finish
    | _, _ => .next s
  | _, _ => .next s

/-! ## Rack presence inputs (R117) -/

/-- SLOT_FILTER_END (R117): a filtered presence changes on the rack host, which reports it while ATTACHED. -/
def execSlotFilterEnd (slot : Fin 8) (present : Bool) (s : State) : Host.Outcome State Fault Refusal :=
  if !(s.line.active && s.setup.straps.rackHost) || s.rack.getLsbD slot.val == present then .next s
  else
    let s := { s with rack := s.rack ^^^ stationBit slot }
    if s.join.st == .attached then .next s.queueSlotSense.finish else .next s

end Sys2Proof.Machine
end

