-- ==== Sys2Proof/Machine/MotionRows.lean ====
section
/-! DEFINITION. The commands in which a motion comes to an end: travel, dwell, stops, back-off, excursion moves (chapters 2,
6, 8, 9). -/

namespace Sys2Proof.Machine

open Sys2Proof

/-- The motion in progress, when the arm is MOVING and no stop is in progress. -/
def State.running (s : State) : Option Motion :=
  if s.arm.st == .moving && s.arm.stopping.isNone then s.arm.motion else none

/-- A probing travel is at its target: a simulated contact in shadow mode (R38), a wait for a pending latch (R103), or a
miss (R104). -/
def State.probeAtTarget (m : Motion) (s : State) : State :=
  if s.arm.shadow then (s.recordContact (m.target.getD s.positions)).beginBackOff false
  else if s.trig.latch.isSome then { s with arm := { s.arm with motion := some { m with atTarget := true } } }
  else s.miss

/-- TRAVEL_COMPLETE (R30, R104): the travel of a segment, or a touch, is at standstill at its target. -/
def execTravelComplete (s : State) : Host.Outcome State Fault Refusal :=
  match s.running with
  | some m =>
    if m.atTarget then .next s
    else
      match m.act with
      | .travel =>
        let s := s.reachTarget
        match s.run.current with
        | some { body := .move t, .. } => .next (s.completeSegment .done t.endSet false).finish
        | some { body := .probe _ _, .. } => .next (s.probeAtTarget m).finish
        | _ => .next s
      | .touch => .next (s.reachTarget.probeAtTarget m).finish
      | _ => .next s
  | none => .next s

/-- DWELL_END (R31): the DWELL completes, with the present standing set as its end set. The row ends the dwell whatever of it the station
clock has left, and moves that clock by nothing, unlike the expiry rows of log 2 (the model's choice, log 81). -/
def execDwellEnd (s : State) : Host.Outcome State Fault Refusal :=
  match s.running with
  | some m => if m.act == .dwell then .next (s.completeSegment .done s.arm.standing false).finish else .next s
  | none => .next s

/-- What a held motion is started as again (R34, R140). -/
def Motion.again (m : Motion) : Start :=
  match m.act with
  | .travel => .segment
  | .dwell => .dwellOn (m.dwellLeft.getD 0)
  | .backOff => .backOff (m.target.getD m.startedAt)
  | .seek _ => .home
  | .moveOut => .moveOut
  | .returnMove => .returnMove
  | .leg => .leg
  | .touch => .touchBack
  | .touchBack => .touchBack
  | .changeMove c => .changeMove c
  | .inPlace => .beginReturn

/-- The run becomes HELD at a standstill, when a run is in progress and a hold waits (R33). -/
def State.heldAtStandstill (held : Bool) (s : State) : State :=
  if held && s.run.st != .none then { s with run := { s.run with st := .held } } else s

/-- A back-off that GO_ON is to make (R33, R34): the target is formed at the standstill. -/
def State.keepBackOff (m : Motion) (s : State) : State :=
  match s.config with
  | some c =>
    let target := backOffTarget s.freeCount c.retract m.startedAt (m.target.getD m.startedAt) s.positions
    let s := { s with freeCount := s.freeCount + 1 }
    s.standStill.setTodo (.backOff target)
  | none => s.standStill

/-- A stop has come to its standstill (R22, R32, R33, R103). -/
def State.stopEnded (p : Stopping) (m : Motion) (s : State) : State :=
  match p.after with
  | .resume => (s.standStill.setTodo m.again).heldAtStandstill p.held
  | .endRun reason b => s.standStill.endRun reason b
  | .still => s.standStill.heldAtStandstill p.held
  | .backOff =>
    if p.held then (s.keepBackOff m).heldAtStandstill true else s.beginBackOff p.afterBackOff

/-- CONTROLLED_STOP_END (R32): a controlled or fast stop has come to standstill, so far further along the motion's path (the
distance is the row's operand, log 8). -/
def execControlledStopEnd (further : BitVec 32) (s : State) : Host.Outcome State Fault Refusal :=
  match s.arm.stopping, s.arm.motion with
  | some p, some m => .next ((s.moveAlong m further.toNat).stopEnded p m).finish
  | _, _ => .next s

/-- A qualification is stored in its record (R145). -/
def ProbeRecord.qualifyWith (d : QualData) (r : ProbeRecord) : ProbeRecord := { r with qual := .qualified, data := some d }

/-- The results of a qualification are judged, and a passing one is stored (R144, R145). -/
def State.judgeTouches (c : Image) (q : Qualification) (p : ProbeRecord) (s : State) : State :=
  match q.results with
  | [ax, bx, ay, by_, cz] =>
    match qualify c p.defined.radius ax bx ay by_ cz with
    | .failed detail difference => s.faultStill { report .qualFail detail 0 with value := toLu difference }
    | .passed offset radius =>
      match s.armNow with
      | none => s.faultStill (report .qualNoTemp 0 0)
      | some temp =>
        let s := s.updateProbe q.id (ProbeRecord.qualifyWith { offset := offset, radius := radius, temp := temp })
        (s.emit (.qualEnd .done radius)).setTodo .beginReturn
  | _ => s

/-- The qualification's touches are done (R144, R145): in shadow mode nothing is computed or stored. -/
def State.touchesDone (c : Image) (q : Qualification) (s : State) : State :=
  if s.arm.shadow then (s.emit (.qualEnd .simulated 0)).setTodo .beginReturn
  else
    match s.probe q.id with
    | some p => s.judgeTouches c q p
    | none => s

/-- The touch in progress completes with its result (R143); in shadow mode no result is kept. -/
def State.touchDone (s : State) : State :=
  match s.config, s.qual with
  | some c, some q =>
    let results := if s.arm.shadow then [] else q.results ++ q.latched.toList
    let q := { q with results := results, latched := none }
    let s := ({ s with qual := some q }).moveDone.standStill
    if q.touch < 5 then s.goToTouch q (q.touch + 1) else s.touchesDone c q
  | _, _ => s

/-- BACK_OFF_END (R103): the PROBE segment completes with CONTACT, or the touch completes. -/
def execBackOffEnd (s : State) : Host.Outcome State Fault Refusal :=
  match s.running with
  | some m =>
    if m.act == .backOff then
      let s := s.reachTarget
      if s.run.stack.isEmpty then
        .next (s.completeSegment .contact (s.currentTravel.elim 0 (·.endSet)) m.thenHeld).finish
      else .next (s.touchDone.heldAtStandstill m.thenHeld).finish
    else .next s
  | none => .next s

/-- The move out has arrived (R137): the standing set is the corridor set, and the excursion's work begins (R141, R142). -/
def State.arrive (r : ReturnRecord) (s : State) : State :=
  let s := (s.arriveIn s.topCorridor).standStill
  match r.kind with
  | .soak =>
    if s.thermal.settled then s.setTodo .beginReturn else ({ s with soak := some s.clock }).standInPlace
  | _ => s.beginTouches

/-- EXCURSION_ARRIVAL (R137). -/
def execExcursionArrival (s : State) : Host.Outcome State Fault Refusal :=
  match s.running, s.top with
  | some m, some r => if m.act == .moveOut then .next (s.reachTarget.arrive r).finish else .next s
  | _, _ => .next s

/-- RETURN_MOVE_END (R138). -/
def execReturnMoveEnd (s : State) : Host.Outcome State Fault Refusal :=
  match s.running with
  | some m => if m.act == .returnMove then .next s.reachTarget.pop.finish else .next s
  | none => .next s

/-- A move of a change has completed. One that is the excursion's arrival makes the standing set the rack corridor set (R125). -/
def State.changeArrival (m : ChangeMove) (s : State) : State :=
  match s.config with
  | some c => if m.fast then s.arriveIn c.rackCorridor else s.moveDone
  | none => s.moveDone

/-- CHANGE_MOVE_ARRIVAL (R125 to R128). -/
def execChangeMoveArrival (s : State) : Host.Outcome State Fault Refusal :=
  match s.running, s.chg.change with
  | some m, some r =>
    match m.act with
    | .changeMove c => .next ((s.reachTarget.changeArrival c).changeArrived c r).finish
    | _ => .next s
  | _, _ => .next s

/-- A leg of a transfer has ended (R142), or the move back along a touch line (R140): the next leg, the touch, or the return
move. -/
def State.legEnded (m : Motion) (q : Qualification) (s : State) : State :=
  let legs := if m.act == .leg then q.legs.drop 1 else q.legs
  let s := ({ s with qual := some { q with legs := legs } }).moveDone.standStill
  if m.act == .leg && !legs.isEmpty then s.setTodo .leg
  else if q.returning then s.setTodo .returnMove
  else s.setTodo .touch

/-- TRANSFER_LEG_END (R142; log 25 for the move back along a touch line). -/
def execTransferLegEnd (s : State) : Host.Outcome State Fault Refusal :=
  match s.running, s.qual with
  | some m, some q =>
    if m.act == .leg || m.act == .touchBack then .next (s.reachTarget.legEnded m q).finish else .next s
  | _, _ => .next s

end Sys2Proof.Machine
end

