-- ==== Sys2Proof/Machine/Wire.lean ====
section
/-! DEFINITION. The frame on the line (chapter 3): the kinds, the header check, the CRC, bit stuffing, and the bits and
payload of the station's own frames. The commands of the model stand for whole frames (log 31); these functions say what
the frames are made of. -/

namespace Sys2Proof.Machine

open Sys2Proof

/-! ## Frame kinds (Table 3-3) -/

/-- What Table 3-3 gives for a kind code: class, shortest and longest payload, and whether it is a share frame. -/
structure KindRow where
  cls : Nat
  shortest : Nat
  longest : Nat
  share : Bool
  deriving DecidableEq, Repr

/-- Table 3-3. -/
def kindRow (kind : Nat) : Option KindRow :=
  match kind with
  | 0x01 => some ⟨0, 1, 1, true⟩
  | 0x02 => some ⟨0, 1, 1, false⟩
  | 0x08 => some ⟨1, 4, 4, true⟩
  | 0x09 => some ⟨1, 0, 0, true⟩
  | 0x0A => some ⟨1, 0, 0, true⟩
  | 0x0B => some ⟨1, 3, 3, true⟩
  | 0x0C => some ⟨1, 0, 0, true⟩
  | 0x0D => some ⟨1, 3, 3, true⟩
  | 0x0E => some ⟨1, 1, 1, true⟩
  | 0x0F => some ⟨1, 3, 3, true⟩
  | 0x10 => some ⟨1, 1, 1, true⟩
  | 0x11 => some ⟨1, 3, 48, false⟩
  | 0x30 => some ⟨2, 2, 48, false⟩
  | 0x31 => some ⟨2, 1, 48, false⟩
  | 0x38 => some ⟨3, 16, 16, false⟩
  | 0x39 => some ⟨3, 2, 38, false⟩
  | 0x3A => some ⟨3, 23, 46, false⟩
  | k => if 0x20 ≤ k ∧ k ≤ 0x2F then some ⟨2, 0, 48, false⟩ else none

/-- The kind code of JOIN. -/
def joinKind : Nat := 0x08

/-- The kind code of PRESENCE. -/
def presenceKind : Nat := 0x38

/-- A payload length that Table 3-3 allows for the kind; POINTS has two lengths. -/
def lengthAllowed (kind length : Nat) : Bool :=
  match kindRow kind with
  | some row => within row.shortest row.longest length && (kind != 0x3A || length == 23 || length == 46)
  | none => false

/-- The header check of R44. -/
def headerMalformed (h : FrameHeader) : Bool :=
  within 8 14 h.dest.toNat || decide (48 < h.length.toNat) ||
    (match kindRow h.kind.toNat with
      | some row => row.cls != h.cls.toNat
      | none => true) ||
    !lengthAllowed h.kind.toNat h.length.toNat

/-- A command kind (Table 3-3). -/
def isCommandKind (kind : Nat) : Bool := within 0x20 0x2F kind

/-- A share frame (Table 3-3). -/
def isShareKind (kind : Nat) : Bool :=
  match kindRow kind with
  | some row => row.share
  | none => false

/-- The 5-bit arbitration field, Class first; the lower value wins (R43). -/
def arbitrationField (cls : BitVec 2) (source : Station) : Nat := 8 * cls.toNat + source.val

/-! ## Bits, CRC and stuffing -/

/-- The low `n` bits of a number, most significant first. -/
def bitsOf : Nat → Nat → List Bool
  | 0, _ => []
  | n + 1, v => bitsOf n (v / 2) ++ [decide (v % 2 = 1)]

/-- One step of the CRC register, x^16+x^12+x^5+1 (Table 3-1). -/
def crcStep (r : BitVec 16) (b : Bool) : BitVec 16 :=
  if r.getLsbD 15 != b then (r <<< 1) ^^^ 0x1021#16 else r <<< 1

/-- The CRC of a frame's bits from Kind to Payload, starting at FFFFh (R42). -/
def crc16 (bits : List Bool) : BitVec 16 := bits.foldl crcStep 0xFFFF#16

/-- Bits with a bit of the opposite level inserted after every five of equal level; an inserted bit counts in the run
that follows it (R42). `run` counts the equal bits just sent, whose level is `last`. -/
def stuffFrom (last : Bool) (run : Nat) : List Bool → List Bool
  | [] => []
  | b :: rest =>
    let run' := if b == last then run + 1 else 1
    if run' == 5 then b :: (!b) :: stuffFrom (!b) 1 rest else b :: stuffFrom b run' rest

/-- Stuffing of a frame's bits from Start to the last CRC bit (R42). -/
def stuff (bits : List Bool) : List Bool := stuffFrom false 0 bits

/-- Bits with the inserted bits removed; none on six consecutive bits of equal level, a stuff violation (R44). -/
def unstuffFrom (last : Bool) (run : Nat) : List Bool → Option (List Bool)
  | [] => some []
  | b :: rest =>
    let run' := if b == last then run + 1 else 1
    if run == 5 && b == last then none
    else if run == 5 then unstuffFrom b 1 rest
    else (unstuffFrom b run' rest).map (b :: ·)

/-- What a receiver reads from a frame's bits (R44). -/
def unstuff (bits : List Bool) : Option (List Bool) := unstuffFrom false 0 bits

/-- The bits that the CRC covers, Kind to Payload (Table 3-1). -/
def coveredBits (h : FrameHeader) (payload : List Byte) : List Bool :=
  bitsOf 6 h.kind.toNat ++ bitsOf 4 h.dest.toNat ++ bitsOf 6 h.length.toNat ++ bitsOf 16 h.seq.toNat
    ++ payload.flatMap (fun b => bitsOf 8 b.toNat)

/-- A frame's bits from Start to the last CRC bit, before stuffing (Table 3-1). -/
def frameBits (h : FrameHeader) (payload : List Byte) : List Bool :=
  [false] ++ bitsOf 2 h.cls.toNat ++ bitsOf 3 h.source.val ++ coveredBits h payload
    ++ bitsOf 16 (crc16 (coveredBits h payload)).toNat

/-- The number that bits spell, most significant first. -/
def numberOf (bits : List Bool) : Nat := bits.foldl (fun n b => 2 * n + (if b then 1 else 0)) 0

/-- The number in `n` bits from bit `at_` of a frame, Start being bit 0. -/
def bitField (bits : List Bool) (at_ n : Nat) : Nat := numberOf ((bits.drop at_).take n)

/-- The header that a frame's bits spell (Table 3-1). -/
def headerOf (bits : List Bool) : FrameHeader :=
  { cls := BitVec.ofNat 2 (bitField bits 1 2), source := ⟨bitField bits 3 3 % 8, Nat.mod_lt _ (by decide)⟩,
    kind := BitVec.ofNat 6 (bitField bits 6 6), dest := BitVec.ofNat 4 (bitField bits 12 4),
    length := BitVec.ofNat 6 (bitField bits 16 6), seq := BitVec.ofNat 16 (bitField bits 22 16) }

/-- The payload of `n` bytes that a frame's bits spell. -/
def payloadOf (bits : List Bool) (n : Nat) : List Byte :=
  (List.range n).map (fun i => BitVec.ofNat 8 (bitField bits (38 + 8 * i) 8))

/-- What a receiver makes of a frame (R44). -/
inductive Reception where
  | abandoned
  | mismatch
  | correct (header : FrameHeader) (payload : List Byte)
  deriving DecidableEq, Repr

/-- A receiver's judgement of a frame from its bits between Start and the end of the CRC, in the order of R44: stuffing, header,
CRC. The CRC it computes covers the bits from Kind to the payload's end. -/
def receive (line : List Bool) : Reception :=
  match unstuff line with
  | none => .abandoned
  | some bits =>
    let h := headerOf bits
    if headerMalformed h then .abandoned
    else
      let covered := 32 + 8 * h.length.toNat
      if crc16 ((bits.drop 6).take covered) == BitVec.ofNat 16 (bitField bits (6 + covered) 16) then
        .correct h (payloadOf bits h.length.toNat)
      else .mismatch

/-! ## What a sender drives and reads back (R43, R45, R47) -/

/-- The error flag: six dominant bits (R44, R45). -/
def errorFlag : List Bool := List.replicate 6 false

/-- The parts of a frame in which its sender judges a bit that it reads back differently: the arbitration field, with the Start bit
before it; the rest of the bits up to the last of the CRC; the two slots; End. -/
inductive FramePart where
  | arbitration
  | body
  | ackSlot
  | vetoSlot
  | ending
  deriving DecidableEq, Repr

/-- A bit that a sender has to drive. -/
structure DrivenBit where
  part : FramePart
  level : Bool
  deriving DecidableEq, Repr

/-- How many bits of a frame's line belong to its arbitration field, inserted bits included. -/
def fieldLength (h : FrameHeader) (payload : List Byte) : Nat := (stuff ((frameBits h payload).take 6)).length

/-- The bits of a whole frame as its sender has to drive them (Table 3-1): the stuffed bits, then recessive in both slots and through
End. -/
def drivenBits (h : FrameHeader) (payload : List Byte) : List DrivenBit :=
  let line := stuff (frameBits h payload)
  (line.take (fieldLength h payload)).map (DrivenBit.mk .arbitration) ++
    (line.drop (fieldLength h payload)).map (DrivenBit.mk .body) ++
    [⟨.ackSlot, true⟩, ⟨.vetoSlot, true⟩] ++ List.replicate 7 ⟨.ending, true⟩

/-- Why a sender stops a frame. -/
inductive SenderStop where
  | lost
  | bitError
  deriving DecidableEq, Repr

/-- What a sender makes of one bit that it reads back. Dominant read where it drove recessive has lost the frame in the arbitration field
(R43) and is a bit error in the body; a sixth bit of equal level, a stuff violation, is a bit error (R45). In the slots and in End
nothing is. A bit of the arbitration field that is both is a loss (the model's choice, log 79). -/
def DrivenBit.stop (b : DrivenBit) (read sixth : Bool) : Option SenderStop :=
  match b.part with
  | .arbitration => if b.level && !read then some .lost else if sixth then some .bitError else none
  | .body => if (b.level && !read) || sixth then some .bitError else none
  | _ => none

/-- The place of the first bit at which a sender stops, and why; none when it has driven every bit. `run` counts the equal bits just
read, whose level is `last`. -/
def stopFrom (last : Bool) (run : Nat) : List DrivenBit → List Bool → Option (Nat × SenderStop)
  | b :: bits, read :: reads =>
    let run' := if read == last then run + 1 else 1
    match b.stop read (decide (6 ≤ run')) with
    | some why => some (0, why)
    | none => (stopFrom read run' bits reads).map (fun at_ => (at_.1 + 1, at_.2))
  | _, _ => none

/-- The place of the bit at which the sender of a frame stops for what it reads, and why. -/
def senderStop (h : FrameHeader) (payload : List Byte) (reads : List Bool) : Option (Nat × SenderStop) :=
  stopFrom false 0 (drivenBits h payload) reads

/-- The levels that the sender of a frame drives for what it reads back: every bit of the frame; up to the bit at which it has lost,
and nothing after; up to the bit error, and the error flag after it, from the next bit on (R43, R45). -/
def senderDrives (h : FrameHeader) (payload : List Byte) (reads : List Bool) : List Bool :=
  let levels := (drivenBits h payload).map (·.level)
  match senderStop h payload reads with
  | none => levels
  | some (place, .lost) => levels.take (place + 1)
  | some (place, .bitError) => levels.take (place + 1) ++ errorFlag

/-- What a sender has found at its frame's end: arbitration lost, a bit error, or what stood in the two slots, true for dominant. -/
inductive SenderFinding where
  | lost
  | bitError
  | slots (ack veto : Bool)
  deriving DecidableEq, Repr

/-- A part of the frame has been read dominant. -/
def readDominant (part : FramePart) (bits : List DrivenBit) (reads : List Bool) : Bool :=
  (bits.zip reads).any (fun e => e.1.part == part && !e.2)

/-- What the sender of a frame finds from the levels that it reads (R43, R45, R47). -/
def senderFinds (h : FrameHeader) (payload : List Byte) (reads : List Bool) : SenderFinding :=
  match senderStop h payload reads with
  | some (_, .lost) => .lost
  | some (_, .bitError) => .bitError
  | none => .slots (readDominant .ackSlot (drivenBits h payload) reads) (readDominant .vetoSlot (drivenBits h payload) reads)

/-! ## Payloads of snapshot parts and of the station's own frames -/

/-- Roster state codes (Table 5-3). -/
def rosterStateCode : RosterState → Nat
  | .absent => 0
  | .joining => 1
  | .attached => 2
  | .lost => 3

/-- A roster entry's five bytes (Table 5-3). -/
def rosterBytes (r : RosterEntry) : List Byte :=
  bytesOf 1 (rosterStateCode r.state + 4 * roleCode r.role + 8 * bit r.serves) ++ bytesOf 2 r.conflict.toNat
    ++ bytesOf 2 r.published.toNat

/-- Holder code: 0 to 7 a station, 8 FENCED, 15 none (Table 5-3). -/
def holderCode : Holder → Nat
  | .free => 15
  | .station n => n.val
  | .fenced _ => 8

/-- The fenced-from byte, FFh when absent (Table 5-3). -/
def fencedFromCode : Holder → Nat
  | .fenced n => n.val
  | _ => 0xFF

/-- Sensed presence codes (Table 5-3). -/
def sensedCode : Sensed → Nat
  | .notReported => 0
  | .present => 1
  | .absent => 2

/-- An item record's four bytes (Table 5-3). -/
def itemBytes (h : Holder) (sensed : Nat) (contents : Nat) : List Byte :=
  bytesOf 1 (holderCode h + 16 * sensed) ++ bytesOf 1 (fencedFromCode h) ++ bytesOf 2 contents

/-- A slot's item record. -/
def slotBytes (h : Holder) (r : SlotRec) : List Byte := itemBytes h (sensedCode r.sensed) r.contents.code.toNat

/-- The capture cause code (Table 5-3). -/
def captureCauseCode : CaptureCause → Nat
  | .join => 0
  | .takeover => 1

/-- A SNAPSHOT payload (Table 5-3). The sensed presence in a zone's record, which has none, is sent as 0 (the model's choice, log 62). -/
def snapshotPayload (p : SnapshotPart) : List Byte :=
  bytesOf 2 p.seq.toNat ++
    (match p.body with
      | .roster cause entries => [1#8] ++ bytesOf 1 (captureCauseCode cause) ++ entries.flatMap rosterBytes
      | .zonesLow hs => [2#8] ++ hs.flatMap (fun h => itemBytes h 0 0)
      | .zonesHigh hs => [3#8] ++ hs.flatMap (fun h => itemBytes h 0 0)
      | .slots hs rs => [4#8] ++ (hs.zip rs).flatMap (fun e => slotBytes e.1 e.2)
      | .claims es => [5#8] ++ bytesOf 1 es.length ++
          es.flatMap (fun e => bytesOf 1 e.1.val ++ bytesOf 3 e.2.toNat))

/-- The kind code of a share frame (Table 3-3). -/
def ShareFrame.kindCode : ShareFrame → Nat
  | .lost _ => 0x01
  | .join _ => 0x08
  | .attach => 0x09
  | .leave => 0x0A
  | .claim _ => 0x0B
  | .withdraw => 0x0C
  | .release _ => 0x0D
  | .clear _ => 0x0E
  | .slotSet _ _ => 0x0F
  | .slotSense _ => 0x10

/-- The kind code of what a frame carries (Table 3-3). -/
def TxContent.kindCode : TxContent → Nat
  | .lost _ => 0x01
  | .share _ f => f.kindCode
  | .snapshot _ => 0x11
  | .reply _ => 0x30
  | .event _ => 0x31
  | .points _ => 0x3A
  | .thermal _ => 0x39
  | .presence _ => 0x38

/-- The payload of what a frame carries. -/
def TxContent.payload : TxContent → List Byte
  | .lost stations => [stations]
  | .share _ f => f.payload
  | .snapshot p => snapshotPayload p.part
  | .reply r => r.payload
  | .event carried => carried.flatMap Event.entry
  | .points carried => carried.flatMap Point.entry
  | .thermal c => c.payload
  | .presence p => presencePayload p

/-- The header of the station's own frame (R42). -/
def Tx.header (source : Station) (tx : Tx) : FrameHeader :=
  { cls := BitVec.ofNat 2 ((kindRow tx.content.kindCode).elim 0 (·.cls)), source := source,
    kind := BitVec.ofNat 6 tx.content.kindCode, dest := tx.dest, length := BitVec.ofNat 6 tx.content.payload.length,
    seq := tx.seq }

end Sys2Proof.Machine
end

