-- ==== Sys2Proof/Machine/Views.lean ====
section
/-! DEFINITION. The ASK views (R169, Table 12-5, R115). Fields stand in the table's order, each in its quantity's width;
fields whose codes the spec does not give are `code` fields (log 16). -/

namespace Sys2Proof.Machine

open Sys2Proof

/-! ## Fields -/

/-- A one-byte field. -/
def u8 (n : Nat) : ViewField := .u8 (BitVec.ofNat 8 n)

/-- Three coordinates, with a real value equal to the absent code sent one above it (R169). -/
def viewPoint (v : Vec3 Lu) : List ViewField :=
  [v.x, v.y, v.z].map (fun a => ViewField.u32 (if a == 0x80000000 then 0x80000001 else a))

/-- A position field. -/
def viewLu (v : Lu) : ViewField := .u32 (if v == 0x80000000 then 0x80000001 else v)

/-- A temperature or rate field: 8000h when absent, and a real 8000h as 8001h (R169). -/
def viewTemp : Option Temp → ViewField
  | none => .u16 0x8000
  | some t => .u16 (if t == 0x8000 then 0x8001 else t)

/-- An age in ms: 80000000h when absent, and a real one equal to it one above (R169). -/
def viewAge (now : Clock) : Option Clock → ViewField
  | none => .u32 0x80000000
  | some t => viewLu (now - t)

/-- A field that a view sends although the spec gives it no code, or none for its absence (log 16). -/
inductive OpenField where
  | quality
  | drive
  | channelOff
  | stackKind
  | changeStep
  | claimPhase
  | optional
  | seated
  | segmentTag
  | segmentKind
  | motionOrigin
  | homeSlot
  | oldest
  | cadence
  | read
  | holder
  | touch
  deriving DecidableEq, Repr

/-- The field's number, which the free value takes. -/
def OpenField.number : OpenField → Nat
  | .quality => 0
  | .drive => 1
  | .channelOff => 2
  | .stackKind => 3
  | .changeStep => 4
  | .claimPhase => 5
  | .optional => 6
  | .seated => 7
  | .segmentTag => 8
  | .segmentKind => 9
  | .motionOrigin => 10
  | .homeSlot => 11
  | .oldest => 12
  | .cadence => 13
  | .read => 14
  | .holder => 15
  | .touch => 16

/-- A value of such a field. -/
def openCode (f : OpenField) (value : Nat) : ViewField := .code f.number value

/-- An absent value of such a field, in its width. -/
def noValue (f : OpenField) (width : Nat) : ViewField := .absent f.number width

/-- The place of a quality in GOOD, DEGRADED, NONE. -/
def Quality.place : Quality → Nat
  | .good => 0
  | .degraded => 1
  | .none => 2

/-- The place of a change step in Table 8-3, after IDLE. -/
def ChangeStep.place : ChangeStep → Nat
  | .begin => 1
  | .claim => 2
  | .toDrop => 3
  | .unlock => 4
  | .leaveDrop => 5
  | .toPick => 6
  | .lock => 7
  | .ident => 8
  | .leavePick => 9
  | .done => 10

/-- The place of an excursion kind in Table 9-1. -/
def ExcursionKind.place : ExcursionKind → Nat
  | .change => 0
  | .qualify => 1
  | .soak => 2

/-- The place of a claim phase in Table 4-5, after none. -/
def ClaimPhase.place : ClaimPhase → Nat
  | .queued => 1
  | .pending => 2
  | .expiring => 3

/-- A segment's kind byte (Table 12-4). -/
def SegmentBody.kindByte : SegmentBody → Nat
  | .move _ => 0
  | .probe _ _ => 1
  | .dwell _ => 2
  | .change _ => 3
  | .qualify => 4

/-- The mounted-probe record's state and ID. -/
def Mounted.view (m : Mounted) : List ViewField := [u8 m.stateCode, .u16 m.shown]

/-- A role's value, quality and source rate. -/
def RoleValue.view (r : RoleValue) : List ViewField := [viewTemp r.value, openCode .quality r.quality.place, viewTemp r.rate]

/-- A channel state; the code of OFF is not given (Table 10-3). -/
def ChannelState.view (c : ChannelState) : ViewField := if c == .off then openCode .channelOff c.code else u8 c.code

/-! ## Views -/

/-- STATUS. -/
def State.viewStatus (s : State) : List ViewField :=
  [u8 (joinCode s.joinShown), u8 (bit s.configFaultShown), u8 (armCode s.arm.st), u8 (runCode s.run.st),
   u8 (ownerCode s.run.owner), u8 (bit s.arm.shadow)] ++ s.mounted.view ++
  [u8 (lastFaultCode s.lastFault), .u16 s.shownSeq, .u16 s.events.mask, .u8 s.cap.level, .u16 s.cap.timeout,
   u8 (bit s.thermal.settled)] ++ s.thermal.roles.flatMap RoleValue.view

/-- POSITION. -/
def State.viewPosition (s : State) : List ViewField :=
  viewPoint s.positions ++ viewPoint s.setpoints ++ viewPoint (vmap (fun _ a => a.scale) s.axes) ++
  [.u8 s.referencedMask, .u8 s.limitMask, .u8 s.scaleFaultMask, openCode .drive (bit s.arm.energized)]

/-- CHANNEL n. -/
def State.viewChannel (n : Nat) (s : State) : List ViewField :=
  let conf : ChannelConf := (s.config.bind (fun c => c.channels[n]?)).getD ⟨false, false, 0, 0, 0⟩
  let ch := s.thermal.channels.getD n Channel.off
  [u8 (bit conf.enabled), u8 (bit conf.shared), .u8 conf.shift, viewTemp (some conf.openAt),
   viewTemp (some conf.shortAt), viewTemp ch.raw, viewTemp ch.filtered, ch.st.view, viewTemp ch.rate, u8 ch.history.length,
   if ch.st == .subst then viewAge s.clock ch.since else .u32 0]

/-- PEER, for an entry. -/
def State.viewPeer (e : PeerEntry) (s : State) : List ViewField :=
  [.u8 e.station, .u8 e.channel, viewTemp e.value, e.st.view,
   match e.cadence with
    | some c => .u16 c
    | none => noValue .cadence 2,
   viewTemp e.rate, viewAge s.clock e.updated, viewAge s.clock e.since]

/-- PROBE, for a record: every field of Table 6-1, with one byte naming the optional fields present, which stands before them (the
model's choice, log 62). -/
def ProbeRecord.view (r : ProbeRecord) : List ViewField :=
  let d := r.defined
  [.u16 d.id, .u32 d.radius] ++ viewPoint d.offset ++ [u8 d.polarity.code, .u16 d.width, u8 r.qual.code,
    openCode .optional (bit r.data.isSome + 2 * bit r.homeSlot.isSome)] ++
  (match r.data with
    | some q => viewPoint q.offset ++ [viewLu q.radius, viewTemp (some q.temp)]
    | none => [.u32 0x80000000, .u32 0x80000000, .u32 0x80000000, .u32 0x80000000, .u16 0x8000]) ++
  [match r.homeSlot with
    | some n => u8 n.val
    | none => noValue .homeSlot 1]

/-- POINT n, part 1 (R115). -/
def Point.viewOne (p : Point) : List ViewField :=
  [.u16 p.number, .u16 p.tag, .u32 p.time] ++ viewPoint p.raw ++ viewPoint p.tip ++ viewPoint p.corrected ++ [.u8 p.flags.byte]

/-- POINT n, part 2 (R115). -/
def Point.viewTwo (p : Point) : List ViewField :=
  [.u16 p.number, .u16 p.probe, viewLu p.radius, u8 p.report.val] ++
  p.temps.flatMap (fun t => [viewTemp t.1, openCode .quality t.2.place]) ++ [.u8 p.flags.byte]

/-- QUEUE. The false-trigger count without a motion, which R102 shows while one is current, is sent as the 0 that R107 gives it; without
a motion its origin, and without a qualification the touch, is absent (the model's choices, log 16). A start that waits in CLAIMING or
RING_WAIT has formed no motion yet (R27), although section 2.4 has a motion wait: its origin is absent (the model's choice, log 80). While no touch travels, the touch is the one that the arm is brought to, under a SOAK the
one whose gate pushed it, and in the return touch 5 (the model's choice, log 71). While no current claim exists, the missing set is sent
as the empty set 000000h (the model's choice, log 16). -/
def State.viewQueue (s : State) : List ViewField :=
  [u8 s.run.queue.length, u8 (ownerCode s.run.owner)] ++
  (match s.run.current with
    | some seg => [.u16 seg.tag, u8 seg.body.kindByte]
    | none => [noValue .segmentTag 2, noValue .segmentKind 1]) ++
  [match s.arm.motion with
    | some m => u8 m.origin.code
    | none => noValue .motionOrigin 1,
   u8 s.falseTriggers] ++
  s.run.stack.reverse.map (fun r => openCode .stackKind r.kind.place) ++
  [openCode .changeStep (s.chg.change.elim 0 (·.step.place)),
   match s.qual with
    | some q => u8 q.touch
    | none => noValue .touch 1,
   openCode .claimPhase (s.agent.current.elim 0 (·.phase.place)), .u24 (s.agent.current.elim 0 (·.items)),
   u8 s.cap.ring.length,
   match s.cap.ring with
    | p :: _ => .u16 p.number
    | [] => noValue .oldest 2] ++
  (s.run.queue.take 8).map (fun seg => .u16 seg.tag)

/-- SHARE, for an item; the holder and presence codes are those of Table 5-3. A list position counts from 0 (the model's choice,
log 62). A zone's record has no sensed presence in Table 4-3, and Table 5-3 gives a zone only the contents 0000h: its presence byte is
sent as 0, the code of NOT_REPORTED (the model's choice, log 62). Without a table there is no record to show, and its fields are
absent. -/
def State.viewShare (item : Nat) (s : State) : List ViewField :=
  match s.table with
  | none => [.u16 0, noValue .holder 1, noValue .holder 1, noValue .holder 2, noValue .holder 1]
  | some t =>
    let slot := t.slots.getD (item - 16) { contents := .unknown, sensed := .notReported }
    [.u16 t.seq, u8 (holderCode (t.holder item)), u8 (fencedFromCode (t.holder item)),
     .u16 (if item < 16 then 0 else slot.contents.code), u8 (if item < 16 then 0 else sensedCode slot.sensed)] ++
    (mapFrom (fun n (e : ClaimEntry) => if e.items.getLsbD item then [u8 e.station.val, u8 n] else []) 0 t.claims).flatten

/-- IDENT. Table 12-5 gives the bit rate code no codes, and two strap values select one rate (R41): the strapped RATE1:0 value is sent (the
model's choice, log 62). -/
def State.viewIdent (s : State) : List ViewField :=
  [u8 s.me.val, u8 (roleCode .arm), u8 (bit s.setup.straps.rackHost), u8 s.setup.straps.rate.val, .u16 s.setup.format,
   openCode .seated (bit s.head.seated)] ++ s.mounted.view ++
  [match s.head.lastRead with
    | some (.id i) => .u16 i
    | some .unreadable => .u16 0xFFFF
    | none => noValue .read 2]

end Sys2Proof.Machine
end

