-- ==== Sys2Proof/Machine/CommandPath.lean ====
section
/-! DEFINITION. The command path (R167): the tests every command passes, the REPLY, and the tests of single fields. -/

namespace Sys2Proof.Machine

open Sys2Proof

/-- A REPLY is placed in M3 (R55, R167). -/
def State.reply (dest : Station) (kind : Nat) (result : Result) (data : List ViewField) (s : State) : State :=
  { s with line := { s.line with
      m3 := some { dest := dest, kind := BitVec.ofNat 8 kind, result := result, data := data } } }

/-- What a command's own tests and effect give: the state, and the REPLY's result and data (none for a taken RESTART). -/
abbrev Taken := State × Option (Result × List ViewField)

/-- A command refused, or taken without data. -/
def answer (r : Result) (s : State) : Taken := (s, some (r, []))

/-- The sender is an ATTACHED planner of an ATTACHED station's roster (R167 test 2). -/
def State.fromPlanner (sender : Station) (s : State) : Bool :=
  s.join.st == .attached &&
    match s.table with
    | some t => t.isPlanner sender
    | none => false

/-- The tests in their order (R167, R93; log 18 for a load in progress): the result of the first that fails, or none when
the command's own tests follow. `inFault` marks ASK and RESTART, which CONFIG_FAULT takes from any sender. -/
def State.commandTest (sender : Station) (inFault lengthOk : Bool) (s : State) : Option Result :=
  match s.setup.load with
  | .reading => some .state
  | .fault => if !inFault then some .state else if lengthOk then none else some .bad
  | .loaded =>
    if s.join.leaveWait.isSome then some .state
    else if !s.fromPlanner sender then some .owner
    else if lengthOk then none
    else some .bad

/-- A command accepted from the line (R46, R48, R167): vetoed for BUSY, or discarded in QUIET, while M3 holds a REPLY;
otherwise judged, and answered with its REPLY. -/
def State.command (sender : Station) (kind : Nat) (inFault lengthOk : Bool) (own : State → Taken) (s : State) : State :=
  if !s.receives sender then s
  else
    let s := s.heard sender true
    if s.line.m3.isSome then s
    else
      match s.commandTest sender inFault lengthOk with
      | some r => s.reply sender kind r []
      | none =>
        let taken := own s
        match taken.2 with
        | some (r, data) => taken.1.reply sender kind r data
        | none => taken.1

/-- An owner is set, and with it the event address (R18, R21, R173). -/
def State.setOwner (sender : Station) (s : State) : State :=
  { s with run := { s.run with owner := some sender }, events := { s.events with address := some sender } }

/-- Another planner owns the run or the queue (R18, R21). -/
def State.ownedByOther (sender : Station) (s : State) : Bool :=
  match s.run.owner with
  | some o => o != sender
  | none => false

/-! ## SEG -/

/-- A target coordinate lies from the soft minimum to the soft maximum (R19, R5). -/
def inSoftRange (c : AxisConf) (t : Lu) : Bool :=
  decide (c.softMin.toInt < c.softMax.toInt ∧ c.softMin.toInt ≤ t.toInt ∧ t.toInt ≤ c.softMax.toInt)

/-- The travel fields of a SEG pass check 3 (R19). -/
def travelInRange (c : Image) (t : TravelSpec) : Bool :=
  allAxes.all (fun a => inSoftRange (vget c.axes a) (vget t.target a)) && within 1 5000 t.feed.toNat
    && t.endSet &&& ~~~ t.need == 0

/-- Check 3 of Table 2-2 on a segment record (R19). -/
def segmentInRange (c : Image) (missOk : Bool) (b : SegmentBody) : Bool :=
  match b with
  | .move t => travelInRange c t && !missOk
  | .probe _ t => travelInRange c t
  | .dwell ms => within 1 60000 ms.toNat && !missOk
  | .change _ => !missOk
  | .qualify => !missOk

/-- Check 4 of Table 2-2: a CHANGE names a probe record (R19). -/
def State.probeKnown (b : SegmentBody) (s : State) : Bool :=
  match b with
  | .change id => (s.probe id).isSome
  | _ => true

/-- The arrival checks of a SEG in order (R19, R168); a segment that passes, or the result. -/
def State.checkSeg (p : List Byte) (s : State) : Except Result Segment :=
  if 16 ≤ s.run.queue.length then .error .full
  else if segTravels p && s.unreferenced.isSome then .error .unref
  else
    match segmentOf p, s.config with
    | some seg, some c =>
      if !segmentInRange c (segMissOk p) seg.body then .error .bad
      else if !s.probeKnown seg.body then .error .noProbe
      else .ok seg
    | _, _ => .error .bad

/-- A travel of a segment is executing (R29). In a fast stop, of a contact above all, the arm is MOVING with origin SEGMENT still, and R103
says both that the contact ends the travel and that a probing travel lasts until its standstill: the travel counts as over. While a probing
travel waits at its target for a pending latch it counts as executing (both the model's choice, log 87). -/
def State.segmentTravels (s : State) : Bool :=
  s.arm.st == .moving && s.arm.stopping.isNone &&
    match s.arm.motion with
    | some m => m.act == .travel
    | none => false

/-- A segment that has passed its checks is appended (R18, R19, R29). -/
def State.append (sender : Station) (seg : Segment) (s : State) : State :=
  let first := s.run.queue.isEmpty
  let s := if s.run.owner.isNone then s.setOwner sender else s
  let s := { s with run := { s.run with
      queue := s.run.queue ++ [seg], st := if s.run.st == .starved then .active else s.run.st } }
  if first && s.segmentTravels then s.lookAhead else s

/-- SEG's own tests and effect (R18, R19, R168). A SEG shorter than 4 bytes from a planner that is not the owner is answered BAD and
not OWNER (the model's choice, log 63). -/
def State.takeSeg (sender : Station) (p : List Byte) (s : State) : Taken :=
  if p.length < 4 then answer .bad s
  else if s.ownedByOther sender then answer .owner s
  else
    match s.checkSeg p with
    | .error r => answer r s
    | .ok seg =>
      let s := s.append sender seg
      (s.finish, some (.ok, [u8 s.run.queue.length]))

/-! ## HOLD (R33) -/

/-- The run becomes HELD. -/
def State.holdRun (s : State) : State := { s with run := { s.run with st := .held } }

/-- The arm stands and the run is HELD, with what waits. -/
def State.holdStill (t : Option Start) (s : State) : State :=
  let s := s.standStill.holdRun
  { s with arm := { s.arm with todo := t, itemsHeld := false } }

/-- HOLD with the arm MOVING (R33, R32). A probing travel that waits at its target for a pending latch has no way left to go: the
latch is judged, and the run becomes HELD as the segment completes (the model's choice, log 50). -/
def State.holdMoving (s : State) : State :=
  match s.arm.stopping, s.arm.motion with
  | some p, _ =>
    match p.after with
    | .backOff => { s with arm := { s.arm with stopping := some { p with held := true } } }
    | _ => s
  | none, some m =>
    match m.act with
    | .dwell => s.holdStill (some (.dwellOn (m.dwellLeft.getD 0)))
    | .inPlace => s.holdRun
    | _ =>
      if m.atTarget then { s with arm := { s.arm with motion := some { m with thenHeld := true } } }
      else { s with arm := { s.arm with
          st := .decelerating
          stopping := some { fast := false, after := .resume, held := true, afterBackOff := false } } }
  | none, none => s.holdRun

/-- The gate-1 start of a probing start that waits for ring space (R33, R140). -/
def Start.fromGateOne : Start → Start
  | .segmentPastRing => .segment
  | .touchPastRing => .touch
  | t => t

/-- The effect of a HOLD that is taken (R33). In a deceleration that a STOP began with run state NONE, a run that GO has made ACTIVE
since becomes HELD at the standstill (the model's choice, log 46). -/
def State.holdEffect (s : State) : State :=
  match s.arm.st with
  | .moving => s.holdMoving
  | .claiming =>
    if s.arm.todo == some .home then s.holdRun else { s.holdRun with arm := { s.arm with st := .still } }
  | .ringWait => s.holdStill (s.arm.todo.map Start.fromGateOne)
  | .decelerating =>
    match s.arm.stopping with
    | some p =>
      match p.after with
      | .still => { s with arm := { s.arm with stopping := some { p with held := true } } }
      | _ => s
    | none => s
  | _ => s.holdRun

/-! ## ASK -/

/-- The view code of an ASK payload is the row's, and its argument and part selector (Table 12-2). -/
structure AskFields where
  view : Nat
  argument : BitVec 16
  part : Nat
  deriving DecidableEq, Repr

/-- An ASK payload's fields. -/
def askFields (p : List Byte) : AskFields := { view := fieldAt p 0 1, argument := wordAt p 1, part := fieldAt p 3 1 }

/-- The kind code of ASK. -/
def askKind : Nat := 0x2E

/-- An ASK of one view (R169): `view` gives the result and data for the argument and part selector. -/
def State.ask (code : Nat) (view : AskFields → State → Result × List ViewField) (sender : Station) (p : List Byte)
    (s : State) : State :=
  s.command sender askKind true (p.length == 4) (fun s =>
    if (askFields p).view != code then answer .bad s else (s, some (view (askFields p) s)))

/-- A view without argument: argument and part selector are 0 (log 17). -/
def plainView (data : State → List ViewField) (a : AskFields) (s : State) : Result × List ViewField :=
  if a.argument == 0 && a.part == 0 then (.ok, data s) else (.bad, [])

/-- A view with an argument below a bound and part selector 0. -/
def indexedView (bound : Nat) (data : Nat → State → List ViewField) (a : AskFields) (s : State) :
    Result × List ViewField :=
  if a.argument.toNat < bound && a.part == 0 then (.ok, data a.argument.toNat s) else (.bad, [])

end Sys2Proof.Machine
end

