-- ==== Sys2Proof/Machine/RunCommands.lean ====
section
/-! DEFINITION. The commands of runs and motions: SEG, GO, HOLD, GO_ON, STOP, HOME, DRIVES, CHANGE, QUALIFY, SHADOW, and
the broadcast CELL_STOP (chapters 1, 2, 9, 12). -/

namespace Sys2Proof.Machine

open Sys2Proof

/-- SEG (R18, R19, R168). -/
def execSeg (sender : Station) (payload : List Byte) (s : State) : Host.Outcome State Fault Refusal :=
  .next (s.command sender 0x20 false true (State.takeSeg sender payload))

/-- The effect of GO (R21). -/
def State.startRun (sender : Station) (s : State) : State :=
  let s := s.setOwner sender
  if s.run.queue.isEmpty then ({ s with run := { s.run with st := .starved } }).emit .starved
  else { s with run := { s.run with st := .active } }

/-- GO's own tests and effect (R21); the order of the two tests is the model's choice (log 44). -/
def State.takeGo (sender : Station) (s : State) : Taken :=
  if s.run.st != .none then answer .state s
  else if s.ownedByOther sender then answer .owner s
  else answer .ok (s.startRun sender).finish

/-- GO (R21). -/
def execGo (sender : Station) (payload : List Byte) (s : State) : Host.Outcome State Fault Refusal :=
  .next (s.command sender 0x21 false (payload.length == 0) (State.takeGo sender))

/-- HOLD's own tests and effect (R33); the order of the two tests is the model's choice (log 44). -/
def State.takeHold (sender : Station) (s : State) : Taken :=
  if s.run.owner != some sender then answer .owner s
  else if s.run.st != .active then answer .state s
  else answer .ok s.holdEffect.finish

/-- HOLD (R33). -/
def execHold (sender : Station) (payload : List Byte) (s : State) : Host.Outcome State Fault Refusal :=
  .next (s.command sender 0x22 false (payload.length == 0) (State.takeHold sender))

/-- GO_ON's own tests and effect (R34): the run is ACTIVE, and what waits goes on. The order of the two tests is the model's choice
(log 44). -/
def State.takeGoOn (sender : Station) (s : State) : Taken :=
  if s.run.owner != some sender then answer .owner s
  else if s.run.st != .held then answer .state s
  else answer .ok ({ s with run := { s.run with st := .active } }).finish

/-- GO_ON (R34). -/
def execGoOn (sender : Station) (payload : List Byte) (s : State) : Host.Outcome State Fault Refusal :=
  .next (s.command sender 0x23 false (payload.length == 0) (State.takeGoOn sender))

/-- STOP (R23). -/
def execStop (sender : Station) (payload : List Byte) (s : State) : Host.Outcome State Fault Refusal :=
  .next (s.command sender 0x24 false (payload.length == 0) (fun s => answer .ok (s.stopTaken .stopped 0).finish))

/-- HOME's own test and effect (R13). -/
def State.takeHome (s : State) : Taken :=
  if s.run.st == .none && s.arm.st == .still && !s.arm.shadow && s.join.st == .attached then
    answer .ok (s.setTodo .home).finish
  else answer .state s

/-- HOME (R13). -/
def execHome (sender : Station) (payload : List Byte) (s : State) : Host.Outcome State Fault Refusal :=
  .next (s.command sender 0x25 false (payload.length == 0) State.takeHome)

/-- The drives become ENERGIZED: setpoints equal positions, and the arm goes from OFF to STILL (R9, R3). -/
def State.energize (s : State) : State :=
  if s.arm.energized then s
  else { s.holdSetpoints with arm := { s.arm with energized := true, st := .still } }

/-- DRIVES on: its own test and effect (R9). -/
def State.takeDrivesOn (s : State) : Taken :=
  if s.estop || s.inConflict || s.anyScaleFault then answer .state s else answer .ok s.energize.finish

/-- DRIVES with the argument 1, on; any other argument is BAD here (R9, Table 12-2). -/
def execDrivesOn (sender : Station) (payload : List Byte) (s : State) : Host.Outcome State Fault Refusal :=
  .next (s.command sender 0x26 false (payload == [1#8]) State.takeDrivesOn)

/-- DRIVES with the argument 0, off; any other argument is BAD here (R10, Table 12-2). -/
def execDrivesOff (sender : Station) (payload : List Byte) (s : State) : Host.Outcome State Fault Refusal :=
  .next (s.command sender 0x26 false (payload == [0#8]) (fun s => answer .ok (s.cutDrives .stopped).finish))

/-- A stand-alone excursion may start (R136). -/
def State.mayExcurse (s : State) : Bool :=
  s.run.st == .none && s.arm.st == .still && s.join.st == .attached && s.run.stack.isEmpty

/-- CHANGE's own tests and effect (R136). -/
def State.takeChange (id : ProbeId) (s : State) : Taken :=
  if !s.mayExcurse then answer .state s
  else if (s.probe id).isNone then answer .noProbe s
  else answer .ok (s.pushChange id false).finish

/-- CHANGE (R136). -/
def execChange (sender : Station) (payload : List Byte) (s : State) : Host.Outcome State Fault Refusal :=
  .next (s.command sender 0x27 false (payload.length == 2) (State.takeChange (wordAt payload 0)))

/-- QUALIFY's own test and effect (R136). -/
def State.takeQualify (s : State) : Taken :=
  if s.mayExcurse then answer .ok (s.pushOut .qualify none false).finish else answer .state s

/-- QUALIFY (R136). -/
def execQualify (sender : Station) (payload : List Byte) (s : State) : Host.Outcome State Fault Refusal :=
  .next (s.command sender 0x28 false (payload.length == 0) State.takeQualify)

/-- Shadow mode begins (R37, R2): the standing set is saved, and each position follows its setpoint. -/
def State.enterShadow (s : State) : State :=
  let s := { s with arm := { s.arm with shadow := true, phys := s.arm.standing } }
  (s.moveSetpoints s.setpoints).emit (.shadow true)

/-- SHADOW on: its own test and effect (R37). -/
def State.takeShadowOn (s : State) : Taken :=
  if s.run.st == .none && s.arm.st == .still && s.run.queue.isEmpty && s.run.stack.isEmpty && !s.arm.shadow then
    answer .ok s.enterShadow
  else answer .state s

/-- SHADOW with the argument 1, on; any other argument is BAD here (R37, Table 12-2). -/
def execShadowOn (sender : Station) (payload : List Byte) (s : State) : Host.Outcome State Fault Refusal :=
  .next (s.command sender 0x2D false (payload == [1#8]) State.takeShadowOn)

/-- Shadow mode ends by SHADOW off (R39). The release names every zone outside the physical standing set, what the record of a
rehearsed stand-alone CHANGE in CH_DONE keeps held (R137) included (the model's choice, log 61). -/
def State.endShadow (s : State) : State :=
  let s := s.leaveShadow
  (s.holdSetpoints.releaseOutside s.arm.standing).emit (.shadow false)

/-- SHADOW off: its own test and effect (R39). -/
def State.takeShadowOff (s : State) : Taken :=
  if s.run.st == .none && s.arm.st == .still && s.arm.shadow then answer .ok s.endShadow.finish else answer .state s

/-- SHADOW with the argument 0, off; any other argument is BAD here (R39, Table 12-2). -/
def execShadowOff (sender : Station) (payload : List Byte) (s : State) : Host.Outcome State Fault Refusal :=
  .next (s.command sender 0x2D false (payload == [0#8]) State.takeShadowOff)

/-- CELL_STOP (R24): a STOP with reason CELL_STOPPED, from a station that the roster shows as an ATTACHED planner. -/
def execCellStop (sender : Station) (reason : Byte) (s : State) : Host.Outcome State Fault Refusal :=
  if !s.receives sender then .next s
  else
    let s := s.heard sender true
    match s.table with
    | some t => .next (if t.isPlanner sender then (s.stopTaken .cellStopped reason).finish else s)
    | none => .next s

end Sys2Proof.Machine
end

