-- ==== Sys2Proof/Machine/SettingCommands.lean ====
section
/-! DEFINITION. The commands that set or read the station's data: PROBEDEF, PART, REPORTMARK, EVMASK and the nine views of
ASK (R96, R111, R160, R169, R172). -/

namespace Sys2Proof.Machine

open Sys2Proof

/-- The mounted probe is in use (R96): the run is ACTIVE or HELD, or a change or qualification stands on the stack, its return
included; an ended change whose window is still open is no longer in progress (the model's choice, log 49). -/
def State.probeInUse (s : State) : Bool :=
  s.run.st == .active || s.run.st == .held || s.run.stack.any (fun r => r.kind == .change || r.kind == .qualify)

/-- The defined fields of a record replaced: the record becomes UNQUALIFIED and keeps its home slot (R96). -/
def ProbeRecord.redefine (d : ProbeDef) (r : ProbeRecord) : ProbeRecord :=
  { defined := d, qual := .unqualified, data := none, homeSlot := r.homeSlot }

/-- A record added, or replaced under its ID (R96). -/
def State.defineProbe (d : ProbeDef) (s : State) : State :=
  match s.probe d.id with
  | some _ => s.updateProbe d.id (ProbeRecord.redefine d)
  | none => { s with probes := s.probes ++ [{ defined := d, qual := .unqualified, data := none, homeSlot := none }] }

/-- PROBEDEF's own tests and effect (R96). -/
def State.takeProbedef (p : List Byte) (s : State) : Taken :=
  match probeDefOf p with
  | none => answer .bad s
  | some d =>
    if (s.probe d.id).isNone && decide (8 ≤ s.probes.length) then answer .full s
    else if s.mountedRecord.any (fun r => r.defined.id == d.id) && s.probeInUse then answer .state s
    else answer .ok (s.defineProbe d)

/-- PROBEDEF (R96). -/
def execProbedef (sender : Station) (payload : List Byte) (s : State) : Host.Outcome State Fault Refusal :=
  .next (s.command sender 0x29 false (payload.length == 21) (State.takeProbedef payload))

/-- PART (R160). -/
def execPart (sender : Station) (payload : List Byte) (s : State) : Host.Outcome State Fault Refusal :=
  .next (s.command sender 0x2A false (payload.length == 14) (fun s => answer .ok { s with part := partOf payload }))

/-- REPORTMARK's own test and effect (R111). -/
def State.takeReportmark (p : List Byte) (s : State) : Taken :=
  if within 1 32 (fieldAt p 0 1) && within 10 5000 (fieldAt p 1 2) then
    answer .ok ({ s with cap := { s.cap with level := byteAt p 0, timeout := wordAt p 1 } }).decideReport
  else answer .bad s

/-- REPORTMARK (R111). -/
def execReportmark (sender : Station) (payload : List Byte) (s : State) : Host.Outcome State Fault Refusal :=
  .next (s.command sender 0x2B false (payload.length == 3) (State.takeReportmark payload))

/-- The enable mask replaced: kinds that it clears stop being pending (R172). -/
def EventSet.withMask (mask : BitVec 16) (e : EventSet) : EventSet :=
  { e with
    mask := mask
    slots := mapFrom (fun n slot => if mask.getLsbD n then slot else { pending := none, renewed := false }) 0 e.slots }

/-- EVMASK's own test and effect (R172). -/
def State.takeEvmask (p : List Byte) (s : State) : Taken :=
  if fieldAt p 0 2 < 4096 then answer .ok { s with events := s.events.withMask (wordAt p 0) } else answer .bad s

/-- EVMASK (R172). -/
def execEvmask (sender : Station) (payload : List Byte) (s : State) : Host.Outcome State Fault Refusal :=
  .next (s.command sender 0x2C false (payload.length == 2) (State.takeEvmask payload))

/-- ASK STATUS (R169). -/
def execAskStatus (sender : Station) (payload : List Byte) (s : State) : Host.Outcome State Fault Refusal :=
  .next (s.ask 0 (plainView State.viewStatus) sender payload)

/-- ASK POSITION (R169). -/
def execAskPosition (sender : Station) (payload : List Byte) (s : State) : Host.Outcome State Fault Refusal :=
  .next (s.ask 1 (plainView State.viewPosition) sender payload)

/-- ASK CHANNEL (R169): channels 0 to 11. -/
def execAskChannel (sender : Station) (payload : List Byte) (s : State) : Host.Outcome State Fault Refusal :=
  .next (s.ask 2 (indexedView 12 State.viewChannel) sender payload)

/-- The PEER view of an entry of the watch list (R169). R169 gives the range 0 to 23; a number in it beyond the counted list names no
entry, and is answered BAD as well (the model's choice, log 62). -/
def peerView (a : AskFields) (s : State) : Result × List ViewField :=
  match s.thermal.peers[a.argument.toNat]? with
  | some e => if a.part == 0 then (.ok, s.viewPeer e) else (.bad, [])
  | none => (.bad, [])

/-- ASK PEER (R169). -/
def execAskPeer (sender : Station) (payload : List Byte) (s : State) : Host.Outcome State Fault Refusal :=
  .next (s.ask 3 peerView sender payload)

/-- The PROBE view of an ID; NOPROBE where no record carries it (R169), also for the arguments 0 and FFFFh, which are no probe IDs: whether
they are out of the view's range and BAD is open. A part selector that is not 0 is tested first, and answered BAD also for an ID that no
record carries, an order that R169 does not give (the model's choices, log 78). -/
def probeView (a : AskFields) (s : State) : Result × List ViewField :=
  if a.part != 0 then (.bad, [])
  else
    match s.probe a.argument with
    | some r => (.ok, r.view)
    | none => (.noProbe, [])

/-- ASK PROBE (R169). -/
def execAskProbe (sender : Station) (payload : List Byte) (s : State) : Host.Outcome State Fault Refusal :=
  .next (s.ask 4 probeView sender payload)

/-- The POINT view: part 1 or 2 of a point that the ring holds, otherwise BAD (R115). -/
def pointView (a : AskFields) (s : State) : Result × List ViewField :=
  match s.cap.ring.find? (fun p => p.number == a.argument) with
  | some p => if a.part == 1 then (.ok, p.viewOne) else if a.part == 2 then (.ok, p.viewTwo) else (.bad, [])
  | none => (.bad, [])

/-- ASK POINT (R115, R169). -/
def execAskPoint (sender : Station) (payload : List Byte) (s : State) : Host.Outcome State Fault Refusal :=
  .next (s.ask 5 pointView sender payload)

/-- ASK QUEUE (R169). -/
def execAskQueue (sender : Station) (payload : List Byte) (s : State) : Host.Outcome State Fault Refusal :=
  .next (s.ask 6 (plainView State.viewQueue) sender payload)

/-- ASK SHARE (R169): items 0 to 23. -/
def execAskShare (sender : Station) (payload : List Byte) (s : State) : Host.Outcome State Fault Refusal :=
  .next (s.ask 7 (indexedView 24 State.viewShare) sender payload)

/-- ASK IDENT (R169). -/
def execAskIdent (sender : Station) (payload : List Byte) (s : State) : Host.Outcome State Fault Refusal :=
  .next (s.ask 8 (plainView State.viewIdent) sender payload)

end Sys2Proof.Machine
end

