-- ==== Sys2Proof/Machine/LineRows.lean ====
section
/-! DEFINITION. The line controller's commands: frames received, vetoed and abandoned, the station's own frames from
FRAME_BEGIN to their end, and its timers (chapter 3, R113, R173, R174). -/

namespace Sys2Proof.Machine

open Sys2Proof

/-! ## Frames of other stations -/

/-- OTHER_FRAME_ACCEPTED (R48): silence timing and the join window only. -/
def execOtherFrameAccepted (sender : Station) (s : State) : Host.Outcome State Fault Refusal :=
  if s.receives sender then .next (s.heard sender true) else .next s

/-- A share frame whose Sequence this station vetoes (R46). -/
def State.vetoesHeader (h : FrameHeader) (s : State) : Bool :=
  match s.table with
  | some t => isShareKind h.kind.toNat && h.kind.toNat != joinKind && h.seq != t.seq + 1
  | none => false

/-- RECEIVED_FRAME_VOID (R47, R48, R46, R80): silence timing, and the join window but for a PRESENCE that shows LISTENING; a share
frame vetoed for MISMATCH detaches the station. -/
def execReceivedFrameVoid (frame : VoidFrame) (s : State) : Host.Outcome State Fault Refusal :=
  if s.receives frame.header.source && !headerMalformed frame.header then
    let s := s.heard frame.header.source (frame.shown != some .listening)
    if s.vetoesHeader frame.header then .next (s.detach .mismatch).finish else .next s
  else .next s

/-- One more CRC veto or abandonment (R49): the eighth leads to QUIET, through a detach at a station in a cell. -/
def State.countVeto (s : State) : State :=
  if s.line.crcVetoes + 1 < 8 then { s with line := { s.line with crcVetoes := s.line.crcVetoes + 1 } }
  else if s.join.st == .listening then s.enterQuiet
  else s.detach .vetoLimit

/-- CRC_VETO (R44, R46, R49); a QUIET station makes no count. -/
def execCrcVeto (s : State) : Host.Outcome State Fault Refusal :=
  if s.line.active && s.join.st != .quiet then .next s.countVeto.finish else .next s

/-- What a station drives in answer to a frame of another station: the ack slot, the veto slot, an error flag (`errorFlag`). -/
structure Answered where
  ack : Bool
  veto : Bool
  flag : Bool
  deriving DecidableEq, Repr

/-- A command kind addressed to this station while M3 holds a REPLY (R46, BUSY). -/
def State.busyFor (h : FrameHeader) (s : State) : Bool :=
  isCommandKind h.kind.toNat && h.dest.toNat == s.me.val && s.line.m3.isSome

/-- What the station drives for a frame as it has received it (R44, R46): an error flag for an abandoned one, the veto slot for a
CRC mismatch, the ack slot for one received correctly and the veto slot beside it for BUSY and MISMATCH; nothing in QUIET, and
nothing before the loader has finished (R41). -/
def State.answers (r : Reception) (s : State) : Answered :=
  if !s.line.active || s.join.st == .quiet then { ack := false, veto := false, flag := false }
  else
    match r with
    | .abandoned => { ack := false, veto := false, flag := true }
    | .mismatch => { ack := false, veto := true, flag := false }
    | .correct h _ => { ack := true, veto := s.busyFor h || s.vetoesHeader h, flag := false }

/-- Whether a receiver that received a frame correctly takes it as accepted, from the two slots (R47): the veto slot recessive,
and in QUIET the ack slot dominant as well. -/
def State.receiverAccepts (ack veto : Bool) (s : State) : Bool := !veto && (ack || s.join.st != .quiet)

/-- Whether a receiver abandons a frame for this cause (R44). -/
def abandons : AbandonCause → Bool
  | .stuffViolation => true
  | .header h => headerMalformed h

/-- FRAME_ABANDONED (R44, R49). -/
def execFrameAbandoned (cause : AbandonCause) (s : State) : Host.Outcome State Fault Refusal :=
  if s.line.active && s.join.st != .quiet && abandons cause then .next s.countVeto.finish else .next s

/-! ## The frame offered (R51) -/

/-- The payload of the JOIN that begins now (R80, Table 5-2); every Ardmel 320 serves snapshots (Table 4-2). -/
def State.joinFields (founding : Bool) (s : State) : JoinFields :=
  { role := .arm, standing := s.keep, founding := founding, serves := true }

/-- The share frame that an M1 entry offers now. -/
def State.shareFrame (e : M1Entry) (s : State) : ShareFrame :=
  match e with
  | .join founding => .join (s.joinFields founding)
  | .attach => .attach
  | .leave => .leave
  | .claim items _ => .claim items
  | .withdraw => .withdraw
  | .release items => .release items
  | .slotSet slot contents => .slotSet (BitVec.ofNat 8 slot.val) contents.code
  | .slotSense presences => .slotSense presences

/-- The pending details in kind order. -/
def EventSet.pending (e : EventSet) : List Event := e.slots.filterMap (·.pending)

/-- The entries that fit in the bytes left, up to the first that does not (R173). -/
def packEvents : Nat → List Event → List Event
  | _, [] => []
  | room, e :: rest => if e.entry.length ≤ room then e :: packEvents (room - e.entry.length) rest else []

/-- A station that the roster shows LOST or ABSENT (R113, R173). -/
def State.isGone (n : Station) (s : State) : Bool :=
  match s.table with
  | some t => !(t.entry n).state.inCell
  | none => false

/-- A destination for a station that may be gone. -/
def State.addressTo (n : Station) (s : State) : BitVec 4 := if s.isGone n then 15 else BitVec.ofNat 4 n.val

/-- The Destination of an EVENT frame (R173). -/
def State.eventDestination (s : State) : BitVec 4 :=
  match s.events.address with
  | some n => s.addressTo n
  | none => 15

/-- A frame offered. -/
def offer (content : TxContent) (dest : BitVec 4) : Tx :=
  { content := content, dest := dest, seq := 0, won := false, stale := false, renewed := false }

/-- What M0 offers (R52). -/
def State.offerLost (s : State) : Option Tx :=
  if s.table.isSome && s.line.lostSet != 0 then some (offer (.lost s.line.lostSet) 15) else none

/-- What M1 offers: its head; a frame other than JOIN only with a table (R51, R53). -/
def State.offerShare (s : State) : Option Tx :=
  match s.line.m1 with
  | e :: _ => if e.isJoin || s.table.isSome then some (offer (.share e (s.shareFrame e)) 15) else none
  | [] => none

/-- What M2 offers, while M1 is empty (R54). -/
def State.offerPart (s : State) : Option Tx :=
  match s.line.m1, s.line.m2 with
  | [], p :: _ => some (offer (.snapshot p) (BitVec.ofNat 4 p.dest.val))
  | _, _ => none

/-- What M3 offers (R55). -/
def State.offerReply (s : State) : Option Tx := s.line.m3.map (fun r => offer (.reply r) (BitVec.ofNat 4 r.dest.val))

/-- What M4 offers (R56, R173). -/
def State.offerEvent (s : State) : Option Tx :=
  match s.events.pending with
  | [] => none
  | pending => some (offer (.event (packEvents 48 pending)) s.eventDestination)

/-- What the POINTS slot offers (R113). -/
def State.offerPoints (s : State) : Option Tx :=
  match s.cap.ring.take s.line.points with
  | [] => none
  | p :: rest => some (offer (.points (p :: rest)) (s.addressTo p.report))

/-- What the THERMAL slot offers (R152). -/
def State.offerThermal (s : State) : Option Tx := s.line.thermal.map (fun c => offer (.thermal c) 15)

/-- What the PRESENCE slot offers (R57). -/
def State.offerPresence (s : State) : Option Tx :=
  if s.line.presence then some (offer (.presence s.presenceFields) 15) else none

/-- The frame offered at an idle: M0, M1, M2, M3, M4, then POINTS, THERMAL, PRESENCE (R51). -/
def State.offered (s : State) : Option Tx :=
  s.offerLost <|> s.offerShare <|> s.offerPart <|> s.offerReply <|> s.offerEvent <|> s.offerPoints <|> s.offerThermal
    <|> s.offerPresence

/-- A frame may begin: the line controller follows the line, has no frame on it, and is not QUIET (R41, R49, R51, R173). -/
def State.mayBeginFrame (s : State) : Bool := s.line.active && s.line.tx.isNone && s.join.st != .quiet

/-- FRAME_BEGIN (R51). -/
def execFrameBegin (s : State) : Host.Outcome State Fault Refusal :=
  if s.mayBeginFrame then .next { s with line := { s.line with tx := s.offered } } else .next s

/-! ## Arbitration (R42, R43) -/

/-- No frame of the station is on the line. -/
def State.clearTx (s : State) : State := { s with line := { s.line with tx := none } }

/-- The renewal marks of the carried kinds are cleared (R174). -/
def EventSet.unmark (carried : List Event) (e : EventSet) : EventSet :=
  { e with slots := mapFrom (fun n slot =>
      if carried.any (fun c => c.kind == n) then { slot with renewed := false } else slot) 0 e.slots }

/-- The frame has left the line without being accepted: every carried kind stays pending, and the report decision is made
(R112, R113, R174). -/
def State.unsent (tx : Tx) (s : State) : State :=
  let s := s.clearTx
  match tx.content with
  | .event carried => { s with events := s.events.unmark carried }
  | .points _ => s.decideReport
  | _ => s

/-- ARBITRATION_LOST (R43; log 19): no count changes, and the frame stays in its mailbox. -/
def execArbitrationLost (s : State) : Host.Outcome State Fault Refusal :=
  match s.line.tx with
  | some tx => if tx.won then .next s else .next (s.unsent tx)
  | none => .next s

/-- The Sequence field written once arbitration is won (R42). A share frame other than a JOIN whose table a detach has discarded since
it began carries 1 for a LOST and 0 for any other kind (the model's choice, log 64). -/
def State.sequenceFor (content : TxContent) (s : State) : BitVec 16 :=
  match content with
  | .lost _ => s.shownSeq + 1
  | .share _ f =>
    match s.table, f with
    | some t, _ => t.seq + 1
    | none, .join j => if j.founding then 1 else 0
    | none, _ => 0
  | _ => 0

/-- The frame that has won is a WITHDRAW. -/
def TxContent.isWithdraw : TxContent → Bool
  | .share .withdraw _ => true
  | _ => false

/-- ARBITRATION_WON (R42): the Sequence field is written; a WITHDRAW's first win makes the claim's timeout take effect
(R75). -/
def execArbitrationWon (s : State) : Host.Outcome State Fault Refusal :=
  match s.line.tx with
  | some tx =>
    if tx.won then .next s
    else
      let s := { s with line := { s.line with
          tx := some { tx with won := true, seq := s.sequenceFor tx.content } } }
      if tx.content.isWithdraw then
        let failed := s.claimFailed
        .next (failed.1.claimTimedOut failed.2).finish
      else .next s
  | none => .next s

/-! ## The end of an own frame -/

/-- A frame has been accepted at its own mailbox (R174): kinds not renewed stop being pending. -/
def EventSet.accept (carried : List Event) (e : EventSet) : EventSet :=
  { e with slots := mapFrom (fun n slot =>
      if carried.any (fun c => c.kind == n) then
        (if slot.renewed then { slot with renewed := false } else { pending := none, renewed := false })
      else slot) 0 e.slots }

/-- A probing start in RING_WAIT goes on when the ring has room (R110). -/
def State.leaveRingWait (s : State) : State :=
  if s.arm.st == .ringWait && decide (s.cap.ring.length < 64) then { s with arm := { s.arm with st := .still } } else s

/-- The station's own ordinary JOIN is accepted: JOINING, with the log begun by it (R86), and nothing left to apply; a
founding image waits for the JOIN's application (R82). -/
def State.joinAccepted (f : JoinFields) (seq : BitVec 16) (s : State) : State :=
  if f.founding || s.join.image.isSome then s
  else
    { s with
      line := { s.line with awaiting := none }
      join := { Join.cold with
        st := .joining, leaveWait := s.join.leaveWait, wait := some s.clock, logging := true
        log := [{ sender := s.me, seq := seq, frame := .join f }] } }

/-- A share frame waits for its application in line order (R48). -/
def State.await (f : ShareFrame) (s : State) : State := { s with line := { s.line with awaiting := some f } }

/-- The claim whose CLAIM waits for its application, or none (R74). -/
def State.noteClaim (e : M1Entry) (s : State) : State :=
  { s with agent := { s.agent with applying :=
      match e with
      | .claim _ serial => some serial
      | _ => none } }

/-- The station's own share frame is accepted (R48): it awaits its application, and an ordinary JOIN begins the join (R86). -/
def State.shareAccepted (f : ShareFrame) (seq : BitVec 16) (s : State) : State :=
  match f with
  | .join fields => (s.await f).joinAccepted fields seq
  | _ => s.await f

/-- A stale own share frame is accepted (R48): its mailbox has been emptied under it, but the frame is treated by the block that the
station's state names, which is the join unit without a table (R80); a QUIET station's join unit ignores it (R49). -/
def State.staleAccepted (f : ShareFrame) (seq : BitVec 16) (s : State) : State :=
  if s.join.st == .quiet then s else s.shareAccepted f seq

/-- A standing set is recorded by a JOINING station that has not adopted (R63, R86, R88). -/
def State.recordPresence (sender : Station) (standing : ZoneSet) (s : State) : State :=
  if !s.join.logging then s
  else if s.join.presences.length < 64 then
    { s with join := { s.join with
        presences := s.join.presences ++ [{ sender := sender, standing := standing, before := s.join.log.length }] } }
  else s.failJoin

/-- The join states that show a cell (R80). -/
def JoinShown.showsCell : JoinShown → Bool
  | .joining => true
  | .attached => true
  | .joinConflict => true
  | _ => false

/-- A PRESENCE at a LISTENING station (R80; log 21 for the founding image). -/
def State.listenPresence (sender : Station) (standing : ZoneSet) (shown : JoinShown) (s : State) : State :=
  let s := { s with join := { s.join with
    image := s.join.image.map (fun (t : Table) => t.publish sender standing) } }
  if JoinShown.showsCell shown then s.heardCell else s

/-- An accepted PRESENCE, another station's or the station's own, recorded (R48, R63, R80). -/
def State.presenceRecorded (sender : Station) (standing : ZoneSet) (shown : JoinShown) (s : State) : State :=
  match s.table with
  | some t => { s with table := some (t.publish sender standing) }
  | none =>
    match s.join.st with
    | .joining => s.recordPresence sender standing
    | .listening => s.listenPresence sender standing shown
    | _ => s

/-- Content leaves its mailbox when its frame is accepted (R51 to R57, R113, R174). A stale frame removes nothing, but for
the events, which are told apart by their renewal marks. -/
def State.contentAccepted (tx : Tx) (s : State) : State :=
  match tx.content with
  | .lost stations =>
    if tx.stale then s.staleAccepted (.lost stations) tx.seq
    else ({ s with line := { s.line with lostSet := s.line.lostSet &&& ~~~ stations } }).await (.lost stations)
  | .share e f =>
    if tx.stale then s.staleAccepted f tx.seq
    else (({ s with line := { s.line with m1 := s.line.m1.drop 1 } }).noteClaim e).shareAccepted f tx.seq
  | .snapshot _ => if tx.stale then s else { s with line := { s.line with m2 := s.line.m2.drop 1 } }
  | .reply _ => if tx.stale then s else { s with line := { s.line with m3 := none } }
  | .event carried => { s with events := s.events.accept carried }
  | .points carried => (if tx.stale then s else s.dropPoints carried.length).decideReport.leaveRingWait
  | .thermal _ => if tx.stale || tx.renewed then s else { s with line := { s.line with thermal := none } }
  | .presence p =>
    (if tx.stale then s else { s with line := { s.line with presence := false } }).presenceRecorded s.me p.standing p.join

/-- The station's own frame is accepted: the void count is 0 and the presence timer restarts (R50, R57), during a read of the memory that a
RESTART has ordered too (the model's choice, log 89). -/
def State.ownAccepted (tx : Tx) (s : State) : State :=
  ({ s with line := { s.line with tx := none, voids := 0, presenceTimer := some s.clock } }).contentAccepted tx

/-- OWN_FRAME_ACCEPTED (R47, R50, R51). The application of a share frame follows as that kind's own command (log 4). -/
def execOwnFrameAccepted (s : State) : Host.Outcome State Fault Refusal :=
  match s.line.tx with
  | some tx => if tx.won then .next (s.ownAccepted tx).finish else .next s
  | none => .next s

/-- A void CLAIM of the retired claim leaves M1, and the retired claim is gone (R76). -/
def State.retiringVoid (tx : Tx) (s : State) : State :=
  match tx.content, s.agent.retired with
  | .share (.claim _ serial) _, some r =>
    if r.phase == .retiring && r.serial == serial && !tx.stale then
      ({ s with line := { s.line with m1 := s.line.m1.drop 1 } }).setRetired none
    else s
  | _, _ => s

/-- One more void of an own frame (R50): the fourth detaches a station in a cell. A QUIET station makes no count (R49). -/
def State.countVoid (s : State) : State :=
  if s.join.st == .quiet then s
  else if s.line.voids + 1 < 4 then { s with line := { s.line with voids := s.line.voids + 1 } }
  else
    let s := { s with line := { s.line with voids := 0 } }
    s.detach .voidLimit

/-- The station's own frame is void (R45, R47, R50): its content stays. -/
def State.ownVoid (tx : Tx) (s : State) : State := ((s.unsent tx).retiringVoid tx).countVoid

/-- BIT_ERROR (R45): the frame is void, won or not. The row stands for what `senderFinds` calls a bit error; `senderDrives` gives the
error flag. -/
def execBitError (s : State) : Host.Outcome State Fault Refusal :=
  match s.line.tx with
  | some tx => .next (s.ownVoid tx).finish
  | none => .next s

/-- OWN_FRAME_VOID (R47, R50). -/
def execOwnFrameVoid (s : State) : Host.Outcome State Fault Refusal :=
  match s.line.tx with
  | some tx => if tx.won then .next (s.ownVoid tx).finish else .next s
  | none => .next s

/-- Whether the sender takes its frame as accepted, from the two slots (R47). The commands OWN_FRAME_ACCEPTED and
OWN_FRAME_VOID stand for this decision. -/
def State.senderAccepts (tx : Tx) (ack veto : Bool) (s : State) : Bool :=
  !veto && (ack ||
    match s.table, tx.content with
    | some t, _ => (mapFrom (fun n r => n == s.me.val || !r.state.inCell) 0 t.roster).all id
    | none, .share _ (.join f) => f.founding
    | none, _ => true)

/-- The command that stands for what the sender of a frame has found from the levels it read (R43, R45, R47; log 31). -/
def State.ownFrameEnd (tx : Tx) (found : SenderFinding) (s : State) : Instr :=
  match found with
  | .lost => .arbitrationLost
  | .bitError => .bitError
  | .slots ack veto => if s.senderAccepts tx ack veto then .ownFrameAccepted else .ownFrameVoid

/-! ## Timers of the line controller and the join unit -/

/-- PRESENCE_TIMER_EXPIRY (R57): the timer restarts at the acceptance of an own frame. -/
def execPresenceTimerExpiry (s : State) : Host.Outcome State Fault Refusal :=
  match s.line.presenceTimer with
  | some since =>
    let s := s.reach since 100
    .next { s with line := { s.line with presence := true, presenceTimer := none } }
  | none => .next s

/-- PEER_SILENCE (R58). -/
def execPeerSilence (peer : Station) (s : State) : Host.Outcome State Fault Refusal :=
  match s.join.st, s.line.lastHeard.getD peer.val none with
  | .attached, some since =>
    let s := s.reach since 400
    .next { s with line := { s.line with lostSet := s.line.lostSet ||| stationBit peer } }
  | _, _ => .next s

/-- The roster lists another ATTACHED station (R59). -/
def State.notAlone (s : State) : Bool :=
  match s.table with
  | some t => (mapFrom (fun n r => n != s.me.val && r.state == .attached) 0 t.roster).any id
  | none => false

/-- ISOLATION (R59). -/
def execIsolation (s : State) : Host.Outcome State Fault Refusal :=
  match s.join.st, s.line.heardAny with
  | .attached, some since =>
    if s.notAlone then .next ((s.reach since 400).detach .isolated).finish else .next s
  | _, _ => .next s

/-- JOIN_WINDOW_EXPIRY (R80): a founding JOIN is queued, or a JOIN that waits is marked; the mark discards a founding image. With the
station's own JOIN on the line R80 names no act: nothing is done, also when that frame then proves void, and the window stands until
the next frame is heard (the model's choice, log 73). -/
def execJoinWindowExpiry (s : State) : Host.Outcome State Fault Refusal :=
  match s.join.st, s.join.window with
  | .listening, some since =>
    let s := s.reach since 1000
    let s := { s with join := { s.join with window := none } }
    if !s.holdsJoin then .next (({ s with join := { s.join with image := none } }).pushM1 (.join true)).finish
    else if s.waitsInM1 M1Entry.isJoin then
      .next (({ s with join := { s.join with image := none } }).rewriteM1 M1Entry.isJoin (.join true))
    else .next s
  | _, _ => .next s

/-- JOIN_WAIT_EXPIRY (R88). -/
def execJoinWaitExpiry (s : State) : Host.Outcome State Fault Refusal :=
  match s.join.wait with
  | some since => .next (s.reach since 1000).failJoin.finish
  | none => .next s

/-- QUIET_END (R49). -/
def execQuietEnd (s : State) : Host.Outcome State Fault Refusal :=
  match s.join.st, s.join.quietSince with
  | .quiet, some since => .next (s.reach since 1000).enterListening
  | _, _ => .next s

/-- The claim timeout in ms (R73). -/
def State.claimTimeout (s : State) : Nat := s.config.elim 0 (fun c => 1000 * c.claimTimeout.toNat)

/-- CLAIM_TIMER_EXPIRY (R75): a WITHDRAW is appended, and the requester keeps waiting. -/
def execClaimTimerExpiry (s : State) : Host.Outcome State Fault Refusal :=
  match s.agent.current with
  | some c =>
    match c.phase, c.timer with
    | .pending, some since =>
      let s := (s.reach since s.claimTimeout).pushM1 .withdraw
      .next (s.setClaim (some { c with phase := .expiring, timer := none })).finish
    | _, _ => .next s
  | none => .next s

/-- REPORT_TIMER_EXPIRY (R112). -/
def execReportTimerExpiry (s : State) : Host.Outcome State Fault Refusal :=
  match s.cap.ring with
  | oldest :: _ => .next (s.reach oldest.time s.cap.timeout.toNat).decideReport
  | [] => .next s

end Sys2Proof.Machine
end

