-- ==== Sys2Proof/Machine/ShareRows.lean ====
section
/-! DEFINITION. The share frames (chapters 4, 5, 8), SNAPSHOT and PRESENCE: each command stands for the frame accepted from
another station, or, with the station's own number, for the application of its own accepted frame (log 4). -/

namespace Sys2Proof.Machine

open Sys2Proof

/-- A frame is the station's own one that has won arbitration and is still on the line, stale or not (R48). -/
def State.ownOnLine (f : ShareFrame) (s : State) : Option Tx :=
  match s.line.tx with
  | some tx =>
    if tx.won then
      match tx.content with
      | .lost stations => if f == .lost stations then some tx else none
      | .share _ g => if f == g then some tx else none
      | _ => none
    else none
  | none => none

/-- The state in which the station's own frame is to be applied: it awaits its application, or its acceptance comes first
(log 4); none when the station has sent no such frame (log 3). -/
def State.ownReady (f : ShareFrame) (s : State) : Option State :=
  if s.line.awaiting == some f then some { s with line := { s.line with awaiting := none } }
  else
    match s.ownOnLine f with
    | some tx =>
      let s := s.ownAccepted tx
      some { s with line := { s.line with awaiting := none } }
    | none => none

/-- The station's own ordinary JOIN applied to its founding image: the image becomes its table (R82). -/
def State.adoptImage (f : ShareFrame) (s : State) : State :=
  match s.join.image with
  | some image => s.adopt (image.apply s.me f s.clock).table
  | none => s

/-- The application of the station's own accepted share frame (R48, R62, R81, R82). Without a table the join unit takes a frame that
is no JOIN of its own as it takes another station's (R80, R86); in QUIET it takes none (R49). -/
def State.applyOwn (seq : BitVec 16) (f : ShareFrame) (s : State) : State :=
  match s.table with
  | some t => s.applyShare t s.me f
  | none =>
    if s.join.st == .quiet then s
    else
      match f with
      | .join fields => if fields.founding then s.found fields else s.adoptImage f
      | _ => s.joinUnitTakes s.me seq f

/-- A share frame in line order. -/
def State.share (sender : Station) (seq : BitVec 16) (f : ShareFrame) (s : State) : State :=
  if sender == s.me then
    match s.ownReady f with
    | some s => (s.applyOwn seq f).finish
    | none => s
  else if s.line.active then (s.shareReceived sender seq f).finish
  else s

/-- LOST (R71). -/
def execLost (sender : Station) (seq : BitVec 16) (stations : StationSet) (s : State) :
    Host.Outcome State Fault Refusal := .next (s.share sender seq (.lost stations))

/-- JOIN (R83). -/
def execJoin (sender : Station) (seq : BitVec 16) (fields : JoinFields) (s : State) :
    Host.Outcome State Fault Refusal := .next (s.share sender seq (.join fields))

/-- The fields of a founding JOIN. -/
def foundingFields : ShareFrame → Option JoinFields
  | .join fields => if fields.founding then some fields else none
  | _ => none

/-- The founding JOIN of the station that awaits its application, or is on the line. -/
def State.ownFounding (s : State) : Option JoinFields :=
  s.line.awaiting.bind foundingFields <|>
    match s.line.tx with
    | some { content := .share _ f, .. } => foundingFields f
    | _ => none

/-- FOUNDING_JOIN (R81): the station's own founding JOIN is accepted. -/
def execFoundingJoin (s : State) : Host.Outcome State Fault Refusal :=
  match s.ownFounding with
  | some fields => .next (s.share s.me 1 (.join fields))
  | none => .next s

/-- OBSERVED_FOUNDING_JOIN (R82): a JOIN with the founding mark set. -/
def execObservedFoundingJoin (sender : Station) (seq : BitVec 16) (fields : JoinFields) (s : State) :
    Host.Outcome State Fault Refusal := .next (s.share sender seq (.join { fields with founding := true }))

/-- ATTACH (R89). -/
def execAttach (sender : Station) (seq : BitVec 16) (s : State) : Host.Outcome State Fault Refusal :=
  .next (s.share sender seq .attach)

/-- LEAVE (R72). -/
def execLeave (sender : Station) (seq : BitVec 16) (s : State) : Host.Outcome State Fault Refusal :=
  .next (s.share sender seq .leave)

/-- CLAIM (R67). -/
def execClaim (sender : Station) (seq : BitVec 16) (items : ItemSet) (s : State) : Host.Outcome State Fault Refusal :=
  .next (s.share sender seq (.claim items))

/-- WITHDRAW (R68). -/
def execWithdraw (sender : Station) (seq : BitVec 16) (s : State) : Host.Outcome State Fault Refusal :=
  .next (s.share sender seq .withdraw)

/-- RELEASE (R69). -/
def execRelease (sender : Station) (seq : BitVec 16) (items : ItemSet) (s : State) :
    Host.Outcome State Fault Refusal := .next (s.share sender seq (.release items))

/-- CLEAR (R70). -/
def execClear (sender : Station) (seq : BitVec 16) (item : Byte) (s : State) : Host.Outcome State Fault Refusal :=
  .next (s.share sender seq (.clear item))

/-- SLOT_SET (R119). -/
def execSlotSet (sender : Station) (seq : BitVec 16) (slot : Byte) (contents : BitVec 16) (s : State) :
    Host.Outcome State Fault Refusal := .next (s.share sender seq (.slotSet slot contents))

/-- SLOT_SENSE (R118). -/
def execSlotSense (sender : Station) (seq : BitVec 16) (presences : SlotSet) (s : State) :
    Host.Outcome State Fault Refusal := .next (s.share sender seq (.slotSense presences))

/-- SNAPSHOT addressed to this station (R86, R87): collected by a JOINING station that has not adopted. -/
def execSnapshot (sender : Station) (part : SnapshotPart) (s : State) : Host.Outcome State Fault Refusal :=
  if !s.receives sender then .next s
  else
    let s := s.heard sender true
    if s.join.st == .joining && s.table.isNone && s.join.logging then .next (s.collect part).finish else .next s

/-- PRESENCE (R57, R63, R80). -/
def execPresence (sender : Station) (fields : PresenceFields) (s : State) : Host.Outcome State Fault Refusal :=
  if s.receives sender then
    .next ((s.heard sender (fields.join != .listening)).presenceRecorded sender fields.standing fields.join).finish
  else .next s

end Sys2Proof.Machine
end

