-- ==== Sys2Proof/Machine/Image.lean ====
section
/-! DEFINITION. The configuration image: reading the memory and the four judgements (R177, Table 13-1), with the ranges
of Tables 1-7, 6-1, 8-2, 9-3, 10-1 and 11-1 and of R73, R103, R111, R20 and R172. -/

namespace Sys2Proof.Machine

open Sys2Proof

/-- The first `n` bytes of the memory; a byte the memory does not hold reads as FFh (R177: an absent or blank memory
returns all ones). -/
def readMemory : Nat → List Byte → List Byte
  | 0, _ => []
  | n + 1, [] => 0xFF#8 :: readMemory n []
  | n + 1, b :: rest => b :: readMemory n rest

/-- One bit of the CRC-32 register with reflected input and output (04C11DB7h reflected is EDB88320h). -/
def crc32Bit (r : BitVec 32) : BitVec 32 := if r.getLsbD 0 then (r >>> 1) ^^^ 0xEDB88320#32 else r >>> 1

/-- One byte of the CRC-32. -/
def crc32Byte (r : BitVec 32) (b : Byte) : BitVec 32 := Nat.repeat crc32Bit 8 (r ^^^ b.setWidth 32)

/-- The CRC-32 of bytes: start FFFFFFFFh, inverted at the end (R177). -/
def crc32 (bytes : List Byte) : BitVec 32 := ~~~ (bytes.foldl crc32Byte 0xFFFFFFFF#32)

/-! ## Sections -/

/-- An axis code (Table 13-1). -/
def axisOf : Nat → Option AxisName
  | 0 => some .x
  | 1 => some .y
  | 2 => some .z
  | _ => none

/-- A code that is 0 or 1. -/
def flagOf : Nat → Option Bool
  | 0 => some false
  | 1 => some true
  | _ => none

/-- An axis's part of the axes and homing sections. -/
def axisConfAt (m : List Byte) (n : Nat) : Option AxisConf :=
  let a := 4 + 23 * n
  let h := 73 + 7 * n
  match flagOf (fieldAt m (a + 2) 1), flagOf (fieldAt m (h + 4) 1) with
  | some negative, some minus =>
    let c : AxisConf :=
      { resolution := wordAt m a, senseNegative := negative, softMin := longAt m (a + 3), softMax := longAt m (a + 7),
        following := longAt m (a + 11), positionGain := wordAt m (a + 15), feedGain := wordAt m (a + 17),
        deceleration := longAt m (a + 19), reference := longAt m h, homeMinus := minus,
        homeFeed := wordAt m (h + 5) }
    if within 1 1000 c.resolution.toNat && within 10 100000 c.following.toNat && within 1 5000 c.homeFeed.toNat
    then some c else none
  | _, _ => none

/-- The three axes. -/
def axesOf (m : List Byte) : Option (Vec3 AxisConf) :=
  match axisConfAt m 0, axisConfAt m 1, axisConfAt m 2 with
  | some x, some y, some z => some ⟨x, y, z⟩
  | _, _, _ => none

/-- The axis order, each axis once. -/
def orderOf (m : List Byte) : Option (List AxisName) :=
  match axisOf (fieldAt m 94 1), axisOf (fieldAt m 95 1), axisOf (fieldAt m 96 1) with
  | some a, some b, some c => if a != b && b != c && a != c then some [a, b, c] else none
  | _, _, _ => none

/-- Geometry of slot `n`. -/
def slotGeomAt (m : List Byte) (n : Nat) : SlotGeom :=
  { approach := pointAt m (103 + 24 * n), dock := pointAt m (115 + 24 * n) }

/-- A list of optional entries, present when each entry is. -/
def allSome {α : Type} : List (Option α) → Option (List α)
  | [] => some []
  | none :: _ => none
  | some a :: rest => (allSome rest).map (a :: ·)

/-- No two entries alike. -/
def distinct {α : Type} [BEq α] : List α → Bool
  | [] => true
  | a :: rest => !rest.contains a && distinct rest

/-- The counted probe definitions, with distinct IDs. -/
def probeDefsOf (m : List Byte) : Option (List ProbeDef) :=
  let count := fieldAt m 362 1
  if count ≤ 8 then
    match allSome ((List.range count).map (fun n => probeDefOf ((m.drop (363 + 21 * n)).take 21))) with
    | some defs => if distinct (defs.map (·.id)) then some defs else none
    | none => none
  else none

/-- A channel; flag bits above bit 1 have no code in Table 13-1 (log 34). -/
def channelAt (m : List Byte) (n : Nat) : Option ChannelConf :=
  let at_ := 531 + 6 * n
  let flags := fieldAt m at_ 1
  if flags ≤ 3 && decide (fieldAt m (at_ + 1) 1 ≤ 4) then
    some
      { enabled := flags % 2 == 1, shared := decide (2 ≤ flags), shift := byteAt m (at_ + 1),
        openAt := wordAt m (at_ + 2), shortAt := wordAt m (at_ + 4) }
  else none

/-- The counted watch pairs. -/
def watchOf (m : List Byte) : Option (List (Byte × Byte)) :=
  let count := fieldAt m 607 1
  if count ≤ 24 then
    let pairs := (List.range count).map (fun n => (byteAt m (608 + 2 * n), byteAt m (609 + 2 * n)))
    if pairs.all (fun p => decide (p.1.toNat ≤ 7 ∧ p.2.toNat ≤ 11)) && distinct pairs then some pairs else none
  else none

/-- A role source from its two bytes: a local channel, or a counted watch pair (R177). -/
def sourceAt (m : List Byte) (watch : List (Byte × Byte)) (at_ : Nat) : Option Source :=
  let a := byteAt m at_
  let b := byteAt m (at_ + 1)
  if a == 0x80 then (if b.toNat ≤ 11 then some (.local b) else none)
  else if watch.contains (a, b) then some (.peer a b) else none

/-- A role; FFh FFh is an absent fallback. -/
def roleAt (m : List Byte) (watch : List (Byte × Byte)) (n : Nat) : Option RoleConf :=
  let at_ := 656 + 4 * n
  match sourceAt m watch at_ with
  | some primary =>
    if wordAt m (at_ + 2) == 0xFFFF then some { primary := primary, fallback := none }
    else (sourceAt m watch (at_ + 2)).map (fun f => { primary := primary, fallback := some f })
  | none => none

/-- The single fields of the image that have a range, tested (R177 judgement 4). -/
def scalarsInRange (m : List Byte) : Bool :=
  within 10000 1000000 (fieldAt m 307 4) && within 1000 500000 (fieldAt m 323 4)
    && within 1 5000 (fieldAt m 345 2) && within 1 5000 (fieldAt m 347 2) && within 1 5000 (fieldAt m 349 2)
    && within 1000 50000 (fieldAt m 351 4) && within 20 500 (fieldAt m 355 2) && within 50 2000 (fieldAt m 357 2)
    && within 50 2000 (fieldAt m 359 2) && within 1 120 (fieldAt m 361 1)
    && within 100 10000 (fieldAt m 603 2) && fieldAt m 603 2 % 100 == 0 && within 10 600 (fieldAt m 605 2)
    && within 1 1000 (fieldAt m 682 2) && within 0 600 (fieldAt m 684 2) && within 10 500 (fieldAt m 687 2)
    && within 1 100000 (fieldAt m 689 4) && within 1 32 (fieldAt m 694 1) && within 10 5000 (fieldAt m 695 2)
    && decide (fieldAt m 697 2 < 4096) && within 0 15 (fieldAt m 699 1) && within 0 3600 (fieldAt m 700 2)

/-- The fields of a memory whose format, length and CRC have passed; none where one leaves its range (R177 judgement 4). -/
def imageFields (m : List Byte) : Option Image :=
  match axesOf m, orderOf m, probeDefsOf m, allSome ((List.range 12).map (channelAt m)), watchOf m,
    flagOf (fieldAt m 686 1), flagOf (fieldAt m 693 1) with
  | some axes, some order, some defs, some channels, some watch, some flag, some auto =>
    match allSome ((List.range 5).map (roleAt m watch)) with
    | some roles =>
      if scalarsInRange m then
        some
          { axes := axes, order := order, homeZones := wordAt m 97, powerOnStanding := wordAt m 99,
            homeStanding := wordAt m 101, rack := (List.range 8).map (slotGeomAt m), sphereCentre := pointAt m 295,
            sphereDiameter := longAt m 307, sphereApproach := pointAt m 311, clearance := longAt m 323,
            park := pointAt m 327, rackCorridor := wordAt m 339, sphereCorridor := wordAt m 341,
            parkCorridor := wordAt m 343, excursionFeed := wordAt m 345, dockFeed := wordAt m 347,
            touchFeed := wordAt m 349, retract := longAt m 351, pulseWidth := wordAt m 355,
            releaseTime := wordAt m 357, seatTime := wordAt m 359, claimTimeout := byteAt m 361, probeDefs := defs,
            channels := channels, cadence := wordAt m 603, ageLimit := wordAt m 605, watch := watch, roles := roles,
            scaleCoeff := ⟨wordAt m 676, wordAt m 678, wordAt m 680⟩, rateLimit := wordAt m 682,
            settleTime := wordAt m 684, policyFlag := flag, band := wordAt m 687, tolerance := longAt m 689,
            autoQualify := auto, reportLevel := byteAt m 694, reportTimeout := wordAt m 695,
            eventMask := wordAt m 697, lowMark := byteAt m 699, soakLimit := wordAt m 700 }
      else none
    | none => none
  | _, _, _, _, _, _, _ => none

/-- The first three judgements: format code, length field, CRC (R177). -/
def imageIntact (m : List Byte) : Bool :=
  wordAt m 0 == 0x5201 && wordAt m 2 == 706 && crc32 (m.take 702) == longAt m 702

/-- The image that a memory holds, when all four judgements pass (R177). -/
def imageOf (memory : List Byte) : Option Image :=
  let m := readMemory 706 memory
  if imageIntact m then imageFields m else none

end Sys2Proof.Machine
end

