-- ==== Sys2Proof/Machine/StartUp.lean ====
section
/-! DEFINITION. COLD_RESET, CONFIG_LOAD_END, RESTART and LEAVE_WAIT_END: start-up and the resets of each chapter's table
(chapter 13, R17, R40, R60, R78, R93, R94, R107, R116, R133, R146, R157, R166, R170, R175). -/

namespace Sys2Proof.Machine

open Sys2Proof

/-! ## Cold reset (R176) -/

/-- An axis channel at cold reset, with the levels of its inputs. -/
def AxisChannel.reset (a : AxisChannel) : AxisChannel := AxisChannel.cold a.minusLimit a.plusLimit a.scaleFault

/-- COLD_RESET (R176): every block at its cold reset values, the straps sampled. The counter of free values, which is no part of the
station, goes on. -/
def execColdReset (straps : Straps) (s : State) : Host.Outcome State Fault Refusal :=
  .next { State.cold straps (vmap (fun _ a => a.reset) s.axes) s.estop s.trig.high s.pending with freeCount := s.freeCount }

/-! ## The end of a load (R177 to R180) -/

/-- The scale position of a count (R1, R17), wrapping. -/
def scaleOf (c : AxisConf) (count : BitVec 32) : Lu :=
  if c.senseNegative then -(count * c.resolution.setWidth 32) else count * c.resolution.setWidth 32

/-- An axis channel when a good image is loaded (R17, R180). -/
def AxisChannel.load (c : AxisConf) (a : AxisChannel) : AxisChannel :=
  let p := scaleOf c a.count
  { a with scale := p, pos := p, setpoint := p }

/-- A probe record of a definition (R95). -/
def ProbeDef.record (d : ProbeDef) : ProbeRecord := { defined := d, qual := .unqualified, data := none, homeSlot := none }

/-- The blocks take a good image (R178). A kind that became pending during the read, while every bit of the mask was set, stays pending
when the image's mask clears its bit: R172 clears such kinds for EVMASK, and R175 and R178 name none for a load (the model's choice,
log 77). -/
def State.takeImage (c : Image) (s : State) : State :=
  { s with
    axes := vmap (fun n a => a.load (vget c.axes n)) s.axes
    arm := { s.arm with standing := c.powerOnStanding }
    probes := c.probeDefs.map ProbeDef.record
    thermal := Thermal.ofImage s.clock c
    cap := { s.cap with level := c.reportLevel, timeout := c.reportTimeout }
    events := { s.events with mask := c.eventMask }
    join := { s.join with window := if s.join.st == .listening then some s.clock else none } }

/-- The blocks without an image, in CONFIG_FAULT (R179). -/
def State.takeNoImage (s : State) : State :=
  { s with
    arm := { s.arm with standing := 0 }
    probes := []
    thermal := Thermal.cold
    cap := { s.cap with level := 0, timeout := 0 }
    events := { s.events with mask := 0x0FFF }
    join := { s.join with window := none } }

/-- The head sensing and the rack host filter start at the end of the first load (R98, R117, R178, R179). -/
def State.startSensing (headHigh : Bool) (slotInputs : SlotSet) (s : State) : State :=
  let s := { s with
    head := { s.head with seated := headHigh }
    mounted := .none
    rack := if s.setup.straps.rackHost then slotInputs else 0 }
  if headHigh then s.requestRead (fun r => { r with forHead := true }) else s

/-- The end of a load, with what it judged (R178 to R180). -/
def State.loadEnded (image : Option Image) (format : BitVec 16) (headHigh : Bool) (slotInputs : SlotSet) (s : State) :
    State :=
  let s := { s with setup := { s.setup with
    load := if image.isSome then .loaded else .fault, image := image, format := format } }
  let s := if s.line.active then s else s.startSensing headHigh slotInputs
  let s := { s with line := { s.line with active := true, presenceTimer := some s.clock } }
  match image with
  | some c => s.takeImage c
  | none => s.takeNoImage

/-- CONFIG_LOAD_END (R177): the memory's contents are judged; the head-present and slot inputs stand as given. -/
def execConfigLoadEnd (memory : List Byte) (headHigh : Bool) (slotInputs : SlotSet) (s : State) :
    Host.Outcome State Fault Refusal :=
  if s.setup.load == .reading then
    .next (s.loadEnded (imageOf memory) (wordAt (readMemory 2 memory) 0) headHigh slotInputs)
  else .next s

/-! ## RESTART (R170, R180) -/

/-- A report unit after RESTART (Table 7-4): the ring is empty, the counter kept. -/
def State.restartCapture (s : State) : State :=
  { s with cap :=
      { ring := [], counter := s.cap.counter, level := s.config.elim 0 (·.reportLevel),
        timeout := s.config.elim 0 (·.reportTimeout), drain := false } }

/-- Every block at its RESTART values (Tables 1-8, 2-6, 3-8, 4-6, 5-4, 6-2, 7-4, 8-4, 9-5, 10-5, 11-2, 12-7). -/
def State.restartBlocks (s : State) : State :=
  let s := if s.arm.shadow then s.leaveShadow else s
  let s := (s.clearStarts.deenergize).restartCapture
  { s with
    lastFault := none
    run := Run.cold
    arm := { s.arm with begun := 0, phys := 0 }
    qual := none
    soak := none
    chg := { s.chg with change := none, stayed := false, parked := false }
    line := { s.line.emptied with presenceTimer := some s.clock }
    table := none
    agent := { current := none, retired := none }
    mounted := match s.mounted with
      | .resolved id => .unresolved (.id id)
      | m => m
    events := { EventSet.cold with mask := s.config.elim 0x0FFF (·.eventMask) } }

/-- A RESTART taken in CONFIG_FAULT (R180): the mailboxes are emptied and the memory is read again. QUIET runs on to its
end. The presence timer is stopped, but an own frame that goes out during the read starts it at its acceptance (R57; that this holds
during the read is the model's choice, log 89). -/
def State.reload (s : State) : State :=
  let s := s.restartBlocks
  { s with
    setup := { s.setup with load := .reading, image := none }
    line := { s.line with presenceTimer := none }
    join := { s.join with window := none } }

/-- RESTART is taken: the arm is OFF or STILL with run NONE, or a stand-alone excursion runs (R170). -/
def State.restartAllowed (s : State) : Bool :=
  s.run.st == .none && (s.arm.st == .off || s.arm.st == .still || !s.run.stack.isEmpty)

/-- A RESTART taken at an ATTACHED station (R93, R170): a stand-alone excursion is aborted as STOP does, then LEAVE is
queued and its wait starts. A waiting pulse request is discarded first (R100). -/
def State.leaveCell (s : State) : State :=
  let s := s.discardWaiting
  let s := if s.run.stack.isEmpty then s else s.stopAll .stopped 0
  let s := s.pushM1 .leave
  { s with join := { s.join with leaveWait := some s.clock } }

/-- RESTART's own test and effect (R170). -/
def State.takeRestart (s : State) : Taken :=
  if s.setup.load == .fault then (s.reload, none)
  else if s.restartAllowed then (s.leaveCell.finish, none)
  else answer .state s

/-- RESTART (R170). -/
def execRestart (sender : Station) (payload : List Byte) (s : State) : Host.Outcome State Fault Refusal :=
  .next (s.command sender 0x2F true (payload.length == 0) State.takeRestart)

/-- The station's own LEAVE is on the line (R93). -/
def State.leaveOnLine (s : State) : Bool :=
  match s.line.tx with
  | some tx =>
    match tx.content with
    | .share .leave _ => true
    | _ => false
  | none => false

/-- The LEAVE has been accepted: its application is to come, or the station's own table shows it ABSENT (R72, R93). -/
def State.leaveAccepted (s : State) : Bool :=
  s.line.awaiting == some .leave ||
    match s.table with
    | some t => (t.entry s.me).state == .absent
    | none => false

/-- The LEAVE wait ends: every block at its RESTART values, and LISTENING with a fresh window (R93). A VETO_LIMIT that came
in the wait leaves QUIET to run on. -/
def State.endLeaveWait (s : State) : State :=
  let s := s.restartBlocks
  if s.join.st == .quiet then { s with join := { s.join with leaveWait := none } }
  else ({ s with join := { s.join with leaveWait := none } }).enterListening

/-- LEAVE_WAIT_END (R93): the LEAVE has been accepted, or 50 ms have passed and it is not on the line. -/
def execLeaveWaitEnd (s : State) : Host.Outcome State Fault Refusal :=
  match s.join.leaveWait with
  | none => .next s
  | some since =>
    if s.leaveOnLine then .next s
    else .next ((if s.leaveAccepted then s else s.reach since 50).endLeaveWait)

end Sys2Proof.Machine
end

