-- ==== Sys2Proof/Machine/ThermalRows.lean ====
section
/-! DEFINITION. The commands of temperatures and points in time: cadence, conversions, scan completion, THERMAL, the soak
limit, and the dwell (R31, R141, R148 to R155, R163). -/

namespace Sys2Proof.Machine

open Sys2Proof

/-- A soak wait ends as the settle state becomes SETTLED: the return begins when the arm may go on (R140, R141, R163). -/
def State.endSoak (s : State) : State :=
  if s.soak.isSome && s.thermal.settled then ({ s with soak := none }).standStill.setTodo .beginReturn else s

/-- A scan completes (R152). -/
def State.completeScan (results : List (Nat × Judged)) (s : State) : State :=
  match s.config with
  | some c => ((s.measure c results).endSoak.afterSettle c).finish
  | none => s

/-- CADENCE_TIMER_EXPIRY (R148): the timer reloads itself; a scan starts when none is in flight, and with no enabled channel
it completes at once. -/
def execCadenceTimerExpiry (s : State) : Host.Outcome State Fault Refusal :=
  match s.config, s.thermal.cadence with
  | some c, some since =>
    let s := s.reach since c.cadence.toNat
    let s := { s with thermal := { s.thermal with cadence := some (since + c.cadence.setWidth 32) } }
    if s.thermal.scan.isSome then .next s
    else
      match enabledChannels c.channels with
      | [] => .next (s.completeScan [])
      | channels => .next { s with thermal := { s.thermal with scan := some { left := channels, results := [] } } }
  | _, _ => .next s

/-- CONVERSION_END (R149): the raw reading is shown at once, and the judged result is held by the scan. -/
def execConversionEnd (reading : Temp) (s : State) : Host.Outcome State Fault Refusal :=
  match s.config, s.thermal.scan with
  | some c, some { left := n :: left, results := results } =>
    let j := (c.channels.getD n ⟨false, false, 0, 0, 0⟩).judge reading
    .next { s with thermal := { s.thermal with
      channels := updateAt (fun ch => { ch with raw := some reading }) n s.thermal.channels
      scan := some { left := left, results := results ++ [(n, j)] } } }
  | _, _ => .next s

/-- SCAN_COMPLETION (R150 to R152): the scan in flight has converted every enabled channel. -/
def execScanCompletion (s : State) : Host.Outcome State Fault Refusal :=
  match s.thermal.scan with
  | some { left := [], results := results } => .next (s.completeScan results)
  | _ => .next s

/-- THERMAL (R153, R154): taken by a station that holds a table, from a station JOINING or ATTACHED in its roster. -/
def execThermal (sender : Station) (payload : List Byte) (s : State) : Host.Outcome State Fault Refusal :=
  if !s.receives sender then .next s
  else
    let s := s.heard sender true
    match s.table with
    | some t =>
      if (t.entry sender).state.inCell then
        .next { s with thermal := { s.thermal with peers := takeThermal s.clock sender payload s.thermal.peers } }
      else .next s
    | none => .next s

/-- SOAK_LIMIT_EXPIRY (R141); a limit of 0 runs no timer. -/
def execSoakLimitExpiry (s : State) : Host.Outcome State Fault Refusal :=
  match s.config, s.soak with
  | some c, some since =>
    if c.soakLimit == 0 then .next s
    else .next ((s.reach since (1000 * c.soakLimit.toNat)).faultStill
      (report .soakTimeout 0 c.soakLimit.toNat)).finish
  | _, _ => .next s

end Sys2Proof.Machine
end

