-- ==== Sys2Proof/Machine/Dispatch.lean ====
section
/-! DEFINITION. One command's effect: one arm per constructor, each a direct call of its meaning. -/

namespace Sys2Proof.Machine

open Sys2Proof

/-- A command's effect on everything but the queue. -/
def exec (i : Instr) (s : State) : Host.Outcome State Fault Refusal :=
  match i with
  | .coldReset straps => Sys2Proof.Machine.execColdReset straps s
  | .configLoadEnd memory headHigh slotInputs => Sys2Proof.Machine.execConfigLoadEnd memory headHigh slotInputs s
  | .scaleStep axis forward => Sys2Proof.Machine.execScaleStep axis forward s
  | .scaleCountFault axis => Sys2Proof.Machine.execScaleCountFault axis s
  | .scaleFaultInput axis => Sys2Proof.Machine.execScaleFaultInput axis s
  | .referenceMark axis => Sys2Proof.Machine.execReferenceMark axis s
  | .seekEnd beyond => Sys2Proof.Machine.execSeekEnd beyond s
  | .hwLimitAsserted axis side => Sys2Proof.Machine.execHwLimitAsserted axis side s
  | .followingError axis since => Sys2Proof.Machine.execFollowingError axis since s
  | .estop => Sys2Proof.Machine.execEstop s
  | .seg sender payload => Sys2Proof.Machine.execSeg sender payload s
  | .go sender payload => Sys2Proof.Machine.execGo sender payload s
  | .hold sender payload => Sys2Proof.Machine.execHold sender payload s
  | .goOn sender payload => Sys2Proof.Machine.execGoOn sender payload s
  | .stop sender payload => Sys2Proof.Machine.execStop sender payload s
  | .home sender payload => Sys2Proof.Machine.execHome sender payload s
  | .drivesOn sender payload => Sys2Proof.Machine.execDrivesOn sender payload s
  | .drivesOff sender payload => Sys2Proof.Machine.execDrivesOff sender payload s
  | .change sender payload => Sys2Proof.Machine.execChange sender payload s
  | .qualify sender payload => Sys2Proof.Machine.execQualify sender payload s
  | .probedef sender payload => Sys2Proof.Machine.execProbedef sender payload s
  | .part sender payload => Sys2Proof.Machine.execPart sender payload s
  | .reportmark sender payload => Sys2Proof.Machine.execReportmark sender payload s
  | .evmask sender payload => Sys2Proof.Machine.execEvmask sender payload s
  | .shadowOn sender payload => Sys2Proof.Machine.execShadowOn sender payload s
  | .shadowOff sender payload => Sys2Proof.Machine.execShadowOff sender payload s
  | .askStatus sender payload => Sys2Proof.Machine.execAskStatus sender payload s
  | .askPosition sender payload => Sys2Proof.Machine.execAskPosition sender payload s
  | .askChannel sender payload => Sys2Proof.Machine.execAskChannel sender payload s
  | .askPeer sender payload => Sys2Proof.Machine.execAskPeer sender payload s
  | .askProbe sender payload => Sys2Proof.Machine.execAskProbe sender payload s
  | .askPoint sender payload => Sys2Proof.Machine.execAskPoint sender payload s
  | .askQueue sender payload => Sys2Proof.Machine.execAskQueue sender payload s
  | .askShare sender payload => Sys2Proof.Machine.execAskShare sender payload s
  | .askIdent sender payload => Sys2Proof.Machine.execAskIdent sender payload s
  | .restart sender payload => Sys2Proof.Machine.execRestart sender payload s
  | .cellStop sender reason => Sys2Proof.Machine.execCellStop sender reason s
  | .lost sender seq stations => Sys2Proof.Machine.execLost sender seq stations s
  | .join sender seq fields => Sys2Proof.Machine.execJoin sender seq fields s
  | .foundingJoin => Sys2Proof.Machine.execFoundingJoin s
  | .observedFoundingJoin sender seq fields => Sys2Proof.Machine.execObservedFoundingJoin sender seq fields s
  | .attach sender seq => Sys2Proof.Machine.execAttach sender seq s
  | .leave sender seq => Sys2Proof.Machine.execLeave sender seq s
  | .claim sender seq items => Sys2Proof.Machine.execClaim sender seq items s
  | .withdraw sender seq => Sys2Proof.Machine.execWithdraw sender seq s
  | .release sender seq items => Sys2Proof.Machine.execRelease sender seq items s
  | .clear sender seq item => Sys2Proof.Machine.execClear sender seq item s
  | .slotSet sender seq slot contents => Sys2Proof.Machine.execSlotSet sender seq slot contents s
  | .slotSense sender seq presences => Sys2Proof.Machine.execSlotSense sender seq presences s
  | .snapshot sender part => Sys2Proof.Machine.execSnapshot sender part s
  | .thermal sender payload => Sys2Proof.Machine.execThermal sender payload s
  | .presence sender fields => Sys2Proof.Machine.execPresence sender fields s
  | .otherFrameAccepted sender => Sys2Proof.Machine.execOtherFrameAccepted sender s
  | .receivedFrameVoid frame => Sys2Proof.Machine.execReceivedFrameVoid frame s
  | .crcVeto => Sys2Proof.Machine.execCrcVeto s
  | .frameAbandoned cause => Sys2Proof.Machine.execFrameAbandoned cause s
  | .frameBegin => Sys2Proof.Machine.execFrameBegin s
  | .arbitrationLost => Sys2Proof.Machine.execArbitrationLost s
  | .arbitrationWon => Sys2Proof.Machine.execArbitrationWon s
  | .bitError => Sys2Proof.Machine.execBitError s
  | .ownFrameAccepted => Sys2Proof.Machine.execOwnFrameAccepted s
  | .ownFrameVoid => Sys2Proof.Machine.execOwnFrameVoid s
  | .presenceTimerExpiry => Sys2Proof.Machine.execPresenceTimerExpiry s
  | .peerSilence peer => Sys2Proof.Machine.execPeerSilence peer s
  | .isolation => Sys2Proof.Machine.execIsolation s
  | .joinWindowExpiry => Sys2Proof.Machine.execJoinWindowExpiry s
  | .joinWaitExpiry => Sys2Proof.Machine.execJoinWaitExpiry s
  | .quietEnd => Sys2Proof.Machine.execQuietEnd s
  | .leaveWaitEnd => Sys2Proof.Machine.execLeaveWaitEnd s
  | .claimTimerExpiry => Sys2Proof.Machine.execClaimTimerExpiry s
  | .reportTimerExpiry => Sys2Proof.Machine.execReportTimerExpiry s
  | .cadenceTimerExpiry => Sys2Proof.Machine.execCadenceTimerExpiry s
  | .conversionEnd reading => Sys2Proof.Machine.execConversionEnd reading s
  | .scanCompletion => Sys2Proof.Machine.execScanCompletion s
  | .soakLimitExpiry => Sys2Proof.Machine.execSoakLimitExpiry s
  | .dwellEnd => Sys2Proof.Machine.execDwellEnd s
  | .triggerEdge high => Sys2Proof.Machine.execTriggerEdge high s
  | .falseTrigger => Sys2Proof.Machine.execFalseTrigger s
  | .contactAccepted => Sys2Proof.Machine.execContactAccepted s
  | .headFilterEnd seated => Sys2Proof.Machine.execHeadFilterEnd seated s
  | .slotFilterEnd slot present => Sys2Proof.Machine.execSlotFilterEnd slot present s
  | .idReadEnd lines => Sys2Proof.Machine.execIdReadEnd lines s
  | .lockPulseEnd => Sys2Proof.Machine.execLockPulseEnd s
  | .releaseTimeExpiry => Sys2Proof.Machine.execReleaseTimeExpiry s
  | .seatTimeExpiry => Sys2Proof.Machine.execSeatTimeExpiry s
  | .travelComplete => Sys2Proof.Machine.execTravelComplete s
  | .controlledStopEnd further => Sys2Proof.Machine.execControlledStopEnd further s
  | .backOffEnd => Sys2Proof.Machine.execBackOffEnd s
  | .excursionArrival => Sys2Proof.Machine.execExcursionArrival s
  | .returnMoveEnd => Sys2Proof.Machine.execReturnMoveEnd s
  | .changeMoveArrival => Sys2Proof.Machine.execChangeMoveArrival s
  | .transferLegEnd => Sys2Proof.Machine.execTransferLegEnd s
  | .estopCleared => Sys2Proof.Machine.execEstopCleared s
  | .scaleFaultCleared axis => Sys2Proof.Machine.execScaleFaultCleared axis s
  | .hwLimitCleared axis side => Sys2Proof.Machine.execHwLimitCleared axis side s
  | .triggerReturnUnasserted high => Sys2Proof.Machine.execTriggerReturnUnasserted high s

end Sys2Proof.Machine
end

