-- ==== Sys2Proof/Machine/Tick.lean ====
section
/-! DEFINITION. One millisecond in which no command arrives: what step does on an empty queue (log 1). The station clock
advances (Table 1-3), a dwell counts (R31), and the setpoints of a travelling arm move along the path (R3). -/

namespace Sys2Proof.Machine

open Sys2Proof

/-- The setpoints are slowing to rest: in a controlled or fast stop, and in a seek past its mark (R14, R32). -/
def State.slowing (m : Motion) (s : State) : Bool := s.arm.stopping.isSome || (m.origin == .seek && s.arm.markMet)

/-- The rates at which a stop decelerates: the axes' configured rates, or, in a fast stop, the highest that the axes allow (R32). -/
def State.stopRates (c : Image) (s : State) : Vec3 (BitVec 32) :=
  vmap (fun axis conf => if s.arm.stopping.any (·.fast) then Config.highestDeceleration axis else conf.deceleration) c.axes

/-- How far the setpoints advance in a millisecond of the motion in progress, in lu: as far as its feed brings them, and in a stop
as far as the deceleration rates let them, which is never farther than in the millisecond before (R3, R14, R32, log 8). -/
def State.advanceOf (m : Motion) (s : State) : Nat :=
  if s.slowing m then
    min m.speed (s.config.elim 0 (fun c => Config.advanceInStop (s.stopRates c) m.speed s.freeCount))
  else m.feedSpeed

/-- A motion that is slowing keeps its last advance, and any other goes at its feed (R32). -/
def Motion.slowTo (slowing : Bool) (advance : Nat) (m : Motion) : Motion :=
  { m with slowed := if slowing then some advance else none }

/-- The setpoints advance along the motion's path. -/
def State.advanceSetpoints (m : Motion) (s : State) : State :=
  let advance := s.advanceOf m
  let moved := s.moveAlong m advance
  { moved with arm := { moved.arm with motion := moved.arm.motion.map (Motion.slowTo (s.slowing m) advance) } }

/-- A dwell counts one millisecond (R31). -/
def Motion.count (m : Motion) : Motion := { m with dwellLeft := m.dwellLeft.map (fun n => if n == 0 then 0 else n - 1) }

/-- One millisecond passes. -/
def State.tick (s : State) : State :=
  let moved := match s.arm.motion with
    | some m => if s.travelling then s.advanceSetpoints m else s
    | none => s
  { moved with
    clock := s.clock + 1
    freeCount := s.freeCount + 1
    arm := { moved.arm with motion := moved.arm.motion.map Motion.count } }

/-! ## Drive demand (R3) -/

/-- The rate at which each setpoint moves: how far it goes in the millisecond that begins, in lu. -/
def State.setpointRates (s : State) : Vec3 Int :=
  vmap (fun a v => (vget s.tick.setpoints a).toInt - v.toInt) s.setpoints

/-- The drive-demand outputs XDMD, YDMD and ZDMD: what each axis's position loop forms from rate, difference and gains while the
drives are ENERGIZED and shadow mode is off (a free value, log 53), and none while the loop is not driven. -/
def State.driveDemands (s : State) : Vec3 (Option Int) :=
  vmap (fun a rate =>
    match s.config with
    | some c =>
      let conf := vget c.axes a
      if s.arm.energized && !s.arm.shadow then
        some (Config.driveDemand conf.positionGain conf.feedGain rate
          ((vget s.axes a).setpoint.toInt - (vget s.axes a).pos.toInt))
      else none
    | none => none) s.setpointRates

end Sys2Proof.Machine
end

