-- ==== Sys2Proof/WellFormed.lean ====
section
/-! DEFINITION. Which commands can reach the block: frames pass the header check of R44, each row of one command kind carries
the argument that tells it from its sisters, a snapshot part has the shape of Table 5-3. The machine itself accepts every
term; a command that is not well formed names an event that the line or the pins cannot bring. -/

namespace Sys2Proof

open Sys2Proof.Machine

/-- A payload that the header check lets through for a kind (Table 3-3). -/
def payloadAllowed (kind : Nat) (payload : List Byte) : Bool := lengthAllowed kind payload.length

/-- An ASK row carries its own view byte, or one that no row has, which is answered BAD (Tables 12-2 and 12-5). -/
def askOf (view : Nat) (payload : List Byte) : Bool :=
  payloadAllowed 0x2E payload && (fieldAt payload 0 1 == view || decide (8 < fieldAt payload 0 1))

/-- A DRIVES or SHADOW row carries its own argument, or one that neither row has, which is answered BAD (Table 12-2). -/
def switchOf (kind : Nat) (on : Bool) (payload : List Byte) : Bool :=
  payloadAllowed kind payload && payload != [if on then 0#8 else 1#8]

/-- A part has the shape of Table 5-3. -/
def partShape : PartBody → Bool
  | .roster _ entries => entries.length == 8
  | .zonesLow holders => holders.length == 8
  | .zonesHigh holders => holders.length == 8
  | .slots holders slots => holders.length == 8 && slots.length == 8
  | .claims entries => decide (entries.length ≤ 8)

/-- A cause of abandonment that R44 gives. -/
def causeHolds : AbandonCause → Bool
  | .stuffViolation => true
  | .header h => headerMalformed h

/-- A command that can reach the block. -/
def Instr.wellFormed : Instr → Bool
  | .seg _ p => payloadAllowed 0x20 p
  | .go _ p => payloadAllowed 0x21 p
  | .hold _ p => payloadAllowed 0x22 p
  | .goOn _ p => payloadAllowed 0x23 p
  | .stop _ p => payloadAllowed 0x24 p
  | .home _ p => payloadAllowed 0x25 p
  | .drivesOn _ p => switchOf 0x26 true p
  | .drivesOff _ p => switchOf 0x26 false p
  | .change _ p => payloadAllowed 0x27 p
  | .qualify _ p => payloadAllowed 0x28 p
  | .probedef _ p => payloadAllowed 0x29 p
  | .part _ p => payloadAllowed 0x2A p
  | .reportmark _ p => payloadAllowed 0x2B p
  | .evmask _ p => payloadAllowed 0x2C p
  | .shadowOn _ p => switchOf 0x2D true p
  | .shadowOff _ p => switchOf 0x2D false p
  | .askStatus _ p => askOf 0 p
  | .askPosition _ p => askOf 1 p
  | .askChannel _ p => askOf 2 p
  | .askPeer _ p => askOf 3 p
  | .askProbe _ p => askOf 4 p
  | .askPoint _ p => askOf 5 p
  | .askQueue _ p => askOf 6 p
  | .askShare _ p => askOf 7 p
  | .askIdent _ p => askOf 8 p
  | .restart _ p => payloadAllowed 0x2F p
  | .thermal _ p => payloadAllowed 0x39 p
  | .snapshot _ sent => partShape sent.body
  | .observedFoundingJoin _ _ fields => fields.founding
  | .receivedFrameVoid f => !headerMalformed f.header && f.shown.isSome == (f.header.kind.toNat == presenceKind)
  | .frameAbandoned cause => causeHolds cause
  | _ => true

end Sys2Proof
end

