-- ==== Sys2Proof/Safety.lean ====
section
/-! DEFINITION. What the statements speak of: a step that goes on, a command that reaches its own tests, and the invariants
that every step keeps. -/

namespace Sys2Proof

open Sys2Proof.Machine

/-- What a row of the command frames says before its own tests (Table 12-2): sender, kind code, whether CONFIG_FAULT takes it,
whether its payload has its length and argument. -/
structure CommandHeader where
  sender : Station
  kind : Nat
  inFault : Bool
  lengthOk : Bool
  deriving DecidableEq, Repr

/-- The header of a command frame; none for the other rows. -/
def Instr.header : Instr → Option CommandHeader
  | .seg n _ => some ⟨n, 0x20, false, true⟩
  | .go n p => some ⟨n, 0x21, false, p.length == 0⟩
  | .hold n p => some ⟨n, 0x22, false, p.length == 0⟩
  | .goOn n p => some ⟨n, 0x23, false, p.length == 0⟩
  | .stop n p => some ⟨n, 0x24, false, p.length == 0⟩
  | .home n p => some ⟨n, 0x25, false, p.length == 0⟩
  | .drivesOn n p => some ⟨n, 0x26, false, p == [1#8]⟩
  | .drivesOff n p => some ⟨n, 0x26, false, p == [0#8]⟩
  | .change n p => some ⟨n, 0x27, false, p.length == 2⟩
  | .qualify n p => some ⟨n, 0x28, false, p.length == 0⟩
  | .probedef n p => some ⟨n, 0x29, false, p.length == 21⟩
  | .part n p => some ⟨n, 0x2A, false, p.length == 14⟩
  | .reportmark n p => some ⟨n, 0x2B, false, p.length == 3⟩
  | .evmask n p => some ⟨n, 0x2C, false, p.length == 2⟩
  | .shadowOn n p => some ⟨n, 0x2D, false, p == [1#8]⟩
  | .shadowOff n p => some ⟨n, 0x2D, false, p == [0#8]⟩
  | .askStatus n p => some ⟨n, 0x2E, true, p.length == 4⟩
  | .askPosition n p => some ⟨n, 0x2E, true, p.length == 4⟩
  | .askChannel n p => some ⟨n, 0x2E, true, p.length == 4⟩
  | .askPeer n p => some ⟨n, 0x2E, true, p.length == 4⟩
  | .askProbe n p => some ⟨n, 0x2E, true, p.length == 4⟩
  | .askPoint n p => some ⟨n, 0x2E, true, p.length == 4⟩
  | .askQueue n p => some ⟨n, 0x2E, true, p.length == 4⟩
  | .askShare n p => some ⟨n, 0x2E, true, p.length == 4⟩
  | .askIdent n p => some ⟨n, 0x2E, true, p.length == 4⟩
  | .restart n p => some ⟨n, 0x2F, true, p.length == 0⟩
  | _ => none

/-- The sender, Sequence field and payload of a share frame's row; none for the other rows. -/
def Instr.shareFrame : Instr → Option (Station × BitVec 16 × ShareFrame)
  | .lost n q stations => some (n, q, .lost stations)
  | .join n q fields => some (n, q, .join fields)
  | .observedFoundingJoin n q fields => some (n, q, .join { fields with founding := true })
  | .attach n q => some (n, q, .attach)
  | .leave n q => some (n, q, .leave)
  | .claim n q items => some (n, q, .claim items)
  | .withdraw n q => some (n, q, .withdraw)
  | .release n q items => some (n, q, .release items)
  | .clear n q item => some (n, q, .clear item)
  | .slotSet n q slot contents => some (n, q, .slotSet slot contents)
  | .slotSense n q presences => some (n, q, .slotSense presences)
  | _ => none

/-- The two rows of a start: the cold reset and the end of a load. -/
def Instr.starts : Instr → Bool
  | .coldReset _ => true
  | .configLoadEnd _ _ _ => true
  | _ => false

/-- The rows in which an axis's scale counts or one of its input levels changes. -/
def Instr.movesAxisInput : Instr → Bool
  | .scaleStep _ _ => true
  | .scaleFaultInput _ => true
  | .scaleFaultCleared _ => true
  | .hwLimitAsserted _ _ => true
  | .hwLimitCleared _ _ => true
  | _ => false

/-- The rows in which the trigger input changes its level. -/
def Instr.movesTrigger : Instr → Bool
  | .triggerEdge _ => true
  | .triggerReturnUnasserted _ => true
  | .falseTrigger => true
  | _ => false

/-- The rows that stand for the moment a time is reached (log 2). -/
def Instr.isExpiry : Instr → Bool
  | .presenceTimerExpiry => true
  | .peerSilence _ => true
  | .isolation => true
  | .joinWindowExpiry => true
  | .joinWaitExpiry => true
  | .quietEnd => true
  | .leaveWaitEnd => true
  | .claimTimerExpiry => true
  | .reportTimerExpiry => true
  | .cadenceTimerExpiry => true
  | .soakLimitExpiry => true
  | .releaseTimeExpiry => true
  | .seatTimeExpiry => true
  | _ => false

end Sys2Proof

namespace Sys2Proof.Machine

open Sys2Proof

/-- A step goes on. -/
def State.goesOn (s : State) : Bool :=
  match step s with
  | .next _ => true
  | _ => false

/-- A command from this sender reaches its own tests: the line is followed, M3 is empty, a good image is loaded, no LEAVE
waits, and the sender is an ATTACHED planner of the station's roster while the station is ATTACHED (R55, R167). -/
def State.listensTo (sender : Station) (s : State) : Bool :=
  s.receives sender && s.line.m3.isNone && s.setup.load == .loaded && s.join.leaveWait.isNone && s.fromPlanner sender

/-- M1 of `u` is that of `s` with a RELEASE of the items queued: merged into a RELEASE at its tail that is not on the line, appended
otherwise where a place is left; an empty set queues nothing (R53). -/
def State.releases (items : ItemSet) (s u : State) : Prop :=
  let merges (front : List M1Entry) (waiting : ItemSet) : Prop :=
    s.line.m1 = front ++ [.release waiting] ∧ (front ≠ [] ∨ s.m1OnLine = false)
  (items = 0 → u.line.m1 = s.line.m1) ∧
  (items ≠ 0 →
    (∀ front waiting, merges front waiting → u.line.m1 = front ++ [.release (waiting ||| items)]) ∧
    ((∀ front waiting, ¬ merges front waiting) → s.line.m1.length < 8 → u.line.m1 = s.line.m1 ++ [.release items]))

/-- The zones that the station holds outside a zone set, as items. -/
def State.heldOutside (zones : ZoneSet) (s : State) : ItemSet := zoneItems (itemZones s.held &&& ~~~ zones)

/-! ## Invariants -/

/-- While the drives are DE_ENERGIZED the arm is OFF with no motion and no stop, and each setpoint equals its position; an
arm whose drives are ENERGIZED is not OFF (Table 2-4, R3, R10). -/
def State.drivesHold (s : State) : Prop :=
  (s.arm.st = .off ↔ s.arm.energized = false) ∧
  (s.arm.energized = false → s.arm.motion = none ∧ s.arm.stopping = none ∧ s.setpoints = s.positions)

/-- No mailbox, queue, stack or log outgrows its places: M1 8, M2 5, POINTS 2, queue 16, excursion stack 3, probe records 8,
capture ring 64, pending log 32, presence records 64, the list of claims 8 in the table, in a founding image and in the
snapshot parts held; the event set has its twelve kinds; and the commands that wait are well formed (R53, R54, R112, R18, R135,
R96, R109, R86, R65, R172). -/
def State.bounded (s : State) : Prop :=
  s.line.m1.length ≤ 8 ∧ s.line.m2.length ≤ 5 ∧ s.line.points ≤ 2 ∧ s.run.queue.length ≤ 16 ∧ s.run.stack.length ≤ 3 ∧
  s.probes.length ≤ 8 ∧ s.cap.ring.length ≤ 64 ∧ s.join.log.length ≤ 32 ∧ s.join.presences.length ≤ 64 ∧
  s.events.slots.length = 12 ∧ (∀ t, s.table = some t → t.claims.length ≤ 8) ∧
  (∀ t, s.join.image = some t → t.claims.length ≤ 8) ∧ (∀ part ∈ s.join.parts, partShape part.body = true) ∧
  ∀ c ∈ s.pending, c.wellFormed = true

/-- A station is LOADED exactly with an image, and the image is one that passed the four judgements of a load (R177, R178). -/
def State.imageJudged (s : State) : Prop :=
  (s.setup.load = .loaded ↔ s.setup.image.isSome = true) ∧
  ∀ c, s.setup.image = some c → ∃ memory, imageOf memory = some c

/-- An axis's scale count and the levels of its inputs (sections 1.2 and 1.3). -/
def AxisChannel.inputs (a : AxisChannel) : BitVec 32 × Bool × Bool × Bool :=
  (a.count, a.minusLimit, a.plusLimit, a.scaleFault)

/-! ## Table contents -/

/-- A table has its eight roster entries, 24 item holders and eight slot records (Table 4-1). -/
def Table.wellShaped (t : Table) : Prop := t.roster.length = 8 ∧ t.holders.length = 24 ∧ t.slots.length = 8

/-- No entry of the list is grantable (R66). -/
def Table.nothingGrantable (t : Table) : Prop :=
  ∀ (before after : List ClaimEntry) (e : ClaimEntry), t.claims = before ++ e :: after → t.grantable before e = false

/-- A table without what is no part of its content: the clock values noted beside the list, and the answering station that
stands beside it (R61, R65). -/
def Table.content (t : Table) : Table :=
  { t with claims := t.claims.map (fun e => { e with noted := 0 }), answering := none }

end Sys2Proof.Machine
end

