-- ==== Sys2Proof/Certificates/Slice0/Obligations.lean ====
section
/-! DEFINITION. The statements of the row, chapter by chapter. `finish` ends a command's own effects: the arm goes on with what
it may start (R26), and a detach that a ninth M1 entry caused is carried out (R53); what it does is stated by itself below. -/

open Sys2Proof Sys2Proof.Machine

/-! ## The queue of commands -/

/-- A step takes the command at the front of the queue and runs it on the state with the queue's rest. -/
def Obligations.StepRunsTheFrontCommand : Prop :=
  ∀ (c : Instr) (rest : List Instr) (s : State), step { s with pending := c :: rest } = exec c { s with pending := rest }

/-- On an empty queue a millisecond passes (the model's choice, log 1): the clock advances by one, a dwell counts, and while the
arm travels its setpoints go on along the motion's path at its feed, a seek's on its axis alone in the homing direction; in a stop they
stay on the path, and go no farther than in the millisecond before, a free distance formed with the axes' deceleration rates, or in
a fast stop with the highest that the axes allow (log 8); each axis stays as it is but for its setpoint, and for its position where shadow mode has that follow. At the end of a
command (`finish`) the arm starts what it may (as many starts as it has: log 42). An ACTIVE run takes its head segment: with its
items held a MOVE or PROBE passes the gates to its travel, or fails with UNREF_AXIS, NO_PROBE, PROBE_DEFLECTED or LIMIT, or waits in
RING_WAIT; with items missing the arm is CLAIMING with its claim, and the grant, once told, lets the start go on. A detach that
a ninth M1 entry makes due is carried out, with nothing more started (log 15). An arm with nothing to start does nothing. -/
def Obligations.TimePassesAndCommandsEnd : Prop :=
  (∀ s : State, s.pending = [] → ∃ t : State, step s = .next t ∧ t.clock = s.clock + 1 ∧
    { t with clock := s.clock, freeCount := s.freeCount, axes := s.axes, arm := s.arm } = s ∧
    { t.arm with motion := s.arm.motion } = s.arm ∧
    (∀ a, { vget t.axes a with setpoint := (vget s.axes a).setpoint, pos := (vget s.axes a).pos } = vget s.axes a ∧
      (s.arm.shadow = false → (vget t.axes a).pos = (vget s.axes a).pos) ∧
      (∀ m, s.arm.shadow = true → s.travelling = true → s.arm.motion = some m → m.target ≠ none →
        (∀ b, m.act ≠ .seek b) → (vget t.axes a).pos = (vget t.axes a).setpoint)) ∧
    (s.travelling = false → t.axes = s.axes ∧ t.arm.motion = s.arm.motion.map Motion.count) ∧
    (∀ m, s.arm.motion = some m → ∃ m', t.arm.motion = some m' ∧
      { m' with gone := m.gone, slowed := m.slowed, dwellLeft := m.dwellLeft } = m ∧ (m.dwellLeft = none → m'.dwellLeft = none) ∧
      (∀ left, m.dwellLeft = some left → m'.dwellLeft = some (if left = 0 then 0 else left - 1))) ∧
    (∀ m target feed, s.travelling = true → s.arm.motion = some m → s.arm.stopping = none → m.origin ≠ .seek →
      (∀ a, m.act ≠ .seek a) → m.target = some target → m.feed = some feed →
      (m.gone * m.gone < pathSquare m.startedAt target →
        t.setpoints = placeOnPath m.startedAt target (m.gone + feed.toNat)) ∧
      (pathSquare m.startedAt target ≤ m.gone * m.gone → t.setpoints = target)) ∧
    (∀ m c, s.travelling = true → s.arm.motion = some m → s.config = some c →
      s.arm.stopping ≠ none ∨ (m.origin = .seek ∧ s.arm.markMet = true) →
      let fast := s.arm.stopping.any (·.fast)
      let rates := vmap (fun a conf => if fast then Config.highestDeceleration a else conf.deceleration) c.axes
      let advance := min m.speed (Config.advanceInStop rates m.speed s.freeCount)
      (∀ m', t.arm.motion = some m' → m'.speed = advance ∧ m'.speed ≤ m.speed) ∧
      (∀ target, (∀ a, m.act ≠ .seek a) → m.target = some target → m.gone * m.gone < pathSquare m.startedAt target →
        t.setpoints = placeOnPath m.startedAt target (m.gone + advance)) ∧
      (∀ axis, m.act = .seek axis →
        (vget t.axes axis).setpoint = seekPlace (vget c.axes axis) (vget s.axes axis).setpoint advance ∧
        ∀ b, b ≠ axis → (vget t.axes b).setpoint = (vget s.axes b).setpoint)) ∧
    (∀ m axis c feed, s.travelling = true → s.arm.motion = some m → s.arm.stopping = none → s.arm.markMet = false →
      m.act = .seek axis → m.feed = some feed → s.config = some c →
      (vget t.axes axis).setpoint = seekPlace (vget c.axes axis) (vget s.axes axis).setpoint feed.toNat ∧
      ∀ b, b ≠ axis → (vget t.axes b).setpoint = (vget s.axes b).setpoint)) ∧
  (∀ s : State,
    (s.detachDue = none → (s.arm.st ≠ .still ∨
      (s.arm.todo = none ∧ s.chg.parked = false ∧ (s.run.queue = [] ∨ s.run.st ≠ .active))) → s.finish = s) ∧
    (∀ cause, s.detachDue = some cause → s.finish = ({ s with detachDue := none } : State).detach cause) ∧
    (∀ cause, s.settle.detachDue = some cause →
      s.finish = ({ s.settle with detachDue := none } : State).detach cause) ∧
    (∀ e, 8 ≤ s.line.m1.length → s.detachDue = none → s.pushM1 e = { s with detachDue := some .mailboxFull }) ∧
    s.finish.pending = s.pending ∧ s.finish.setup = s.setup ∧ s.finish.clock = s.clock ∧ s.finish.estop = s.estop ∧
    s.finish.part = s.part ∧ s.finish.rack = s.rack ∧
    (s.settle.detachDue = none → s.finish.table = s.table ∧ s.finish.join = s.join ∧ s.finish.thermal = s.thermal) ∧
    (∀ r t, r ≠ .lookahead → r ≠ .conflict → s.arm.st = .claiming → s.arm.todo = some t →
      s.claimTold (some r) = { s with arm := { s.arm with st := .still, itemsHeld := true } })) ∧
  ∀ (s : State) (seg : Segment) (t : TravelSpec), s.detachDue = none → s.arm.st = .still → s.run.st = .active →
    s.line.m1.length < 8 → s.join.st = .attached → s.agent.current = none → s.chg.change = none → s.chg.parked = false →
    let u := s.finish
    let travels (probing : Bool) : Prop := u.arm.st = .moving ∧ u.run.current = some seg ∧ u.arm.todo = none ∧
      u.axes = s.axes ∧ u.arm.begun = s.arm.begun ||| t.need ∧ u.arm.motion.map (fun m =>
        (m.act, m.origin, m.startedAt, m.target, m.feed, m.required, m.probing)) =
          some (.travel, .segment, s.positions, some t.target, some t.feed, t.need, probing)
    let fails (code : FaultCode) : Prop := u.lastFault = some code ∧ u.run.st = .none ∧ u.arm.motion = none ∧
      u.arm.todo = none ∧ u.arm.standing = s.arm.standing ||| s.arm.begun
    let probes : Prop := s.mountedDetail = none ∧ (∃ r, s.mountedRecord = some r ∧ r.qual = .qualified) ∧
      s.mustSoak = false
    (∀ rest missOk, s.run.queue = seg :: rest → s.run.stack = [] → s.run.current = none → s.arm.todo = none →
      seg.body = .move t ∨ seg.body = .probe missOk t →
      (s.missing (zoneItems t.need ||| zoneItems s.keep) ≠ 0 →
        u.arm.st = .claiming ∧ u.arm.todo = some .segment ∧ u.run.current = some seg ∧ u.run.queue = rest ∧
        u.axes = s.axes ∧ u.line.m1 = s.line.m1 ++
          [.claim (s.missing (zoneItems t.need ||| zoneItems s.keep)) s.agent.formed] ∧
        u.agent.current.map (fun k => (k.requester, k.wanted, k.items, k.phase)) = some (.motion,
          zoneItems t.need ||| zoneItems s.keep, s.missing (zoneItems t.need ||| zoneItems s.keep), .queued) ∧
        (s.events.mask.getLsbD 7 = true → s.events.slots.length = 12 → ∃ slot, u.events.slots[7]? = some slot ∧
          slot.pending = some (.claimWait (s.missing (zoneItems t.need ||| zoneItems s.keep))))) ∧
      (s.missing (zoneItems t.need ||| zoneItems s.keep) = 0 →
        (s.unreferenced ≠ none → fails .unrefAxis) ∧
        (s.unreferenced = none →
          (seg.body = .move t → s.limitCheck t.target = none → travels false ∧ u.run.queue = rest) ∧
          (seg.body = .move t → s.limitCheck t.target ≠ none → fails .limit ∧ u.arm.energized = false) ∧
          (seg.body = .probe missOk t → s.mountedDetail ≠ none → fails .noProbe) ∧
          (seg.body = .probe missOk t → probes → 64 ≤ s.cap.ring.length →
            u.arm.st = .ringWait ∧ u.arm.todo = some .segmentPastRing ∧ u.run.current = some seg ∧ u.axes = s.axes) ∧
          (seg.body = .probe missOk t → probes → s.cap.ring.length < 64 →
            (s.blockedByTrigger = true → fails .probeDeflected) ∧
            (s.blockedByTrigger = false → s.limitCheck t.target = none → travels true ∧ u.run.queue = rest))))) ∧
    (s.run.current = some seg → seg.body = .move t → s.arm.todo = some .segment → s.arm.itemsHeld = true →
      s.unreferenced = none → s.limitCheck t.target = none → travels false) ∧
    (∀ rest ms, s.run.queue = seg :: rest → s.run.stack = [] → s.run.current = none → s.arm.todo = none →
      seg.body = .dwell ms → s.missing (zoneItems s.keep) = 0 →
      u.arm.st = .moving ∧ u.run.current = some seg ∧ u.run.queue = rest ∧ u.axes = s.axes ∧
        u.arm.motion.map (fun m => (m.act, m.target, m.dwellLeft)) = some (.dwell, none, some ms))

/-! ## What the units compute (chapters 6, 9, 10, 11) -/

/-- What the units compute. A length is rounded once to the nearest lu, halves away from zero (a result outside the range of a
length is free: log 9). After touch 5 the qualification unit judges radius, then roundness, then the ARM value, by QUAL_FAIL (the sign
of its value is the model's reading: log 39) or QUAL_NOTEMP with the record as it stands; a passing result is stored with that ARM value, QUALIFIED, and QUAL_END tells DONE and
the radius; in shadow mode it tells SIMULATED and nothing is stored. A role's value is its primary source's when that is usable,
otherwise its fallback's. Each coordinate of a tip centre is corrected by its scale role, then by the PART role about the datum;
a role that is NONE leaves its term out and sets UNCORRECTED. A scan completion judges the settle state on its role table, with
the SETTLE event at a change, then makes the mounted probe's record STALE beyond the band. After each
application a RESOLVED probe that a slot names is UNRESOLVED, and an UNRESOLVED identity that no slot names is RESOLVED at an
ATTACHED station. -/
def Obligations.MeasurementsFollowTheirFormulas : Prop :=
  (∀ (v : Int) (d : Nat), 0 < d → 2 * (roundDiv v d * d - v).natAbs ≤ d ∧
    (2 * (roundDiv v d * d - v).natAbs = d → v.natAbs < (roundDiv v d * d).natAbs)) ∧
  (∀ v : Int, -2147483648 ≤ v → v ≤ 2147483647 → (toLu v).toInt = v) ∧
  (∀ (c : Image) (m : Motion) (q : Qualification) (p : ProbeRecord) (ax bx ay by_ cz : Lu) (s : State), s.config = some c →
    s.arm.st = .moving → s.arm.stopping = none → s.arm.motion = some m → m.act = .backOff → m.thenHeld = false →
    s.run.stack ≠ [] → s.chg.change = none → s.qual = some q → q.touch = 5 → s.probe q.id = some p →
    let d : Int := c.sphereDiameter.toNat
    let twoRx : Int := bx.toInt - ax.toInt - d
    let twoRy : Int := by_.toInt - ay.toInt - d
    let beyond : Int := twoRx + twoRy - 4 * p.defined.radius.toInt
    let radius : Lu := toLu (roundDiv (twoRx + twoRy) 4)
    let offset : Vec3 Lu := ⟨toLu (roundDiv (2 * c.sphereCentre.x.toInt - (ax.toInt + bx.toInt)) 2),
      toLu (roundDiv (2 * c.sphereCentre.y.toInt - (ay.toInt + by_.toInt)) 2),
      toLu (roundDiv (4 * c.sphereCentre.z.toInt + 2 * d + (twoRx + twoRy) - 4 * cz.toInt) 4)⟩
    let fails (code : FaultCode) (detail : Byte) (value : BitVec 32) : Prop := ∃ u : State,
      exec .backOffEnd s = .next u.finish ∧ u.lastFault = some code ∧ u.probe q.id = some p ∧ u.run.stack = [] ∧
      u.run.st = .none ∧ (s.events.mask.getLsbD 0 = true → s.events.slots.length = 12 → ∃ slot position,
        u.events.slots[0]? = some slot ∧ slot.pending = some (.fault ⟨code, detail, value⟩ position))
    (s.arm.shadow = true → ∃ u : State, exec .backOffEnd s = .next u.finish ∧ u.probes = s.probes ∧
      u.arm.todo = some .beginReturn ∧ (s.events.mask.getLsbD 3 = true → s.events.slots.length = 12 →
        ∃ slot, u.events.slots[3]? = some slot ∧ slot.pending = some (.qualEnd .simulated 0))) ∧
    (s.arm.shadow = false → q.results = [ax, bx, ay, by_] → q.latched = some cz →
      (4 * c.tolerance.toNat < beyond.natAbs → fails .qualFail 0 (toLu (roundDiv beyond 4))) ∧
      (beyond.natAbs ≤ 4 * c.tolerance.toNat →
        (2 * c.tolerance.toNat < (twoRx - twoRy).natAbs → fails .qualFail 1 (toLu (roundDiv (twoRx - twoRy) 2))) ∧
        ((twoRx - twoRy).natAbs ≤ 2 * c.tolerance.toNat →
          (s.armNow = none → fails .qualNoTemp 0 0) ∧
          (∀ temp, s.armNow = some temp → ∃ u : State, exec .backOffEnd s = .next u.finish ∧ u.run = s.run ∧
            u.arm.todo = some .beginReturn ∧
            u.probe q.id = some { p with qual := .qualified, data := some { offset := offset, radius := radius, temp := temp } } ∧
            (s.events.mask.getLsbD 3 = true → s.events.slots.length = 12 → ∃ slot, u.events.slots[3]? = some slot ∧
              slot.pending = some (.qualEnd .done radius))))))) ∧
  (∀ (t : Thermal) (r : RoleConf) (st : ChannelState) (v rate : Option Temp),
    (sourceReading t r.primary = (st, v, rate) →
      (st = .fresh → resolveRole t r = ⟨v, .good, rate⟩) ∧ (st = .subst → resolveRole t r = ⟨v, .degraded, rate⟩)) ∧
    ((sourceReading t r.primary).1 ≠ .fresh → (sourceReading t r.primary).1 ≠ .subst →
      (∀ source, r.fallback = some source → sourceReading t source = (st, v, rate) →
        resolveRole t r = if st = .fresh ∨ st = .subst then ⟨v, .degraded, rate⟩ else ⟨none, .none, none⟩) ∧
      (r.fallback = none → resolveRole t r = ⟨none, .none, none⟩))) ∧
  (∀ (c : Image) (part : PartData) (sx sy sz p arm : RoleValue) (tip : Vec3 Lu) (a : AxisName) (settled shadow : Bool),
    let roles := [sx, sy, sz, p, arm]
    let scale : RoleValue := vget ⟨sx, sy, sz⟩ a
    let tipA : Int := (vget tip a).toInt
    let q10 : Int := tipA * 10 ^ 10 + scale.value.elim 0 (fun t => tipA * (vget c.scaleCoeff a).toNat * (t.toInt - 2000))
    let p20 : Int := q10 * 10 ^ 10 - p.value.elim 0 (fun t =>
      (q10 - (vget part.datum a).toInt * 10 ^ 10) * part.coeff.toNat * (t.toInt - 2000))
    let flags := correctionFlags part roles settled shadow
    vget (correctPoint c part roles tip) a = toLu (roundDiv p20 (10 ^ 20)) ∧
    (flags.uncorrected = true ↔
      sx.value = none ∨ sy.value = none ∨ sz.value = none ∨ (part.coeff ≠ 0 ∧ p.value = none)) ∧
    (flags.degraded = true ↔ sx.quality = .degraded ∨ sy.quality = .degraded ∨ sz.quality = .degraded ∨
      (part.coeff ≠ 0 ∧ p.quality = .degraded)) ∧
    flags.unsettled = !settled ∧ flags.shadow = shadow) ∧
  (∀ (c : Image) (results : List (Nat × Judged)) (s : State), s.config = some c →
    s.thermal.scan = some { left := [], results := results } →
    ∃ u : State, exec .scanCompletion s = .next u.finish ∧
      let bad : Prop := ∃ r ∈ u.thermal.roles, r.value = none ∨ r.rate = none ∨
        ∃ rate, r.rate = some rate ∧ c.rateLimit.toNat < rate.toInt.natAbs
      (bad → u.thermal.steadySince = none ∧ u.thermal.settled = false) ∧
      (¬ bad → s.thermal.steadySince = none → u.thermal.steadySince = some s.clock ∧
        (u.thermal.settled = true ↔ s.thermal.settled = true ∨ c.settleTime = 0)) ∧
      (∀ since, ¬ bad → s.thermal.steadySince = some since → u.thermal.steadySince = some since ∧
        (u.thermal.settled = true ↔ s.thermal.settled = true ∨ 1000 * c.settleTime.toNat ≤ (s.clock - since).toNat)) ∧
      (u.thermal.settled ≠ s.thermal.settled → s.events.mask.getLsbD 8 = true → s.events.slots.length = 12 →
        ∃ slot, u.events.slots[8]? = some slot ∧ slot.pending = some (.settle u.thermal.settled)) ∧
      (u.thermal.settled = s.thermal.settled → u.events = s.events) ∧
      ∀ id r, s.mounted.id = some id → s.probe id = some r →
        (∀ d v, r.qual = .qualified → r.data = some d → (roleAtIndex u.thermal.roles 4).value = some v →
          u.probe id = some (if c.band.toNat < (v.toInt - d.temp.toInt).natAbs then { r with qual := .stale } else r)) ∧
        (r.qual ≠ .qualified ∨ (roleAtIndex u.thermal.roles 4).value = none → u.probe id = some r)) ∧
  (∀ (t : Table) (attached : Bool) (id : ProbeId),
    let named : Prop := ∃ r ∈ t.slots, r.contents = .probe id
    mountedAfter t attached .none = .none ∧
    mountedAfter t attached (.unresolved .unreadable) = .unresolved .unreadable ∧
    (named → mountedAfter t attached (.resolved id) = .unresolved (.id id) ∧
      mountedAfter t attached (.unresolved (.id id)) = .unresolved (.id id)) ∧
    (¬ named → mountedAfter t attached (.resolved id) = .resolved id ∧
      mountedAfter t attached (.unresolved (.id id)) = if attached then .resolved id else .unresolved (.id id))) ∧
  ∀ (c : Instr) (p : Station) (q : BitVec 16) (f : ShareFrame) (tbl : Table) (s : State),
    c.shareFrame = some (p, q, f) → s.table = some tbl → p ≠ s.me → s.line.active = true → q = tbl.seq + 1 →
    (∀ stations, f = .lost stations → stations.getLsbD s.me.val = false) → s.chg.change = none → s.chg.closing = [] →
    ∃ u : State, exec c s = .next u.finish ∧
      u.mounted = mountedAfter (tbl.apply p f s.clock).table (s.join.st == .attached) s.mounted

/-! ## What commands leave alone -/

/-- What the commands leave alone. No command touches the queue behind it; and but for the two rows of a start, a command
leaves alone: start-up (RESTART apart), the part data (PART apart), the rack presences, the ESTOP input, the trigger level, the
head's seated state and the axes' counts and input levels (the rows of those inputs apart), and the clock (the expiry rows
apart, log 2). -/
def Obligations.CommandsLeaveOtherBlocksAlone : Prop :=
  ∀ (c : Instr) (s t : State), exec c s = .next t →
    t.pending = s.pending ∧
    (c.starts = false →
      ((∀ p q, c ≠ .restart p q) → t.setup = s.setup) ∧
      ((∀ p q, c ≠ .part p q) → t.part = s.part) ∧
      ((∀ slot present, c ≠ .slotFilterEnd slot present) → t.rack = s.rack) ∧
      (c ≠ .estop → c ≠ .estopCleared → t.estop = s.estop) ∧
      (c.movesTrigger = false → t.trig.high = s.trig.high) ∧
      ((∀ seated, c ≠ .headFilterEnd seated) → t.head.seated = s.head.seated) ∧
      (c.movesAxisInput = false → ∀ a, (vget t.axes a).inputs = (vget s.axes a).inputs) ∧
      (c.isExpiry = false → t.clock = s.clock))

/-! ## Start-up (chapter 13) -/

/-- Reset leaves every block cold: axes unreferenced at 0, the drives off, no run, no table, LISTENING without a window, no probe, an
empty ring, every channel OFF, no event pending. (The values before the first load ends, a mounted-probe record NONE, channels OFF and the
join state LISTENING among them, and the levels of straps and inputs are the model's choice: logs 5, 6 and 7.) -/
def Obligations.ResetLeavesEveryBlockCold : Prop :=
  let s := State.reset
  s.pending = [] ∧ s.setup.load = .reading ∧ s.setup.image = none ∧ s.clock = 0 ∧
  (∀ a, (vget s.axes a).count = 0 ∧ (vget s.axes a).scale = 0 ∧ (vget s.axes a).pos = 0 ∧
    (vget s.axes a).setpoint = 0 ∧ (vget s.axes a).referenced = false) ∧
  s.lastFault = none ∧ s.arm.st = .off ∧ s.arm.energized = false ∧ s.arm.motion = none ∧ s.arm.shadow = false ∧
  s.run = { st := .none, owner := none, queue := [], current := none, stack := [] } ∧ s.chg.change = none ∧
  s.qual = none ∧ s.soak = none ∧ s.join.st = .listening ∧ s.join.window = none ∧ s.table = none ∧
  s.agent = { current := none, retired := none } ∧ s.probes = [] ∧ s.mounted = .none ∧ s.head.pulse = none ∧
  s.head.waiting = none ∧ s.trig.latch = none ∧ s.cap.ring = [] ∧ s.cap.counter = 0 ∧ s.cap.drain = false ∧
  s.part = { coeff := 0, datum := ⟨0, 0, 0⟩ } ∧ s.thermal.settled = false ∧
  (∀ c ∈ s.thermal.channels, c.st = .off) ∧ (∀ e ∈ s.events.slots, e.pending = none) ∧ s.events.address = none ∧
  s.line.m1 = [] ∧ s.line.m2 = [] ∧ s.line.m3 = none ∧ s.line.lostSet = 0 ∧ s.line.active = false

/-- A cold reset samples the straps and puts every block at the values it has right after reset (ResetLeavesEveryBlockCold), the axes'
counts, scale positions, positions and setpoints at 0 and their referenced flags clear; the levels of the machine-side inputs and the
queue of commands stand as they are, and the model's counter of free values goes on. (That the levels stand is the model's reading, log 6;
the values of head, capture unit and mounted-probe record, and the join state LISTENING, before the first load ends are its choice, log
7.) -/
def Obligations.ColdResetSamplesTheStraps : Prop :=
  ∀ (straps : Straps) (s : State), exec (.coldReset straps) s = .next { State.reset with
    setup := { straps := straps, load := .reading, image := none, format := 0 }
    axes := vmap (fun _ a => { a with count := 0, scale := 0, pos := 0, setpoint := 0, referenced := false }) s.axes
    estop := s.estop
    trig := { State.reset.trig with high := s.trig.high }
    pending := s.pending
    freeCount := s.freeCount }

/-- The end of a load is judged by the image's four tests: format code, length field, CRC of bytes 0 to 701, and every field in
its range (a flag bit without a code fails it: log 34). A good image makes the station LOADED and gives the blocks their values,
any other puts it in CONFIG_FAULT with an empty standing set, no probe record and every channel OFF. Either way the line
controller follows the line and the presence timer starts. The memory's contents and the head's first level are operands of
the command (log 30), and with a seated head the mounted-probe record is NONE until its first read ends (log 7). -/
def Obligations.LoadEndsAsTheImageIsJudged : Prop :=
  ∀ (memory : List Byte) (head : Bool) (slots : SlotSet) (s : State), s.setup.load = .reading →
    ∃ t : State, exec (.configLoadEnd memory head slots) s = .next t ∧ t.line.active = true ∧
      t.line.presenceTimer = some s.clock ∧ t.setup.straps = s.setup.straps ∧ t.setup.image = imageOf memory ∧
      (s.line.active = false → t.head.seated = head ∧ t.mounted = .none ∧ t.head.idRead.isSome = (head || s.head.idRead.isSome)) ∧
      (∀ c, imageOf memory = some c →
        t.setup.load = .loaded ∧ t.arm.standing = c.powerOnStanding ∧ t.events.mask = c.eventMask ∧
        t.cap.level = c.reportLevel ∧ t.cap.timeout = c.reportTimeout ∧
        t.probes.map (·.defined) = c.probeDefs ∧ (∀ r ∈ t.probes, r.qual = .unqualified ∧ r.data = none) ∧
        t.thermal.cadence = some s.clock ∧ (s.join.st = .listening → t.join.window = some s.clock)) ∧
      (imageOf memory = none →
        t.setup.load = .fault ∧ t.arm.standing = 0 ∧ t.probes = [] ∧ t.thermal.cadence = none ∧
        (∀ c ∈ t.thermal.channels, c.st = .off) ∧ t.join.window = none) ∧
      (let m := readMemory 706 memory
       wordAt m 0 ≠ 0x5201 ∨ wordAt m 2 ≠ 706 ∨ crc32 (m.take 702) ≠ longAt m 702 ∨ imageFields m = none ↔
         imageOf memory = none)

/-- RESTART from an ATTACHED planner, with no run and the arm OFF or STILL, or with a stand-alone excursion, which it first
aborts: no REPLY is placed, a waiting lock pulse is discarded, the LEAVE joins the tail of M1 and its wait starts. With a run
in progress, or in a referencing or its claim, it is answered STATE. In CONFIG_FAULT it is taken from any sender, without
REPLY and LEAVE: the mailboxes are emptied, and the load state is READING until the memory has been read again. -/
def Obligations.RestartQueuesTheLeave : Prop :=
  (∀ (sender : Station) (s : State), s.listensTo sender = true →
    let h := s.heard sender true
    (s.run.st = .none → (s.arm.st = .off ∨ s.arm.st = .still) → s.run.stack = [] → s.line.m1.length < 8 →
      let d := h.discardWaiting
      exec (.restart sender []) s = .next ({ d with
        line := { d.line with m1 := s.line.m1 ++ [.leave] }
        join := { d.join with leaveWait := some s.clock } } : State).finish ∧
      d.head.waiting = none ∧ d.head.pulse = s.head.pulse ∧ d.line = h.line ∧
      (s.chg.closing = [] → d = { h with head := { s.head with waiting := none } })) ∧
    (s.run.st = .none → s.run.stack ≠ [] → s.stopGoverns = false →
      ∃ u : State, exec (.restart sender []) s = .next u.finish ∧ u.run.stack = [] ∧ u.run.st = .none ∧
        u.chg.change = none ∧ u.qual = none ∧ u.soak = none ∧ u.join.leaveWait = some s.clock ∧ u.line.m3 = none ∧
        (u.detachDue = none → u.line.m1.getLast? = some .leave)) ∧
    (s.run.st ≠ .none ∨ (s.run.stack = [] ∧ s.arm.st ≠ .off ∧ s.arm.st ≠ .still) →
      exec (.restart sender []) s = .next (h.reply sender 0x2F .state []))) ∧
  ∀ (sender : Station) (s : State), s.receives sender = true → s.line.m3 = none → s.setup.load = .fault →
    ∃ t : State, exec (.restart sender []) s = .next t ∧ t.setup = { s.setup with load := .reading, image := none } ∧
      t.line.active = true ∧ t.line.m1 = [] ∧ t.line.m2 = [] ∧ t.line.m3 = none ∧ t.line.lostSet = 0 ∧
      t.line.points = 0 ∧ t.line.thermal = none ∧ t.line.presence = false ∧ t.line.presenceTimer = none ∧
      (∀ e ∈ t.events.slots, e.pending = none) ∧ t.run = Run.cold ∧ t.arm.st = .off ∧ t.table = none ∧
      t.join.window = none ∧ t.join.st = s.join.st ∧ t.join.leaveWait = s.join.leaveWait ∧ t.rack = s.rack ∧
      t.head.seated = s.head.seated ∧ (∀ a, (vget t.axes a).count = (vget s.axes a).count)

/-- The end of the LEAVE wait resets the blocks as RESTART does and makes the station LISTENING with a fresh window, but a QUIET
station stays QUIET (a LEAVE wait that runs on through a detach is the model's choice, log 48): drives off, no run, no table, mailboxes empty, no event pending, the event mask of the image again, the
scale counts, probe records, point counter, part data and thermal unit kept. -/
def Obligations.LeaveWaitEndResetsTheBlocks : Prop :=
  ∀ (since : Clock) (s : State), s.join.leaveWait = some since → s.leaveOnLine = false →
    ∃ t : State, exec .leaveWaitEnd s = .next t ∧ t.join.leaveWait = none ∧
      (s.join.st = .quiet → t.join.st = .quiet ∧ t.join.quietSince = s.join.quietSince) ∧
      (s.join.st ≠ .quiet → t.join.st = .listening ∧ (s.setup.load = .loaded → t.join.window = some t.clock)) ∧
      t.arm.st = .off ∧ t.arm.energized = false ∧ t.arm.motion = none ∧ t.arm.shadow = false ∧
      t.setpoints = t.positions ∧ t.run = Run.cold ∧ t.table = none ∧ t.agent.current = none ∧
      t.agent.retired = none ∧ t.qual = none ∧ t.soak = none ∧ t.chg.change = none ∧ t.lastFault = none ∧
      t.line.m1 = [] ∧ t.line.m2 = [] ∧ t.line.m3 = none ∧ t.line.lostSet = 0 ∧ t.cap.ring = [] ∧
      t.cap.counter = s.cap.counter ∧ t.part = s.part ∧ t.probes = s.probes ∧ t.thermal = s.thermal ∧
      (∀ e ∈ t.events.slots, e.pending = none) ∧ t.events.address = none ∧
      (∀ c, s.config = some c → t.events.mask = c.eventMask ∧ t.cap.level = c.reportLevel) ∧
      (∀ a, (vget t.axes a).count = (vget s.axes a).count ∧
        (vget t.axes a).referenced = (vget s.axes a).referenced)

/-! ## Axes, scales and drives (chapter 1) -/

/-- A transition counts one unit and moves the scale position by the resolution in the count sense; outside shadow mode the
position follows, in shadow mode it stays; the setpoint follows only while the drives are DE_ENERGIZED. The other axes and
everything else stay as they are. Without an image only the count moves. -/
def Obligations.ScaleStepMovesOneAxis : Prop :=
  ∀ (axis : AxisName) (forward : Bool) (s : State), ∃ t : State, exec (.scaleStep axis forward) s = .next t ∧
    { t with axes := s.axes } = s ∧ (∀ b, b ≠ axis → vget t.axes b = vget s.axes b) ∧
    (let a := vget s.axes axis
     let a' := vget t.axes axis
     a'.count = (if forward then a.count + 1 else a.count - 1) ∧ a'.referenced = a.referenced ∧
     a'.minusLimit = a.minusLimit ∧ a'.plusLimit = a.plusLimit ∧ a'.scaleFault = a.scaleFault ∧
     (s.config = none → a'.scale = a.scale ∧ a'.pos = a.pos ∧ a'.setpoint = a.setpoint) ∧
     (∀ c, s.config = some c →
       let r : Lu := (vget c.axes axis).resolution.setWidth 32
       a'.scale = (if forward = (vget c.axes axis).senseNegative then a.scale - r else a.scale + r) ∧
       a'.pos = (if s.arm.shadow then a.pos else a'.scale) ∧
       a'.setpoint = (if s.arm.energized then a.setpoint else a'.pos)))

/-- A scale-fault input that asserts, or a transition that cannot be counted, clears its axis's referenced flag, raises SCALE
with the axis and INPUT or COUNT, and leaves the drives DE_ENERGIZED, whatever they were and in shadow mode too. An input that
is asserted already does not assert again (the state stays as it is: log 3). -/
def Obligations.ScaleFaultUnreferencesItsAxis : Prop :=
  ∀ (axis : AxisName) (s : State), s.drivesHold →
    (∃ u : State, exec (.scaleCountFault axis) s = .next u.finish ∧ (vget u.axes axis).referenced = false ∧
      u.lastFault = some .scale ∧ u.arm.energized = false ∧ u.arm.st = .off ∧ u.run.st = .none ∧
      (s.events.mask.getLsbD 0 = true → s.events.slots.length = 12 →
        ∃ slot, u.events.slots[0]? = some slot ∧
          slot.pending = some (.fault (report .scale (axisCode axis) 1) s.positions))) ∧
    ((vget s.axes axis).scaleFault = false →
      ∃ u : State, exec (.scaleFaultInput axis) s = .next u.finish ∧ (vget u.axes axis).referenced = false ∧
        (vget u.axes axis).scaleFault = true ∧ u.lastFault = some .scale ∧ u.arm.energized = false ∧
        u.arm.st = .off ∧ u.run.st = .none ∧
        (s.events.mask.getLsbD 0 = true → s.events.slots.length = 12 →
          ∃ slot, u.events.slots[0]? = some slot ∧
            slot.pending = some (.fault (report .scale (axisCode axis) 0) s.positions))) ∧
    ((vget s.axes axis).scaleFault = true → exec (.scaleFaultInput axis) s = .next s)

/-- In its axis's seek, before the mark is met, a reference mark sets the axis's scale position and position to the reference
coordinate and its referenced flag; outside that seek it is ignored. When the seek ends beyond its mark (so far beyond it in the
homing direction as the command says: log 8), the next axis of the order begins its own with its referenced flag cleared, or
fails with HOME_FAIL where its limit stands asserted; after the last one the standing set is the home standing set and the arm
is STILL. Before the mark the end of a seek changes nothing (the model's choice for an event that the state rules out, log 3). -/
def Obligations.SeeksReferenceTheirAxes : Prop :=
  (∀ (axis : AxisName) (c : Image) (s : State), s.config = some c →
     (s.arm.st = .homing → s.arm.stopping = none → s.arm.seeks.head? = some axis → s.arm.markMet = false →
       ∃ t : State, exec (.referenceMark axis) s = .next t ∧ (vget t.axes axis).scale = (vget c.axes axis).reference ∧
         (vget t.axes axis).pos = (vget c.axes axis).reference ∧ (vget t.axes axis).referenced = true ∧
         (vget t.axes axis).count = (vget s.axes axis).count ∧ (∀ b, b ≠ axis → vget t.axes b = vget s.axes b) ∧
         t.arm = { s.arm with markMet := true } ∧ { t with axes := s.axes, arm := s.arm } = s) ∧
     (s.arm.st ≠ .homing ∨ s.arm.seeks.head? ≠ some axis ∨ s.arm.markMet = true →
       exec (.referenceMark axis) s = .next s)) ∧
  ∀ (beyond : BitVec 32) (axis : AxisName) (more : List AxisName) (c : Image) (s : State), s.config = some c →
    s.arm.st = .homing → s.arm.stopping = none → s.arm.seeks = axis :: more →
    (s.arm.markMet = false → exec (.seekEnd beyond) s = .next s) ∧
    (s.arm.markMet = true → ∃ u : State, exec (.seekEnd beyond) s = .next u.finish ∧
      (more = [] → u.arm.standing = c.homeStanding ∧ u.arm.begun = 0 ∧ u.arm.motion = none ∧ u.arm.seeks = [] ∧
        u.arm.st = (if s.arm.energized then .still else .off) ∧
        (vget u.axes axis).setpoint = seekRest (vget c.axes axis) (vget s.axes axis) beyond) ∧
      (∀ b after, more = b :: after → (vget u.axes b).referenced = false ∧
        (seekBlocked (vget c.axes b) (vget s.axes b) = none →
          u.arm.st = .homing ∧ u.arm.seeks = more ∧ u.arm.markMet = false ∧
          u.arm.motion.map (·.act) = some (.seek b)) ∧
        (∀ detail, seekBlocked (vget c.axes b) (vget s.axes b) = some detail →
          u.lastFault = some .homeFail ∧ u.arm.st = .off)))

/-- A hardware limit that asserts with the drives ENERGIZED and shadow mode off de-energizes them at once with LIMIT, or with
HOME_FAIL during that axis's own seek, to its end beyond the mark (log 26); DE_ENERGIZED or in shadow mode only the level is
taken, and a level that stands already changes nothing (the model's choice, log 3). An input that clears, a limit, a scale fault or ESTOP, changes only its own level. -/
def Obligations.LimitInputsCutTheDrives : Prop :=
  ∀ (axis : AxisName) (side : Side) (s : State),
    ((vget s.axes axis).limitLevel side = true → exec (.hwLimitAsserted axis side) s = .next s) ∧
    ((vget s.axes axis).limitLevel side = false →
      let taken : State := { s with axes := vset s.axes axis ((vget s.axes axis).setLimit side true) }
      (s.arm.energized = false ∨ s.arm.shadow = true → exec (.hwLimitAsserted axis side) s = .next taken) ∧
      (s.arm.energized = true → s.arm.shadow = false →
        ∃ u : State, exec (.hwLimitAsserted axis side) s = .next u.finish ∧ u.arm.energized = false ∧ u.arm.st = .off ∧
          u.arm.motion = none ∧ u.run.st = .none ∧ (vget u.axes axis).limitLevel side = true ∧
          u.lastFault = some (if s.arm.st = .homing ∧ s.arm.stopping = none ∧ s.arm.seeks.head? = some axis
            then .homeFail else .limit))) ∧
    exec (.hwLimitCleared axis side) s =
      .next { s with axes := vset s.axes axis ((vget s.axes axis).setLimit side false) } ∧
    exec (.scaleFaultCleared axis) s =
      .next { s with axes := vset s.axes axis { vget s.axes axis with scaleFault := false } } ∧
    exec .estopCleared s = .next { s with estop := false }

/-- FOLLOW is raised exactly when, at a step of the position loop, the difference between an axis's setpoint and its position
exceeds the following limit with the drives ENERGIZED and shadow mode off; the drives are then cut. A difference equal to the
limit is no fault. The setpoint is the axis's own, which in a travel has gone on along the path since the last millisecond by
what the command says, a millisecond's way at most (log 8); an arm that stands, and an axis that is not seeking, has not. -/
def Obligations.FollowingErrorBeyondTheLimit : Prop :=
  ∀ (axis : AxisName) (since : BitVec 32) (c : Image) (s : State), s.config = some c →
    let now := s.atLoopStep since
    let difference := (vget now.axes axis).setpoint.toInt - (vget now.axes axis).pos.toInt
    (s.arm.energized = false ∨ s.arm.shadow = true ∨ difference.natAbs ≤ (vget c.axes axis).following.toNat →
      exec (.followingError axis since) s = .next s) ∧
    (s.arm.energized = true → s.arm.shadow = false → (vget c.axes axis).following.toNat < difference.natAbs →
      ∃ u : State, exec (.followingError axis since) s = .next u.finish ∧ u.lastFault = some .follow ∧
        u.arm.energized = false ∧ u.arm.st = .off ∧ u.arm.motion = none ∧ u.run.st = .none) ∧
    (s.travelling = false → now = s) ∧
    (s.arm.shadow = false → now.positions = s.positions) ∧
    (∀ m b, s.arm.motion = some m → m.act = .seek b → b ≠ axis →
      (vget now.axes axis).setpoint = (vget s.axes axis).setpoint)

/-- ESTOP de-energizes the drives whatever the arm does, ends shadow mode with each position taken from its scale, ends a run (with the
arm OFF already too: log 38), and is no fault; each referenced flag stays (past the mark of a seek too: log 54). (That the drives then
stay off until DRIVES on: StepsKeepTheDrivesSound.) While the input stands, DRIVES on is refused with STATE, and the input does not assert
again (the state stays as it is: log 3). -/
def Obligations.EstopCutsTheDrives : Prop :=
  (∀ s : State, s.estop = true → exec .estop s = .next s) ∧
  (∀ s : State, s.estop = false → ∃ u : State, exec .estop s = .next u.finish ∧ u.estop = true ∧ u.arm.energized = false ∧
    u.arm.st = .off ∧ u.arm.motion = none ∧ u.arm.shadow = false ∧ u.run.st = .none ∧ u.run.stack = [] ∧
    u.lastFault = s.lastFault ∧ u.setpoints = u.positions ∧
    (∀ a, (vget u.axes a).referenced = (vget s.axes a).referenced ∧
      (vget u.axes a).scale = (vget s.axes a).scale ∧
      (s.arm.shadow = true → (vget u.axes a).pos = (vget s.axes a).scale))) ∧
  (∀ (sender : Station) (s : State), s.listensTo sender = true → s.estop = true →
    exec (.drivesOn sender [1#8]) s = .next ((s.heard sender true).reply sender 0x26 .state []))

/-- DRIVES on is taken with ESTOP clear, no conflict set and no scale fault: the setpoints are made equal to the positions and
the arm goes from OFF to STILL; with the drives on already it changes nothing. Otherwise it is refused with STATE. DRIVES off
is taken in every state: the arm is OFF at once with no motion, its setpoints at its positions, and no run goes on (with the
arm OFF already too: log 38). While the drives are ENERGIZED and shadow mode is off, the position loop of each axis forms a drive
demand from the rate of the setpoint, the difference between setpoint and position and the two gains, whose value is free
(log 53); otherwise there is none. An arm that does not travel has a rate of 0. The drive-enable outputs of the three axes are active
together while the drives are ENERGIZED with shadow mode off, and inactive otherwise. -/
def Obligations.DrivesGoOnAndOff : Prop :=
  (∀ (sender : Station) (s : State), s.listensTo sender = true →
    (s.estop = false → s.conflict = 0 → s.anyScaleFault = false →
      let h := s.heard sender true
      (s.arm.energized = true → exec (.drivesOn sender [1#8]) s = .next (h.finish.reply sender 0x26 .ok [])) ∧
      (s.arm.energized = false → exec (.drivesOn sender [1#8]) s =
        .next (({ h with
          axes := vmap (fun _ a => { a with setpoint := a.pos }) s.axes
          arm := { s.arm with energized := true, st := .still } } : State).finish.reply sender 0x26 .ok []))) ∧
    (s.estop = true ∨ s.conflict ≠ 0 ∨ s.anyScaleFault = true →
      exec (.drivesOn sender [1#8]) s = .next ((s.heard sender true).reply sender 0x26 .state [])) ∧
    (∃ u : State, exec (.drivesOff sender [0#8]) s = .next (u.finish.reply sender 0x26 .ok []) ∧
      u.arm.energized = false ∧ u.arm.st = .off ∧ u.arm.motion = none ∧ u.arm.stopping = none ∧
      u.arm.todo = none ∧ u.setpoints = u.positions ∧ u.positions = s.positions ∧ u.run.st = .none ∧
      u.run.stack = [] ∧ u.arm.shadow = s.arm.shadow ∧ u.lastFault = s.lastFault ∧ u.driveEnables = ⟨false, false, false⟩)) ∧
  (∀ s : State, (s.arm.energized = true → s.arm.shadow = false → s.driveEnables = ⟨true, true, true⟩) ∧
    (s.arm.energized = false ∨ s.arm.shadow = true → s.driveEnables = ⟨false, false, false⟩)) ∧
  ∀ (axis : AxisName) (c : Image) (s : State), s.config = some c →
    let a := vget s.axes axis
    (s.arm.energized = true → s.arm.shadow = false → vget s.driveDemands axis =
      some (Config.driveDemand (vget c.axes axis).positionGain (vget c.axes axis).feedGain (vget s.setpointRates axis)
        (a.setpoint.toInt - a.pos.toInt))) ∧
    (s.arm.energized = false ∨ s.arm.shadow = true → vget s.driveDemands axis = none) ∧
    (s.travelling = false → vget s.setpointRates axis = 0) ∧
    (∀ t, s.pending = [] → step s = .next t →
      vget s.setpointRates axis = (vget t.axes axis).setpoint.toInt - a.setpoint.toInt)

/-! ## Runs and their commands (chapter 2) -/

/-- A SEG from the owner, or with no owner, whose checks pass joins the tail of the queue; a first SEG sets owner and event
address; a STARVED run becomes ACTIVE; the REPLY carries the count. Then the arm goes on. -/
def Obligations.SegJoinsTheQueue : Prop :=
  ∀ (sender : Station) (p : List Byte) (seg : Segment) (s : State), s.listensTo sender = true → 4 ≤ p.length →
    (s.run.owner = none ∨ s.run.owner = some sender) → s.checkSeg p = .ok seg →
    (∃ u : State, exec (.seg sender p) s =
        .next (u.finish.reply sender 0x20 .ok [.u8 (BitVec.ofNat 8 (s.run.queue.length + 1))]) ∧
      u.run.queue = s.run.queue ++ [seg] ∧ u.run.owner = some sender ∧
      u.run.st = (if s.run.st = .starved then .active else s.run.st) ∧ u.run.current = s.run.current ∧
      u.run.stack = s.run.stack ∧ u.arm = s.arm ∧ u.axes = s.axes ∧ u.table = s.table ∧
      u.events.address = (if s.run.owner = none then some sender else s.events.address)) ∧
    s.run.queue.length < 16

/-- A SEG that fails a check changes nothing but its REPLY, and sets no owner: OWNER for another planner's queue, FULL at 16
segments, UNREF for a MOVE or PROBE with an unreferenced axis, NOPROBE for a CHANGE to an unknown probe, BAD otherwise. One shorter than 4
bytes is BAD before any of these, for another planner's queue too (that order is the model's choice: log 63). -/
def Obligations.SegRefusedByTheFirstCheck : Prop :=
  ∀ (sender : Station) (p : List Byte) (s : State), s.listensTo sender = true →
    let refused (r : Result) : Prop := exec (.seg sender p) s = .next ((s.heard sender true).reply sender 0x20 r [])
    (p.length < 4 → refused .bad) ∧
    (4 ≤ p.length → s.ownedByOther sender = true → refused .owner) ∧
    (4 ≤ p.length → s.ownedByOther sender = false → 16 ≤ s.run.queue.length → refused .full) ∧
    (4 ≤ p.length → s.ownedByOther sender = false → s.run.queue.length < 16 → segTravels p = true → s.unreferenced ≠ none →
      refused .unref) ∧
    (4 ≤ p.length → s.ownedByOther sender = false → s.run.queue.length < 16 → (segTravels p = false ∨ s.unreferenced = none) →
      (segmentOf p = none → refused .bad) ∧
      (∀ seg c, segmentOf p = some seg → s.config = some c →
        (segmentInRange c (segMissOk p) seg.body = false → refused .bad) ∧
        (segmentInRange c (segMissOk p) seg.body = true → ∀ id, seg.body = .change id → s.probe id = none →
          refused .noProbe)))

/-- GO is taken with run state NONE and no owner, or the sender as owner, whatever the arm state: the sender becomes the owner, and
the run is ACTIVE with a segment queued, STARVED with its event without one. The queued segments stay as they are, and an arm
that is not STILL takes none. Another owner is answered OWNER, any other run state STATE whoever sends (the order is the model's
choice where both apply, log 44). -/
def Obligations.GoStartsTheRun : Prop :=
  ∀ (sender : Station) (s : State), s.listensTo sender = true →
    let h := s.heard sender true
    (s.run.st = .none → (s.run.owner = none ∨ s.run.owner = some sender) →
      ∃ u : State, exec (.go sender []) s = .next (u.finish.reply sender 0x21 .ok []) ∧
        u.run.owner = some sender ∧ u.run.queue = s.run.queue ∧ u.run.current = s.run.current ∧
        u.run.stack = s.run.stack ∧ u.events.address = some sender ∧ u.arm = s.arm ∧ u.axes = s.axes ∧
        (s.run.queue ≠ [] → u.run.st = .active ∧ u.events.slots = s.events.slots) ∧
        (s.run.queue = [] → u.run.st = .starved ∧ (s.events.mask.getLsbD 6 = true → s.events.slots.length = 12 →
          ∃ slot, u.events.slots[6]? = some slot ∧ slot.pending = some .starved)) ∧
        (s.arm.st ≠ .still → s.detachDue = none → u.finish = u)) ∧
    (s.run.st = .none → (∃ o, s.run.owner = some o ∧ o ≠ sender) →
      exec (.go sender []) s = .next (h.reply sender 0x21 .owner [])) ∧
    (s.run.st ≠ .none → exec (.go sender []) s = .next (h.reply sender 0x21 .state []))

/-- HOLD from the owner of an ACTIVE run. A travel, a back-off or an excursion's move decelerates, and the run becomes HELD at its
standstill; so does a run whose arm is DECELERATING, unless a stop governs (with a stop of run state NONE in progress: log 46). A
running dwell stops with its time kept. In the fast stop of a contact the back-off waits for
GO_ON; a step in place goes on, and the run is HELD at once (both log 14), and so it is in a referencing and its claim, which go on. A claim
of the run stays as it stands, and a wait for ring room ends, with the arm STILL. STILL or OFF, the run is HELD at once. A
probing travel that waits at its target for its latch takes the hold with the end of the segment (log 50). Another sender is
answered OWNER, another run state STATE (in that order: log 44). -/
def Obligations.HoldStopsTheRunWhereItStands : Prop :=
  ∀ (sender : Station) (s : State), s.listensTo sender = true →
    let h := s.heard sender true
    let held : Stopping := { fast := false, after := .resume, held := true, afterBackOff := false }
    let leaves (arm : Arm) (st : RunState) : Prop :=
      exec (.hold sender []) s =
        .next (({ h with arm := arm, run := { s.run with st := st } } : State).reply sender 0x22 .ok [])
    (s.run.owner ≠ some sender → exec (.hold sender []) s = .next (h.reply sender 0x22 .owner [])) ∧
    (s.run.owner = some sender → s.run.st ≠ .active →
      exec (.hold sender []) s = .next (h.reply sender 0x22 .state [])) ∧
    (s.run.owner = some sender → s.run.st = .active → s.detachDue = none → s.chg.parked = false →
      (∀ m, s.arm.st = .moving → s.arm.stopping = none → s.arm.motion = some m →
        (m.act ≠ .dwell → m.act ≠ .inPlace → m.atTarget = false →
          leaves { s.arm with st := .decelerating, stopping := some held } .active) ∧
        (m.act ≠ .dwell → m.act ≠ .inPlace → m.atTarget = true →
          leaves { s.arm with motion := some { m with thenHeld := true } } .active) ∧
        (m.act = .inPlace → leaves s.arm .held) ∧
        (∀ left, m.act = .dwell → m.dwellLeft = some left → s.arm.energized = true →
          ∃ t : State, exec (.hold sender []) s = .next (t.reply sender 0x22 .ok []) ∧ t.run = { s.run with st := .held } ∧
            t.arm.st = .still ∧ t.arm.motion = none ∧ t.arm.todo = some (.dwellOn left) ∧ t.axes = s.axes)) ∧
      (∀ p, s.arm.st = .moving → s.arm.stopping = some p →
        (p.after = .backOff → leaves { s.arm with stopping := some { p with held := true } } .active) ∧
        (p.after ≠ .backOff → leaves s.arm .active)) ∧
      (∀ p, s.arm.st = .decelerating → s.arm.stopping = some p →
        (p.after = .still → leaves { s.arm with stopping := some { p with held := true } } .active) ∧
        (p.after ≠ .still → leaves s.arm .active)) ∧
      (s.arm.st = .claiming →
        (s.arm.todo ≠ some .home → leaves { s.arm with st := .still } .held) ∧
        (s.arm.todo = some .home → leaves s.arm .held)) ∧
      (∀ t, s.arm.st = .ringWait → s.arm.todo = some t → t ≠ .home → s.arm.energized = true →
        ∃ u : State, exec (.hold sender []) s = .next (u.reply sender 0x22 .ok []) ∧ u.run = { s.run with st := .held } ∧
          u.arm.st = .still ∧ u.arm.motion = none ∧ u.arm.todo = some t.fromGateOne ∧ u.axes = s.axes ∧
          u.arm.standing = s.arm.standing ∧ u.table = s.table ∧ u.agent = s.agent) ∧
      (s.arm.st = .homing ∨ s.arm.st = .off ∨ (s.arm.st = .still ∧ s.arm.todo ≠ some .home) → leaves s.arm .held))

/-- GO_ON from the owner of a HELD run makes it ACTIVE, and the arm goes on with what waits: a dwell with the time it had left
runs again, once its items are held. Another sender is answered OWNER, another run state STATE, in that order (the model's choice, log 44). -/
def Obligations.GoOnResumesWhatWaits : Prop :=
  ∀ (sender : Station) (s : State), s.listensTo sender = true →
    let h := s.heard sender true
    (s.run.owner ≠ some sender → exec (.goOn sender []) s = .next (h.reply sender 0x23 .owner [])) ∧
    (s.run.owner = some sender → s.run.st ≠ .held →
      exec (.goOn sender []) s = .next (h.reply sender 0x23 .state [])) ∧
    (s.run.owner = some sender → s.run.st = .held →
      exec (.goOn sender []) s =
        .next (({ h with run := { s.run with st := .active } } : State).finish.reply sender 0x23 .ok [])) ∧
    (s.run.owner = some sender → s.run.st = .held → s.detachDue = none → s.arm.st = .still →
      s.agent.current = none → ∀ left, s.arm.todo = some (.dwellOn left) → s.missing (zoneItems s.keep) = 0 →
        ∃ t : State, exec (.goOn sender []) s = .next (t.reply sender 0x23 .ok []) ∧ t.run.st = .active ∧
          t.arm.st = .moving ∧ t.arm.todo = none ∧
          t.arm.motion.map (fun m => (m.act, m.origin, m.target, m.dwellLeft)) = some (.dwell, .segment, none, some left))

/-- STOP, and CELL_STOP from a station that the roster shows as an ATTACHED planner: the queue is flushed and the excursions end; an arm
that travels decelerates to the end of its run, an arm at rest ends its run at once with RUN_END, whose reason is DETACHED where a ninth
M1 entry of the same command detaches the station (log 15). In the fast stop of a fault, whatever the run state, and in the stop of a run
that a stop or fault ends, a further one changes nothing more; one in the deceleration of a stop taken with run state NONE flushes the
queue and clears the owner again (log 46). CELL_STOP is no command, and is taken with a REPLY in M3 and in the wait for a LEAVE too.
CELL_STOP from another sender, or without a table, changes nothing but the times. -/
def Obligations.StopEndsTheRun : Prop :=
  ∀ (sender : Station) (reason : Byte) (s : State), s.receives sender = true →
    let h := s.heard sender true
    let planner : Prop := ∃ tbl, s.table = some tbl ∧ tbl.isPlanner sender = true
    let takes (stopped cellStopped : State) : Prop :=
      (s.listensTo sender = true → exec (.stop sender []) s = .next (stopped.finish.reply sender 0x24 .ok [])) ∧
      (planner → exec (.cellStop sender reason) s = .next cellStopped.finish)
    (¬ planner → exec (.cellStop sender reason) s = .next h) ∧
    (s.inFaultStop = true ∨ (s.stopGoverns = true ∧ s.run.st ≠ .none) →
      takes h h ∧ (s.arm.st ≠ .still → s.detachDue = none → h.finish = h)) ∧
    (s.inFaultStop = false → s.stopGoverns = true → s.run.st = .none →
      let u : State := { h with run := { s.run with queue := [], owner := none } }
      takes u u) ∧
    (s.inFaultStop = false → s.stopGoverns = false → takes (h.stopAll .stopped 0) (h.stopAll .cellStopped reason)) ∧
    (∀ (why : RunEndReason) (b : Byte), s.stopGoverns = false → why ≠ .detached →
      let u := h.stopAll why b
      u.run.queue = [] ∧ u.run.stack = [] ∧ u.arm.todo = none ∧ u.chg.change = none ∧ u.qual = none ∧
      (s.travelling = false → u.run.st = .none ∧ u.run.owner = none ∧ u.arm.motion = none ∧ u.arm.stopping = none) ∧
      (s.travelling = false → s.run.st ≠ .none → s.events.mask.getLsbD 1 = true → s.events.slots.length = 12 →
        ∃ slot, u.events.slots[1]? = some slot ∧ slot.pending = some (if u.detachDue = none then .runEnd why b else .runEnd .detached 0)) ∧
      (s.travelling = true → s.run.st ≠ .none → u.run.st = s.run.st ∧ u.arm.motion = s.arm.motion ∧
        u.arm.stopping.map (·.after) = some (.endRun why b) ∧
        (s.arm.stopping.map (·.fast) ≠ some true → u.arm.st = .decelerating)))

/-- HOME is taken with no run, the arm STILL, shadow mode off: with no claim current and the home zones held the first axis of
the order begins its seek, unreferenced; with items missing the arm is CLAIMING and the claim of the missing items waits in
M1. Otherwise HOME is answered STATE. -/
def Obligations.HomeClaimsThenSeeks : Prop :=
  ∀ (sender : Station) (c : Image) (s : State), s.listensTo sender = true → s.config = some c →
    let h := s.heard sender true
    let missing := s.missing (zoneItems c.homeZones ||| zoneItems s.keep)
    (s.run.st ≠ .none ∨ s.arm.st ≠ .still ∨ s.arm.shadow = true →
      exec (.home sender []) s = .next (h.reply sender 0x25 .state [])) ∧
    (s.run.st = .none → s.arm.st = .still → s.arm.shadow = false →
      exec (.home sender []) s = .next
        (({ h with arm := { s.arm with todo := some .home, itemsHeld := false } } : State).finish.reply sender 0x25 .ok []) ∧
      (s.detachDue = none → missing = 0 → s.agent.current = none → ∀ axis more, c.order = axis :: more →
        seekBlocked (vget c.axes axis) (vget s.axes axis) = none →
        ∃ t : State, exec (.home sender []) s = .next (t.reply sender 0x25 .ok []) ∧ t.arm.st = .homing ∧
          t.arm.seeks = c.order ∧ t.arm.markMet = false ∧ t.arm.motion.map (·.act) = some (.seek axis) ∧
          (vget t.axes axis).referenced = false) ∧
      (s.detachDue = none → missing ≠ 0 → s.agent.current = none → s.line.m1.length < 8 →
        ∃ t : State, exec (.home sender []) s = .next (t.reply sender 0x25 .ok []) ∧ t.arm.st = .claiming ∧
          t.agent.current.map (fun k => (k.requester, k.items, k.phase)) = some (.home, missing, .queued) ∧
          t.line.m1 = s.line.m1 ++ [.claim missing s.agent.formed] ∧ t.axes = s.axes))

/-- SHADOW on is taken with no run, an empty queue, no excursion and the arm STILL: the standing set is saved, each position follows its
setpoint, and the drive-enable outputs become inactive while the drives stay ENERGIZED. SHADOW off gives the standing set back, takes each position from its scale, makes the setpoints
equal to it, and makes the outputs active again with the drives ENERGIZED; nothing that the rehearsal began is left to be interrupted (R35). Otherwise each is answered STATE. -/
def Obligations.ShadowModeOnAndOff : Prop :=
  ∀ (sender : Station) (s : State), s.listensTo sender = true →
    let h := s.heard sender true
    (s.run.st = .none → s.arm.st = .still → s.run.queue = [] → s.run.stack = [] → s.arm.shadow = false →
      ∃ t : State, exec (.shadowOn sender [1#8]) s = .next (t.reply sender 0x2D .ok []) ∧ t.arm.shadow = true ∧
        t.arm.phys = s.arm.standing ∧ t.arm.standing = s.arm.standing ∧ t.positions = s.setpoints ∧
        t.setpoints = s.setpoints ∧ (∀ a, (vget t.axes a).scale = (vget s.axes a).scale) ∧
        { t.arm with shadow := s.arm.shadow, phys := s.arm.phys } = s.arm ∧ t.run = s.run ∧
        t.driveEnables = ⟨false, false, false⟩ ∧
        (s.events.mask.getLsbD 11 = true → s.events.slots.length = 12 →
          ∃ slot, t.events.slots[11]? = some slot ∧ slot.pending = some (.shadow true))) ∧
    (s.run.st ≠ .none ∨ s.arm.st ≠ .still ∨ s.run.queue ≠ [] ∨ s.run.stack ≠ [] ∨ s.arm.shadow = true →
      exec (.shadowOn sender [1#8]) s = .next (h.reply sender 0x2D .state [])) ∧
    (s.run.st = .none → s.arm.st = .still → s.arm.shadow = true →
      ∃ u : State, exec (.shadowOff sender [0#8]) s = .next (u.finish.reply sender 0x2D .ok []) ∧ u.arm.shadow = false ∧
        u.arm.standing = s.arm.phys ∧ u.arm.phys = 0 ∧ u.arm.begun = 0 ∧ u.positions = vmap (fun _ a => a.scale) s.axes ∧
        u.setpoints = u.positions ∧ u.driveEnables = ⟨s.arm.energized, s.arm.energized, s.arm.energized⟩) ∧
    (s.run.st ≠ .none ∨ s.arm.st ≠ .still ∨ s.arm.shadow = false →
      exec (.shadowOff sender [0#8]) s = .next (h.reply sender 0x2D .state []))

/-- The stand-alone excursions are taken with no run, the arm STILL and an empty stack, otherwise STATE. CHANGE names a probe
record, otherwise NOPROBE. It picks the lowest slot that holds the probe, and with another probe mounted it drops that one in its
home slot, when EMPTY and free, or in the lowest such slot; it claims these slots with the rack corridor. It raises NO_SLOT where
no slot holds the probe (PICK), and where none is EMPTY and free (DROP). With the probe mounted already it ends NONE_NEEDED, and
its record is popped at once, or a QUALIFY is pushed above it with auto-qualify on. QUALIFY claims the sphere corridor. -/
def Obligations.StandAloneExcursionsBeginWithTheirClaims : Prop :=
  ∀ (sender : Station) (id : ProbeId) (c : Image) (tbl : Table) (s : State), s.listensTo sender = true →
    s.config = some c → s.table = some tbl →
    let h := s.heard sender true
    let change := Instr.change sender (bytesOf 2 id.toNat)
    let free := s.run.st = .none ∧ s.arm.st = .still ∧ s.run.stack = []
    let fits (n : Fin 8) : Prop := tbl.contents n.val = .empty ∧ tbl.holder (16 + n.val) = .free
    let home := s.mountedRecord.bind (·.homeSlot)
    let drops (n : Fin 8) : Prop := fits n ∧ (home = some n ∨ ((∀ k, home = some k → ¬ fits k) ∧ ∀ k < n, ¬ fits k))
    let claims (pick : Fin 8) (drop : Option (Fin 8)) : Prop :=
      let missing := s.missing (zoneItems c.rackCorridor ||| slotItem pick ||| slotItems drop ||| zoneItems s.keep)
      missing ≠ 0 →
      ∃ t : State, exec change s = .next (t.reply sender 0x27 .ok []) ∧ t.arm.st = .claiming ∧
        t.run.stack.map (fun r => (r.kind, r.position, r.standing, r.serves)) =
          [(.change, s.positions, s.arm.standing, false)] ∧
        t.chg.change.map (fun r => (r.step, r.target, r.pick, r.drop)) = some (.claim, id, some pick, drop) ∧
        t.agent.current.map (fun k => (k.requester, k.items)) = some (.change, missing) ∧
        t.line.m1 = s.line.m1 ++ [.claim missing s.agent.formed]
    let noSlot (detail : Byte) : Prop :=
      ∃ t : State, exec change s = .next (t.reply sender 0x27 .ok []) ∧ t.lastFault = some .noSlot ∧ t.run.stack = [] ∧
        t.chg.change = none ∧ (s.events.mask.getLsbD 0 = true → s.events.slots.length = 12 →
          ∃ slot, t.events.slots[0]? = some slot ∧ slot.pending = some (.fault ⟨.noSlot, detail, 0⟩ s.positions))
    (¬ free → exec change s = .next (h.reply sender 0x27 .state []) ∧
      exec (.qualify sender []) s = .next (h.reply sender 0x28 .state [])) ∧
    (free → s.probe id = none → exec change s = .next (h.reply sender 0x27 .noProbe [])) ∧
    (free → s.probe id ≠ none → s.detachDue = none → s.head.idRead = none → s.agent.current = none →
      s.line.m1.length < 8 →
      (s.mounted ≠ .resolved id →
        (∀ pick, tbl.pickSlot id = some pick →
          (s.mounted = .none → claims pick none) ∧
          (s.mounted ≠ .none → (∀ drop, drops drop → claims pick (some drop)) ∧ ((∀ n, ¬ fits n) → noSlot 1))) ∧
        (tbl.pickSlot id = none → noSlot 0)) ∧
      (s.mounted = .resolved id →
        (c.autoQualify = false ∨ s.arm.shadow = true ∨ (∃ r, s.probe id = some r ∧ r.qual = .qualified) →
          s.chg.parked = false →
          ∃ t : State, exec change s = .next (t.reply sender 0x27 .ok []) ∧ t.run.stack = [] ∧ t.chg.change = none ∧
            t.arm.st = (if s.arm.energized then .still else .off) ∧ t.arm.standing = s.arm.standing ∧ t.axes = s.axes ∧
            (s.events.mask.getLsbD 2 = true → s.events.slots.length = 12 →
              ∃ slot, t.events.slots[2]? = some slot ∧ slot.pending = some (.changeEnd .noneNeeded id))) ∧
        (∀ r, c.autoQualify = true → s.arm.shadow = false → s.probe id = some r → r.qual ≠ .qualified →
          s.missing (zoneItems c.sphereCorridor ||| zoneItems s.keep) ≠ 0 →
          ∃ t : State, exec change s = .next (t.reply sender 0x27 .ok []) ∧ t.arm.st = .claiming ∧ t.chg.change = none ∧
            t.run.stack.map (·.kind) = [.qualify, .change]))) ∧
    (free → s.detachDue = none → s.agent.current = none → s.line.m1.length < 8 →
      let missing := s.missing (zoneItems c.sphereCorridor ||| zoneItems s.keep)
      missing ≠ 0 →
      ∃ t : State, exec (.qualify sender []) s = .next (t.reply sender 0x28 .ok []) ∧ t.arm.st = .claiming ∧
        t.run.stack.map (fun r => (r.kind, r.position, r.standing, r.serves)) =
          [(.qualify, s.positions, s.arm.standing, false)] ∧
        t.agent.current.map (fun k => (k.requester, k.items)) = some (.excursion, missing) ∧
        t.line.m1 = s.line.m1 ++ [.claim missing s.agent.formed])

/-! ## Settings and views (chapters 6, 7, 11, 12) -/

/-- PROBEDEF with fields out of range is BAD, for a ninth record FULL, for the mounted probe while it is in use STATE (when
a change or qualification in progress is for it is the model's choice, log 49). Otherwise
the record of its ID takes the defined fields, becomes UNQUALIFIED without qualified data and keeps its home slot, or a new
record joins the table; every other record stays. -/
def Obligations.ProbedefWritesOneRecord : Prop :=
  ∀ (sender : Station) (p : List Byte) (s : State), s.listensTo sender = true → p.length = 21 →
    let h := s.heard sender true
    let refused (r : Result) : Prop := exec (.probedef sender p) s = .next (h.reply sender 0x29 r [])
    (probeDefOf p = none → refused .bad) ∧
    (∀ d, probeDefOf p = some d →
      (s.probe d.id = none → 8 ≤ s.probes.length → refused .full) ∧
      (s.probe d.id ≠ none → s.mounted.id = some d.id → s.probeInUse = true → refused .state) ∧
      (s.probe d.id = none → s.probes.length < 8 →
        exec (.probedef sender p) s = .next (({ h with
          probes := s.probes ++ [{ defined := d, qual := .unqualified, data := none, homeSlot := none }] } :
            State).reply sender 0x29 .ok [])) ∧
      (s.probe d.id ≠ none → (s.mounted.id ≠ some d.id ∨ s.probeInUse = false) →
        exec (.probedef sender p) s = .next (({ h with
          probes := s.probes.map (fun r =>
            if r.defined.id == d.id then { defined := d, qual := .unqualified, data := none, homeSlot := r.homeSlot }
            else r) } : State).reply sender 0x29 .ok [])))

/-- PART, REPORTMARK and EVMASK set what they name and nothing else: the part coefficient and datum; the report level and
timeout, with the report decision made anew; the enable mask, with the kinds it clears no longer pending. REPORTMARK outside
its ranges and EVMASK with one of bits 12 to 15 set are BAD. -/
def Obligations.SettingCommandsSetWhatTheyName : Prop :=
  ∀ (sender : Station) (p : List Byte) (s : State), s.listensTo sender = true →
    let h := s.heard sender true
    (p.length = 14 → exec (.part sender p) s =
      .next (({ h with part := { coeff := wordAt p 0, datum := pointAt p 2 } } : State).reply sender 0x2A .ok [])) ∧
    (p.length = 3 →
      (1 ≤ fieldAt p 0 1 ∧ fieldAt p 0 1 ≤ 32 ∧ 10 ≤ fieldAt p 1 2 ∧ fieldAt p 1 2 ≤ 5000 →
        exec (.reportmark sender p) s = .next (({ h with
          cap := { s.cap with level := byteAt p 0, timeout := wordAt p 1 } } : State).decideReport.reply
            sender 0x2B .ok [])) ∧
      (¬ (1 ≤ fieldAt p 0 1 ∧ fieldAt p 0 1 ≤ 32 ∧ 10 ≤ fieldAt p 1 2 ∧ fieldAt p 1 2 ≤ 5000) →
        exec (.reportmark sender p) s = .next (h.reply sender 0x2B .bad []))) ∧
    (p.length = 2 →
      (fieldAt p 0 2 < 4096 → ∃ e : EventSet, exec (.evmask sender p) s =
          .next (({ h with events := e } : State).reply sender 0x2C .ok []) ∧
        e.mask = wordAt p 0 ∧ e.address = s.events.address ∧
        (∀ n (slot : EventSlot), s.events.slots[n]? = some slot →
          e.slots[n]? = some (if e.mask.getLsbD n then slot else { pending := none, renewed := false }))) ∧
      (4096 ≤ fieldAt p 0 2 → exec (.evmask sender p) s = .next (h.reply sender 0x2C .bad [])))

/-- Each view of ASK answers from the state as it stands and changes nothing but M3 and the times: STATUS, POSITION, QUEUE and IDENT with
argument and part 0; CHANNEL for channels 0 to 11, SHARE for items 0 to 23, PEER for the entries of the watch list (beyond them BAD: log
62); PROBE for a record's ID, NOPROBE for any other; POINT for the two parts of a point that the ring holds. (An argument that a view does
not name is 0: log 17; the codes of fields that the spec does not give are free: log 16; the place of one byte of PROBE, the origin of the
list position of SHARE and the presence byte of a zone there, and the bit rate code of IDENT, are the model's choice: log 62, and so are
NOPROBE for 0 and FFFFh: log 78, the empty missing set that QUEUE sends without a claim: log 16, the touch that QUEUE shows while none
travels: log 71, and the absent origin that it shows while a start waits: log 80.) Without a motion the false-trigger count that QUEUE
sends is 0 (R107; that it is sent then: log 16). -/
def Obligations.AskAnswersFromTheStateAsItStands : Prop :=
  ∀ (sender : Station) (n : Nat) (s : State), s.listensTo sender = true → n < 65536 →
    let h := s.heard sender true
    let arg (view part : Nat) : List Byte := bytesOf 1 view ++ bytesOf 2 n ++ bytesOf 1 part
    let answers (c : Instr) (r : Result) (data : List ViewField) : Prop :=
      exec c s = .next (h.reply sender 0x2E r data)
    (n = 0 → answers (.askStatus sender (arg 0 0)) .ok s.viewStatus ∧
      answers (.askPosition sender (arg 1 0)) .ok s.viewPosition ∧
      answers (.askQueue sender (arg 6 0)) .ok s.viewQueue ∧ (s.arm.motion = none → s.falseTriggers = 0) ∧
      answers (.askIdent sender (arg 8 0)) .ok s.viewIdent) ∧
    (n < 12 → answers (.askChannel sender (arg 2 0)) .ok (s.viewChannel n)) ∧
    (12 ≤ n → answers (.askChannel sender (arg 2 0)) .bad []) ∧
    (n < 24 → answers (.askShare sender (arg 7 0)) .ok (s.viewShare n)) ∧
    (24 ≤ n → answers (.askShare sender (arg 7 0)) .bad []) ∧
    (∀ e, s.thermal.peers[n]? = some e → answers (.askPeer sender (arg 3 0)) .ok (s.viewPeer e)) ∧
    (s.thermal.peers[n]? = none → answers (.askPeer sender (arg 3 0)) .bad []) ∧
    (∀ r, s.probe (BitVec.ofNat 16 n) = some r → answers (.askProbe sender (arg 4 0)) .ok r.view) ∧
    (s.probe (BitVec.ofNat 16 n) = none → answers (.askProbe sender (arg 4 0)) .noProbe []) ∧
    (∀ pt, s.cap.ring.find? (fun q => q.number == BitVec.ofNat 16 n) = some pt →
      answers (.askPoint sender (arg 5 1)) .ok pt.viewOne ∧ answers (.askPoint sender (arg 5 2)) .ok pt.viewTwo) ∧
    (s.cap.ring.find? (fun q => q.number == BitVec.ofNat 16 n) = none →
      answers (.askPoint sender (arg 5 1)) .bad [] ∧ answers (.askPoint sender (arg 5 2)) .bad [])

/-- The command path. A command that is not received changes nothing; while M3 holds a REPLY it is heard and nothing more;
otherwise the first test that fails answers it, with no other effect: STATE in a load (log 18), in CONFIG_FAULT (but for ASK and
RESTART) and in the LEAVE wait, OWNER from a sender that is no ATTACHED planner of an ATTACHED station, BAD for a payload
that has not the command's length and argument. -/
def Obligations.CommandTestsInTheirOrder : Prop :=
  ∀ (c : Instr) (k : CommandHeader) (s : State), c.header = some k →
    (s.receives k.sender = false → exec c s = .next s) ∧
    (s.receives k.sender = true → s.line.m3 ≠ none → exec c s = .next (s.heard k.sender true)) ∧
    (s.receives k.sender = true → s.line.m3 = none →
      let refused (r : Result) : Prop := exec c s = .next ((s.heard k.sender true).reply k.sender k.kind r [])
      (s.setup.load = .reading → refused .state) ∧
      (s.setup.load = .fault → k.inFault = false → refused .state) ∧
      (s.setup.load = .fault → k.inFault = true → k.lengthOk = false → refused .bad) ∧
      (s.setup.load = .loaded → s.join.leaveWait ≠ none → refused .state) ∧
      (s.setup.load = .loaded → s.join.leaveWait = none → s.fromPlanner k.sender = false → refused .owner) ∧
      (s.setup.load = .loaded → s.join.leaveWait = none → s.fromPlanner k.sender = true → k.lengthOk = false →
        refused .bad))

/-! ## The cell line (chapter 3) -/

/-- A frame of another station that is received correctly makes the CRC veto count 0 and restarts the times that run: the
sender's last-heard time, the time of any frame, and a LISTENING station's join window. A void frame whose Sequence is no cause
of a MISMATCH counts as heard too, but a PRESENCE that shows LISTENING leaves the window alone. A QUIET station takes no count;
a station's own frame in a row for other stations' frames changes nothing (the model's choice for an event ruled out, log 3). -/
def Obligations.FrameHeardRestartsTheTimes : Prop :=
  ∀ (p : Station) (hd : FrameHeader) (shown : Option JoinShown) (s : State), s.line.active = true → p ≠ s.me →
    hd.source = p → headerMalformed hd = false → s.vetoesHeader hd = false →
    (s.join.st ≠ .quiet →
      (∃ t : State, exec (.otherFrameAccepted p) s = .next t ∧
        (shown ≠ some .listening → exec (.receivedFrameVoid ⟨hd, shown⟩) s = .next t) ∧
        (shown = some .listening → exec (.receivedFrameVoid ⟨hd, shown⟩) s = .next { t with join := s.join }) ∧
        t.line.crcVetoes = 0 ∧
        (∀ since, s.line.lastHeard[p.val]? = some (some since) → t.line.lastHeard[p.val]? = some (some s.clock)) ∧
        (∀ n : Nat, n ≠ p.val → t.line.lastHeard[n]? = s.line.lastHeard[n]?) ∧
        (s.line.heardAny ≠ none → t.line.heardAny = some s.clock) ∧
        (s.join.st = .listening → s.setup.load = .loaded → t.join.window = some s.clock) ∧
        { t with line := s.line, join := s.join } = s)) ∧
    (s.join.st = .quiet → exec (.otherFrameAccepted p) s = .next s) ∧
    exec (.otherFrameAccepted s.me) s = .next s

/-- A share frame whose Sequence is not one above the share sequence of the receiving table, JOIN apart, detaches the station
with cause MISMATCH, whether the cell accepted it or made it void; the frame is not applied. -/
def Obligations.SequenceMismatchDetaches : Prop :=
  ∀ (c : Instr) (p : Station) (q : BitVec 16) (f : ShareFrame) (hd : FrameHeader) (tbl : Table) (s : State),
    s.line.active = true → p ≠ s.me → s.table = some tbl → q ≠ tbl.seq + 1 →
    (c.shareFrame = some (p, q, f) → (∀ fields, f ≠ .join fields) →
      exec c s = .next ((s.heard p true).detach .mismatch).finish) ∧
    (hd.source = p → hd.seq = q → headerMalformed hd = false → isShareKind hd.kind.toNat = true →
      hd.kind.toNat ≠ joinKind → exec (.receivedFrameVoid ⟨hd, none⟩) s = .next ((s.heard p true).detach .mismatch).finish)

/-- A detach of a station in a cell discards the table, the claims, M1, M2 and the LOST set, ends run and excursions, leaves a
resolved mounted probe UNRESOLVED, marks every FRESH peer reading SUBST, sets DETACH with the cause, and makes the station
LISTENING, or QUIET for VETO_LIMIT. A LISTENING or QUIET station does not detach. -/
def Obligations.DetachDiscardsTheCell : Prop :=
  ∀ (cause : DetachCause) (s : State),
    (s.join.st = .listening ∨ s.join.st = .quiet → s.detach cause = s) ∧
    (s.join.st = .joining ∨ s.join.st = .attached →
      let t := s.detach cause
      t.table = none ∧ t.agent = { current := none, retired := none } ∧ t.line.m1 = [] ∧ t.line.m2 = [] ∧
      t.line.lostSet = 0 ∧ t.line.crcVetoes = 0 ∧ t.line.voids = 0 ∧ t.run.st = .none ∧ t.run.owner = none ∧
      t.run.queue = [] ∧ t.run.stack = [] ∧ t.chg.change = none ∧ t.qual = none ∧ t.soak = none ∧
      (∀ id, s.mounted = .resolved id → s.chg.change = none → t.mounted = .unresolved (.id id)) ∧
      (s.chg.change = none → t.head.waiting = none) ∧ (∀ e ∈ t.thermal.peers, e.st ≠ .fresh) ∧
      t.thermal.peers.length = s.thermal.peers.length ∧ t.join.st = (if cause = .vetoLimit then .quiet else .listening) ∧
      t.arm.energized = s.arm.energized ∧ t.axes = s.axes ∧ t.clock = s.clock ∧
      (s.events.mask.getLsbD 9 = true → s.events.slots.length = 12 →
        ∃ slot, t.events.slots[9]? = some slot ∧ slot.pending = some (.detach cause)))

/-- A CRC veto and an abandoned frame count alike, unless the station is QUIET; the eighth without a frame received correctly
between makes a LISTENING station QUIET and detaches a station in a cell with cause VETO_LIMIT, which leads to QUIET. -/
def Obligations.EightVetoesLeadToQuiet : Prop :=
  ∀ (cause : AbandonCause) (s : State), s.line.active = true → abandons cause = true →
    (s.join.st = .quiet → exec .crcVeto s = .next s ∧ exec (.frameAbandoned cause) s = .next s) ∧
    (s.join.st ≠ .quiet →
      exec (.frameAbandoned cause) s = exec .crcVeto s ∧
      (s.line.crcVetoes < 7 → exec .crcVeto s =
        .next ({ s with line := { s.line with crcVetoes := s.line.crcVetoes + 1 } } : State).finish) ∧
      (7 ≤ s.line.crcVetoes → s.join.st = .listening →
        ∃ u : State, exec .crcVeto s = .next u.finish ∧ u.join.st = .quiet ∧ u.join.quietSince = some s.clock ∧
          u.line.crcVetoes = 0 ∧ u.line.m1 = [] ∧ u.line.m2 = []) ∧
      (7 ≤ s.line.crcVetoes → s.join.st ≠ .listening → exec .crcVeto s = .next (s.detach .vetoLimit).finish))

/-- At an idle the frame offered is that of the first mailbox with content: M0 and M1 with a table (a JOIN without one), M2
while M1 is empty, M3, M4, then POINTS, THERMAL, PRESENCE; a QUIET station and one with a frame on the line offer none. -/
def Obligations.FrameBeginOffersTheFirstMailbox : Prop :=
  ∀ s : State,
    (s.line.active = false ∨ s.line.tx ≠ none ∨ s.join.st = .quiet →
      exec .frameBegin s = .next s) ∧
    (s.line.active = true → s.line.tx = none → s.join.st ≠ .quiet →
      ∃ t : State, exec .frameBegin s = .next t ∧ { t with line := s.line } = s ∧ { t.line with tx := none } = s.line ∧
        (s.table ≠ none → s.line.lostSet ≠ 0 → t.line.tx = some (offer (.lost s.line.lostSet) 15)) ∧
        (s.line.lostSet = 0 →
          (∀ e rest, s.line.m1 = e :: rest → (s.table ≠ none ∨ e.isJoin = true) →
            t.line.tx = some (offer (.share e (s.shareFrame e)) 15)) ∧
          (s.line.m1 = [] →
            (∀ part rest, s.line.m2 = part :: rest →
              t.line.tx = some (offer (.snapshot part) (BitVec.ofNat 4 part.dest.val))) ∧
            (s.line.m2 = [] →
              (∀ r, s.line.m3 = some r → t.line.tx = some (offer (.reply r) (BitVec.ofNat 4 r.dest.val))) ∧
              (s.line.m3 = none →
                (∀ e rest, s.events.pending = e :: rest →
                  t.line.tx = some (offer (.event (packEvents 48 (e :: rest))) s.eventDestination)) ∧
                (s.events.pending = [] →
                  (∀ pt rest, s.cap.ring.take s.line.points = pt :: rest →
                    t.line.tx = some (offer (.points (pt :: rest)) (s.addressTo pt.report))) ∧
                  (s.cap.ring.take s.line.points = [] →
                    (∀ content, s.line.thermal = some content → t.line.tx = some (offer (.thermal content) 15)) ∧
                    (s.line.thermal = none → s.line.presence = true →
                      t.line.tx = some (offer (.presence s.presenceFields) 15)) ∧
                    (s.line.thermal = none → s.line.presence = false → t.line.tx = none))))))))

/-- The station that wins arbitration writes the Sequence field: one above its share sequence for a share frame with a table, 1 for a
founding JOIN and 0 for an ordinary JOIN without one, 0 for any other frame. The one that loses leaves the line with its frame still in
its mailbox and no count changed (the loss is the row's whole effect: log 19). A WITHDRAW that wins writes one above the share sequence
too, and makes the timeout of an EXPIRING claim take effect: the claim is retired, and the waiting requester's run ends with ZONE_TIMEOUT;
a LOOKAHEAD requester's wait fails without a fault. (A CONFLICT claim has no timer, and comes to no timeout in a run; that it would fail
as quietly is the model's choice, log 90.) Without an EXPIRING claim it writes the Sequence alone. -/
def Obligations.ArbitrationWritesTheSequence : Prop :=
  ∀ (tx : Tx) (s : State), s.line.tx = some tx → tx.won = false →
    (∃ t : State, exec .arbitrationLost s = .next t ∧ t.line.tx = none ∧ t.line.m1 = s.line.m1 ∧ t.line.m2 = s.line.m2 ∧
      t.line.m3 = s.line.m3 ∧ t.line.lostSet = s.line.lostSet ∧ t.line.voids = s.line.voids ∧
      t.line.crcVetoes = s.line.crcVetoes ∧ t.line.thermal = s.line.thermal ∧ t.line.presence = s.line.presence ∧
      t.events.pending = s.events.pending ∧ t.cap = s.cap) ∧
    (tx.content.isWithdraw = false → ∃ q, exec .arbitrationWon s =
        .next { s with line := { s.line with tx := some { tx with won := true, seq := q } } } ∧
      (∀ tbl e f, tx.content = .share e f → s.table = some tbl → q = tbl.seq + 1) ∧
      (∀ tbl stations, tx.content = .lost stations → s.table = some tbl → q = tbl.seq + 1) ∧
      (∀ e fields, tx.content = .share e (.join fields) → s.table = none → q = if fields.founding then 1 else 0) ∧
      ((∀ e f, tx.content ≠ .share e f) → (∀ stations, tx.content ≠ .lost stations) → q = 0)) ∧
    (tx.content.isWithdraw = true → ∃ q, (∀ tbl, s.table = some tbl → q = tbl.seq + 1) ∧
      let won : State := { s with line := { s.line with tx := some { tx with won := true, seq := q } } }
      let retired (k : CurrentClaim) : Agent :=
        { s.agent with current := none, retired := some { items := k.items, phase := .withdrawing, serial := k.serial } }
      ((∀ k, s.agent.current = some k → k.phase ≠ .expiring) → exec .arbitrationWon s = .next won.finish) ∧
      ∀ k, s.agent.current = some k → k.phase = .expiring →
        (k.requester = .lookahead ∨ k.requester = .conflict →
          exec .arbitrationWon s = .next ({ won with agent := retired k } : State).finish) ∧
        (k.requester ≠ .lookahead → k.requester ≠ .conflict →
          ∃ u : State, exec .arbitrationWon s = .next u.finish ∧ u.agent = retired k ∧
            u.line.tx = some { tx with won := true, seq := q } ∧ u.lastFault = some .zoneTimeout ∧
            u.run.st = .none ∧ u.arm.motion = none ∧ u.arm.todo = none))

/-- An own frame that is accepted leaves the line, clears the void count, restarts the presence timer (one that a RESTART taken in
CONFIG_FAULT has stopped too: the model's choice, log 89) and takes its content out of its mailbox: the head of M1 or M2, the REPLY, the
stations the LOST carried, the points it carried, the PRESENCE; of an EVENT's kinds, those not renewed since it began. A share frame or
LOST then awaits its application in line order (two rows for one frame: log 4), and an ordinary JOIN without a founding image begins the
join. The station's own PRESENCE is recorded as another's is, in a founding image too (log 21). A stale frame, whose content has left its
mailbox or has been replaced while it was on the line, takes nothing out; its share frame goes to the block that the join state names all
the same, in QUIET to none. -/
def Obligations.AcceptedFrameLeavesItsMailbox : Prop :=
  ∀ (tx : Tx) (s : State), s.line.tx = some tx → tx.won = true →
    let carries (f : ShareFrame) : Prop :=
      (∃ e, tx.content = .share e f) ∨ ∃ stations, tx.content = .lost stations ∧ f = .lost stations
    ∃ u : State, exec .ownFrameAccepted s = .next u.finish ∧ u.line.tx = none ∧ u.line.voids = 0 ∧
      u.line.presenceTimer = some s.clock ∧
      (∀ carried, tx.content = .event carried → ∀ (k : Nat) (slot : EventSlot), s.events.slots[k]? = some slot →
        u.events.slots[k]? = some (if carried.any (fun e => e.kind == k) = false then slot
          else if slot.renewed = true then { slot with renewed := false } else { pending := none, renewed := false })) ∧
      (∀ fields, tx.content = .presence fields →
        (∀ tbl, s.table = some tbl → u.table = some (tbl.publish s.me fields.standing)) ∧
        (s.table = none → s.join.st = .joining → s.join.logging = true → s.join.presences.length < 64 →
          u.join.presences = s.join.presences ++
            [{ sender := s.me, standing := fields.standing, before := s.join.log.length }]) ∧
        (s.table = none → s.join.st = .listening →
          u.join.image = s.join.image.map (fun image => image.publish s.me fields.standing) ∧
          (JoinShown.showsCell fields.join = false → u.line.m1 = s.line.m1))) ∧
      (∀ f, carries f → (tx.stale = false ∨ s.join.st ≠ .quiet) →
        ((∀ fields, f = .join fields → fields.founding = true ∨ s.join.image ≠ none) →
          u.line.awaiting = some f ∧ u.join = s.join) ∧
        (∀ fields, f = .join fields → fields.founding = false → s.join.image = none →
          u.line.awaiting = none ∧ u.join.st = .joining ∧ u.join.logging = true ∧ u.join.wait = some s.clock ∧
          u.join.log = [{ sender := s.me, seq := tx.seq, frame := .join fields }])) ∧
      ((∀ f, ¬ carries f) → u.line.awaiting = s.line.awaiting) ∧
      (tx.stale = true → u.line.m2 = s.line.m2 ∧ u.line.m3 = s.line.m3 ∧ u.line.lostSet = s.line.lostSet ∧
        u.line.thermal = s.line.thermal ∧ u.line.presence = s.line.presence ∧ u.cap = s.cap ∧
        ((∀ fields, tx.content ≠ .presence fields) → u.line.m1 = s.line.m1 ∧ ((∀ f, ¬ carries f) → u.join = s.join)) ∧
        (s.join.st = .quiet → u.line.awaiting = s.line.awaiting ∧ u.join = s.join)) ∧
      (tx.stale = false →
        (∀ stations, tx.content = .lost stations → u.line.lostSet = s.line.lostSet &&& ~~~ stations) ∧
        (∀ e f, tx.content = .share e f → u.line.m1 = s.line.m1.drop 1) ∧
        (∀ part, tx.content = .snapshot part → u.line.m2 = s.line.m2.drop 1) ∧
        (∀ r, tx.content = .reply r → u.line.m3 = none) ∧
        (∀ carried, tx.content = .points carried → u.cap.ring = s.cap.ring.drop carried.length ∧
          u.cap.drain = (s.cap.drain && !u.cap.ring.isEmpty)) ∧
        (∀ content, tx.content = .thermal content → tx.renewed = false → u.line.thermal = none) ∧
        (∀ fields, tx.content = .presence fields → u.line.presence = false))

/-- A bit error, and a veto or a missing ack after the frame was sent, make the own frame void: its content stays in its
mailbox and one void is counted; but a CLAIM of the retired claim leaves M1, and the retired set is forgotten. The fourth in a
row makes the count 0 again: a station in a cell detaches with cause VOID_LIMIT, a LISTENING station goes on with its frames in
their mailboxes. A QUIET station makes no count. (Before the frame has won arbitration the row OWN_FRAME_VOID changes nothing: log 3.) -/
def Obligations.VoidFrameStaysInItsMailbox : Prop :=
  ∀ (tx : Tx) (s : State), s.line.tx = some tx →
    let retiring : Prop := tx.stale = false ∧ ∃ items n f r, tx.content = .share (.claim items n) f ∧
      s.agent.retired = some r ∧ r.phase = .retiring ∧ r.serial = n
    (tx.won = true → exec .ownFrameVoid s = exec .bitError s) ∧ (tx.won = false → exec .ownFrameVoid s = .next s) ∧
    (s.line.voids < 3 ∨ s.join.st = .listening ∨ s.join.st = .quiet → ∃ u : State, exec .bitError s = .next u.finish ∧ u.line.tx = none ∧
      u.line.voids = (if s.join.st = .quiet then s.line.voids else if s.line.voids < 3 then s.line.voids + 1 else 0) ∧ u.line.m2 = s.line.m2 ∧ u.line.m3 = s.line.m3 ∧
      u.line.lostSet = s.line.lostSet ∧ u.line.thermal = s.line.thermal ∧ u.line.presence = s.line.presence ∧
      u.events.pending = s.events.pending ∧ u.cap = s.cap ∧ u.join = s.join ∧ u.table = s.table ∧ u.arm = s.arm ∧
      u.agent.current = s.agent.current ∧
      (¬ retiring → u.line.m1 = s.line.m1 ∧ u.agent = s.agent) ∧
      (retiring → u.line.m1 = s.line.m1.drop 1 ∧ u.agent.retired = none)) ∧
    (3 ≤ s.line.voids → s.join.st = .attached ∨ s.join.st = .joining →
      ∃ u : State, exec .bitError s = .next u.finish ∧ u.line.voids = 0 ∧ u.join.st = .listening ∧ u.table = none ∧
        u.line.m1 = [] ∧ u.line.m2 = [] ∧ u.agent.retired = none ∧
        (s.events.mask.getLsbD 9 = true → s.events.slots.length = 12 →
          ∃ slot, u.events.slots[9]? = some slot ∧ slot.pending = some (.detach .voidLimit)))

/-- The timers of the line, the join unit and the claim agent: PRESENCE is offered 100 ms after the last own frame, a silent peer
joins the LOST set after 400 ms, an isolated station detaches, QUIET ends in LISTENING with a fresh window, a report timeout
makes the report decision, the timeout of a PENDING claim puts a WITHDRAW at the tail of M1, the join window's end queues a
founding JOIN or sets the founding mark of a JOIN that waits, and the join wait's end begins the join again with a new ordinary
JOIN at the tail of M1, its log, records and parts discarded. An expiry brings the clock to its moment (the model's choice,
log 2); a timer that does not run, or whose state is gone, has no expiry, and the row changes nothing (log 3). -/
def Obligations.LineTimersActAtTheirEnd : Prop :=
  ∀ (since : Clock) (peer : Station) (s : State),
    (s.line.presenceTimer = some since → exec .presenceTimerExpiry s = .next ({ s.reach since 100 with
      line := { s.line with presence := true, presenceTimer := none } })) ∧
    (s.line.presenceTimer = none → exec .presenceTimerExpiry s = .next s) ∧
    (s.join.st = .attached → s.line.lastHeard.getD peer.val none = some since →
      exec (.peerSilence peer) s = .next ({ s.reach since 400 with
        line := { s.line with lostSet := s.line.lostSet ||| stationBit peer } })) ∧
    (s.join.st ≠ .attached → exec (.peerSilence peer) s = .next s ∧ exec .isolation s = .next s) ∧
    (s.join.st = .attached → s.line.heardAny = some since → s.notAlone = true →
      exec .isolation s = .next ((s.reach since 400).detach .isolated).finish) ∧
    (s.join.st = .attached → s.notAlone = false → exec .isolation s = .next s) ∧
    (s.join.st = .quiet → s.join.quietSince = some since → ∃ t : State, exec .quietEnd s = .next t ∧
      t.join.st = .listening ∧ (s.setup.load = .loaded → t.join.window = some t.clock) ∧
      { t with clock := s.clock, join := s.join } = s) ∧
    (s.join.st ≠ .quiet → exec .quietEnd s = .next s) ∧
    (∀ oldest rest, s.cap.ring = oldest :: rest →
      exec .reportTimerExpiry s = .next (s.reach oldest.time s.cap.timeout.toNat).decideReport) ∧
    (s.cap.ring = [] → exec .reportTimerExpiry s = .next s) ∧
    (∀ k, s.agent.current = some k → k.phase = .pending → k.timer = some since → s.line.m1.length < 8 →
      exec .claimTimerExpiry s = .next ({ s.reach since s.claimTimeout with
        line := { s.line with m1 := s.line.m1 ++ [.withdraw] }
        agent := { s.agent with current := some { k with phase := .expiring, timer := none } } } : State).finish) ∧
    ((∀ k, s.agent.current = some k → k.phase ≠ .pending ∨ k.timer = none) → exec .claimTimerExpiry s = .next s) ∧
    (s.join.st = .listening → s.join.window = some since → s.line.m1 = [] → s.detachDue = none → s.arm.st ≠ .still →
      exec .joinWindowExpiry s = .next ({ s.reach since 1000 with
        line := { s.line with m1 := [.join true] }
        join := { s.join with window := none, image := none } })) ∧
    (s.join.st = .listening → s.join.window = some since → s.line.m1 = [.join false] → s.m1OnLine = false →
      exec .joinWindowExpiry s = .next ({ s.reach since 1000 with
        line := { s.line with m1 := [.join true] }
        join := { s.join with window := none, image := none } })) ∧
    (s.join.st ≠ .listening ∨ s.join.window = none → exec .joinWindowExpiry s = .next s) ∧
    (s.join.wait = some since → s.line.m1.length < 8 →
      exec .joinWaitExpiry s = .next ({ s.reach since 1000 with
        line := { s.line with m1 := s.line.m1 ++ [.join false] }
        join := { s.join with logging := false, log := [], presences := [], parts := [], wait := none } } :
          State).finish) ∧
    (s.join.wait = none → exec .joinWaitExpiry s = .next s)

/-- The report decision fills the POINTS slot when a report is due (the level reached, the oldest point as old as the timeout, or
the drain mark set) with the oldest point, and with the second when it has the same report address; otherwise the slot is
empty. A POINTS frame on the line puts the decision off. -/
def Obligations.ReportDecisionNamesTheOldestPoints : Prop :=
  ∀ s : State,
    (s.pointsOnLine = true → s.decideReport = s) ∧
    (s.pointsOnLine = false →
      (s.cap.ring = [] → s.decideReport.line.points = 0) ∧
      (∀ a, s.cap.ring = [a] → s.decideReport.line.points = if s.reportDue then 1 else 0) ∧
      (∀ a b rest, s.cap.ring = a :: b :: rest →
        s.decideReport.line.points = if s.reportDue then (if a.report = b.report then 2 else 1) else 0) ∧
      (∀ a rest, s.cap.ring = a :: rest →
        (s.reportDue = true ↔ s.cap.level.toNat ≤ s.cap.ring.length ∨
          s.cap.timeout.toNat ≤ (s.clock - a.time).toNat ∨ s.cap.drain = true)) ∧
      { s.decideReport with line := s.line } = s ∧ { s.decideReport.line with points := s.line.points } = s.line)

/-- The frame between its sender's bits and its judgement. On the line a bit of the opposite level follows every five of equal
level, so that no six of equal level come; a receiver that takes the inserted bits out reads what was sent. It abandons a
frame with six bits of equal level or with a malformed header, finds a CRC mismatch where the CRC it computes from Kind to the
payload's end is another, and otherwise has received the frame correctly. It drives the ack slot for a correct frame, with the
veto slot for BUSY and MISMATCH, the veto slot for a CRC mismatch, an error flag for an abandoned frame, and nothing in QUIET;
it takes the frame as accepted with the veto slot recessive, and in QUIET the ack slot dominant as well. A sender that reads its bits as
it drove them finds what stands in the two slots, whatever End reads; a recessive bit read dominant has lost the frame in the
arbitration field, where it drives no more (also where that bit is the sixth of equal level: the model's choice, log 79), and is a bit
error behind it, where it drives an error flag of six dominant bits next; six equal bits it reads are a bit error where no
recessive bit was read dominant, and never the frame's end. A veto makes the frame void, an ack without one accepted; with neither a
sender accepts it whose roster lists nobody else in the cell, or one without a table but for an ordinary JOIN. -/
def Obligations.FramesAreStuffedJudgedAndAnswered : Prop :=
  (∀ (bits before rest : List Bool) (b : Bool), stuff bits = before ++ List.replicate 5 b ++ rest →
    ∃ after, rest = (!b) :: after) ∧
  (∀ bits : List Bool, unstuff (stuff bits) = some bits) ∧
  (∀ (before after : List Bool) (b : Bool), receive (before ++ List.replicate 6 b ++ after) = .abandoned) ∧
  (∀ (h : FrameHeader) (payload : List Byte), payload.length = h.length.toNat →
    (headerMalformed h = true → receive (stuff (frameBits h payload)) = .abandoned) ∧
    (headerMalformed h = false → receive (stuff (frameBits h payload)) = .correct h payload ∧
      ∀ crc : BitVec 16, crc ≠ crc16 (coveredBits h payload) →
        receive (stuff ([false] ++ bitsOf 2 h.cls.toNat ++ bitsOf 3 h.source.val ++ coveredBits h payload ++
          bitsOf 16 crc.toNat)) = .mismatch)) ∧
  (∀ s : State, s.line.active = true →
    (s.join.st = .quiet → (∀ r, s.answers r = { ack := false, veto := false, flag := false }) ∧
      ∀ ack veto, s.receiverAccepts ack veto = (!veto && ack)) ∧
    (s.join.st ≠ .quiet → s.answers .abandoned = { ack := false, veto := false, flag := true } ∧
      s.answers .mismatch = { ack := false, veto := true, flag := false } ∧
      (∀ h payload, s.answers (.correct h payload) =
        { ack := true, veto := s.busyFor h || s.vetoesHeader h, flag := false }) ∧
      ∀ ack veto, s.receiverAccepts ack veto = !veto)) ∧
  (∀ (h : FrameHeader) (payload : List Byte),
    let sent := stuff (frameBits h payload)
    (∀ (ack veto : Bool) (ending : List Bool), ending.length = 7 →
      senderFinds h payload (sent ++ [!ack, !veto] ++ ending) = .slots ack veto ∧
      senderDrives h payload (sent ++ [!ack, !veto] ++ ending) = sent ++ List.replicate 9 true) ∧
    (∀ before after rest, sent = before ++ true :: after →
      (before.length < fieldLength h payload → senderFinds h payload (before ++ false :: rest) = .lost ∧
        senderDrives h payload (before ++ false :: rest) = before ++ [true]) ∧
      (fieldLength h payload ≤ before.length → senderFinds h payload (before ++ false :: rest) = .bitError ∧
        senderDrives h payload (before ++ false :: rest) = before ++ [true] ++ List.replicate 6 false)) ∧
    (∀ (before rest : List Bool) (b : Bool), before.length + 6 ≤ sent.length →
      let reads := before ++ List.replicate 6 b ++ rest
      (∀ ack veto, senderFinds h payload reads ≠ .slots ack veto) ∧
      ((∀ i < before.length + 6, sent[i]? = some true → reads[i]? = some true) →
        senderFinds h payload reads = .bitError ∧
        ∃ k < before.length + 6, senderDrives h payload reads = sent.take (k + 1) ++ List.replicate 6 false))) ∧
  ∀ (tx : Tx) (s : State),
    s.ownFrameEnd tx .lost = .arbitrationLost ∧ s.ownFrameEnd tx .bitError = .bitError ∧
    (∀ ack, s.ownFrameEnd tx (.slots ack true) = .ownFrameVoid) ∧ s.ownFrameEnd tx (.slots true false) = .ownFrameAccepted ∧
    (∀ t, s.table = some t → t.roster.length = 8 → s.ownFrameEnd tx (.slots false false) =
      (if ∀ n : Station, n ≠ s.me → (t.entry n).state.inCell = false then .ownFrameAccepted else .ownFrameVoid)) ∧
    (s.table = none →
      let ordinaryJoin : Prop := ∃ e j, tx.content = .share e (.join j) ∧ j.founding = false
      (ordinaryJoin → s.ownFrameEnd tx (.slots false false) = .ownFrameVoid) ∧
      (¬ ordinaryJoin → s.ownFrameEnd tx (.slots false false) = .ownFrameAccepted))

/-! ## Joining (chapter 5) -/

/-- The founding JOIN of a LISTENING station, accepted, makes it the founder: ATTACHED, with the table whose first frame the JOIN is:
sequence 1, the station ATTACHED with its standing set, every zone of it held, every other item free, every slot UNKNOWN and
NOT_REPORTED, the list empty. ATTACH is set, and a rack host queues its presences. Arm, run and axes stay as they are; then the arm
goes on as at the end of any command (`finish`), where it is STILL with what may start. -/
def Obligations.FoundingJoinBuildsTheTable : Prop :=
  ∀ (fields : JoinFields) (s : State), s.line.awaiting = some (.join fields) → fields.founding = true → s.table = none →
    s.join.st = .listening →
    ∃ (u : State) (tbl : Table), exec .foundingJoin s = .next u.finish ∧ u.table = some tbl ∧ u.join.st = .attached ∧
      tbl.seq = 1 ∧ tbl.claims = [] ∧ tbl.slots = List.replicate 8 { contents := .unknown, sensed := .notReported } ∧
      tbl.entry s.me = { state := .attached, role := fields.role, serves := fields.serves, conflict := 0,
                         published := fields.standing } ∧
      (∀ n : Station, n ≠ s.me → (tbl.entry n).state = .absent) ∧
      (∀ i : Nat, i < 24 → tbl.holder i =
        if i < 16 ∧ fields.standing.getLsbD i = true then .station s.me else .free) ∧
      u.line.heardAny = some s.clock ∧ u.line.awaiting = none ∧ u.arm = s.arm ∧ u.run = s.run ∧ u.axes = s.axes ∧
      u.setup = s.setup ∧ u.cap = s.cap ∧ u.agent = s.agent ∧
      (s.line.m1 = [] → u.line.m1 = if s.setup.straps.rackHost then [.slotSense s.rack] else []) ∧
      (s.events.mask.getLsbD 10 = true → s.events.slots.length = 12 →
        ∃ slot, u.events.slots[10]? = some slot ∧ slot.pending = some .attach)

/-- A JOINING station that has not adopted collects the parts of one image: a part of another image takes the place of those
held, a part of the image held the place of the part with its number. With all five, the station adopts the table they spell,
with the logged frames after the image's place applied, and ATTACH joins M1; an image whose place is not in the log is discarded.
In any other state a part is heard and nothing more. -/
def Obligations.SnapshotPartsAreCollectedAndAdopted : Prop :=
  (∀ (held : List SnapshotPart) (part : SnapshotPart),
    ((∃ q ∈ held, q.seq ≠ part.seq) → collectPart held part = [part]) ∧
    ((∀ q ∈ held, q.seq = part.seq) →
      (collectPart held part).filter (fun q => q.number == part.number) = [part] ∧
      ∀ n, n ≠ part.number →
        (collectPart held part).filter (fun q => q.number == n) = held.filter (fun q => q.number == n))) ∧
  ∀ (p : Station) (part : SnapshotPart) (s : State), s.line.active = true → p ≠ s.me →
    (s.join.st ≠ .joining ∨ s.join.logging = false ∨ s.table ≠ none → exec (.snapshot p part) s = .next (s.heard p true)) ∧
    (s.join.st = .joining → s.join.logging = true → s.table = none →
      let h := s.heard p true
      let parts := collectPart s.join.parts part
      (tableOfParts parts s.clock = none → exec (.snapshot p part) s =
        .next (({ h with join := { h.join with parts := parts } } : State).finish)) ∧
      (∀ tbl cause, tableOfParts parts s.clock = some (tbl, cause) → imagePlace cause tbl.seq s.join.log = none →
        exec (.snapshot p part) s = .next (({ h with join := { h.join with parts := [] } } : State).finish)) ∧
      (∀ tbl cause place, tableOfParts parts s.clock = some (tbl, cause) →
        imagePlace cause tbl.seq s.join.log = some place → s.line.m1.length < 8 →
        ∃ u : State, exec (.snapshot p part) s = .next u.finish ∧ u.join.st = .joining ∧ u.join.logging = false ∧
          u.join.log = [] ∧ u.join.parts = [] ∧ u.join.wait = none ∧
          u.table = some (replay s.clock s.join.presences place (s.join.log.drop place) tbl) ∧
          u.line.m1 = s.line.m1 ++ [.attach]))

/-- A PRESENCE from another station writes its published standing set into the table, when the roster shows it JOINING or ATTACHED;
without a table a JOINING station that logs keeps a record of it, up to 64; a 65th fails the join, and an ordinary JOIN is appended anew
(that the wait timer stops then: the model's choice, log 86). A LISTENING station with a good image that is shown JOINING, ATTACHED or
JOIN_CONFLICT has heard the cell: with no JOIN in M1 it appends an ordinary one, and a founding JOIN that waits there becomes ordinary.
Shown LISTENING or QUIET, it has not. A PRESENCE is published in a founding image too (log 21). -/
def Obligations.PresenceWritesThePublishedSet : Prop :=
  ∀ (p : Station) (fields : PresenceFields) (s : State), s.line.active = true → p ≠ s.me →
    let h := s.heard p (fields.join != .listening)
    (∀ tbl, s.table = some tbl →
      exec (.presence p fields) s =
        .next ({ h with table := some (tbl.publish p fields.standing) } : State).finish ∧
      ((tbl.entry p).state = .joining ∨ (tbl.entry p).state = .attached → p.val < tbl.roster.length →
        ((tbl.publish p fields.standing).entry p).published = fields.standing ∧
        (∀ n : Station, n ≠ p → (tbl.publish p fields.standing).entry n = tbl.entry n)) ∧
      ((tbl.entry p).state = .absent ∨ (tbl.entry p).state = .lost → tbl.publish p fields.standing = tbl)) ∧
    (s.table = none → s.join.st = .joining → s.join.logging = true → s.join.presences.length < 64 →
      exec (.presence p fields) s = .next ({ h with join := { h.join with
        presences := s.join.presences ++
          [{ sender := p, standing := fields.standing, before := s.join.log.length }] } } : State).finish) ∧
    (s.table = none → s.join.st = .joining → s.join.logging = true → 64 ≤ s.join.presences.length → s.line.m1.length < 8 →
      exec (.presence p fields) s = .next ({ h with
        join := { h.join with logging := false, log := [], presences := [], parts := [], wait := none }
        line := { h.line with m1 := s.line.m1 ++ [.join false] } } : State).finish) ∧
    (s.table = none → s.join.st = .listening → s.setup.load = .loaded →
      let image := s.join.image.map (fun t : Table => t.publish p fields.standing)
      let ends (m1 : List M1Entry) : Prop := exec (.presence p fields) s = .next ({ h with
        join := { h.join with image := image }, line := { h.line with m1 := m1 } } : State).finish
      h.join.window = (if fields.join = .listening then s.join.window else some s.clock) ∧
      (fields.join = .joining ∨ fields.join = .attached ∨ fields.join = .joinConflict →
        (s.line.m1 = [] → ends [.join false]) ∧
        (∀ mark, s.line.m1 = [.join mark] → s.m1OnLine = false → ends [.join false])) ∧
      (fields.join = .listening ∨ fields.join = .quiet → ends s.line.m1))

/-! ## The share table (chapters 4, 5, 8) -/

/-- An accepted share frame (the rows LOST, JOIN, OBSERVED_FOUNDING_JOIN, ATTACH, LEAVE, CLAIM, WITHDRAW, RELEASE, CLEAR, SLOT_SET and
SLOT_SENSE) is applied to the table of a station that holds one, at its end: another station's in Sequence order (a JOIN whatever its
Sequence), the station's own when it awaits its application (log 4); the station that the application makes the answering one puts the
image's five parts in M2. A LOST that names the station itself, being in the cell, detaches it with cause DECLARED_LOST instead. The
station's own ATTACH makes a JOINING station ATTACHED, with the drives de-energized and its conflict set claimed where that set is not
empty. After the walk, a LOST or LEAVE that takes the owner out of the cell ends its run with OWNER_LOST (DETACHED with a detach due: log
15), an arm that travels by a controlled stop (in a stop that governs: log 55), and without a run flushes the queue (an excursion then
goes on: log 69); the FRESH peer entries of the stations gone stand in. Without a table the join unit takes the frame, a station's own
that is no JOIN as another's (log 4): a QUIET station ignores it, a JOINING one logs it, a 33rd failing the join (its wait timer stops
then: the model's choice, log 86), and a LISTENING one has heard the cell: an ordinary JOIN waits in M1, with a founding image kept from a
founding JOIN that is the first share frame heard, and every later frame applied to that image. -/
def Obligations.ShareFramesApplyInLineOrder : Prop :=
  (∀ (c : Instr) (p : Station) (q : BitVec 16) (f : ShareFrame) (tbl : Table) (s : State),
    c.shareFrame = some (p, q, f) → s.table = some tbl →
    (p = s.me ∧ s.line.awaiting = some f) ∨
      (p ≠ s.me ∧ s.line.active = true ∧ (q = tbl.seq + 1 ∨ ∃ fields, f = .join fields)) →
    let a := tbl.apply p f s.clock
    let attaches : Prop := p = s.me ∧ f = .attach ∧ s.join.st = .joining
    let gone := tbl.leaving p f
    ((∀ stations, f = .lost stations → stations.getLsbD s.me.val = false ∨ (tbl.entry s.me).state.inCell = false) →
      ∃ u : State, exec c s = .next u.finish ∧ u.table = some a.table ∧ u.clock = s.clock ∧
        u.setup = s.setup ∧ u.part = s.part ∧
        (∀ cap, a.capture = some cap → cap.by_ = s.me →
          u.line.m2 = (a.table.image cap.cause).map (fun part => { dest := cap.dest, part := part })) ∧
        (¬ attaches → u.axes = s.axes ∧ u.join.st = s.join.st) ∧
        (attaches → u.join.st = .attached ∧ u.line.heardAny = some s.clock ∧
          ((a.table.entry s.me).conflict = 0 → u.axes = s.axes ∧ u.arm.energized = s.arm.energized) ∧
          ((a.table.entry s.me).conflict ≠ 0 → u.arm.energized = false ∧ u.arm.st = .off ∧ u.arm.motion = none ∧
            u.axes = vmap (fun _ ch => { ch with setpoint := ch.pos }) s.axes ∧
            (s.agent.current = none → s.agent.retired = none →
              a.table.heldBy s.me &&& zoneItems (a.table.entry s.me).conflict = 0 →
              u.agent.current.map (fun k => (k.requester, k.items)) =
                some (.conflict, zoneItems (a.table.entry s.me).conflict))) ∧
          (s.events.mask.getLsbD 10 = true → s.events.slots.length = 12 →
            ∃ slot, u.events.slots[10]? = some slot ∧ slot.pending = some .attach)) ∧
        (∀ o, s.run.owner = some o → gone.getLsbD o.val = true →
          (s.run.st = .none → u.run = { s.run with queue := [], owner := none }) ∧
          (s.run.st ≠ .none → s.stopGoverns = true → u.run = s.run ∧ u.arm.stopping = s.arm.stopping) ∧
          (s.run.st ≠ .none → s.stopGoverns = false → s.travelling = false →
            u.run.st = .none ∧ u.run.owner = none ∧ u.run.queue = [] ∧ u.run.stack = [] ∧
            (s.events.mask.getLsbD 1 = true → s.events.slots.length = 12 → ∃ slot, u.events.slots[1]? = some slot ∧
              (slot.pending = some (.runEnd .ownerLost 0) ∨
                (u.detachDue ≠ none ∧ slot.pending = some (.runEnd .detached 0))))) ∧
          (s.run.st ≠ .none → s.stopGoverns = false → s.travelling = true →
            u.run.st = s.run.st ∧ u.run.queue = [] ∧ u.run.stack = [] ∧ u.arm.motion = s.arm.motion ∧
            u.arm.stopping.map (·.after) = some (.endRun .ownerLost 0) ∧
            (s.arm.stopping.map (·.fast) ≠ some true → u.arm.st = .decelerating))) ∧
        ∀ (n : Nat) (e : PeerEntry), s.thermal.peers[n]? = some e →
          u.thermal.peers[n]? = some (if gone.getLsbD e.station.toNat = true ∧ e.st = .fresh
            then { e with st := .subst, since := some s.clock } else e)) ∧
    (∀ n : Station, gone.getLsbD n.val = true ↔ (tbl.entry n).state.inCell = true ∧
      ((∃ stations, f = .lost stations ∧ stations.getLsbD n.val = true) ∨ (f = .leave ∧ n = p))) ∧
    (∀ stations, f = .lost stations → stations.getLsbD s.me.val = true → (tbl.entry s.me).state.inCell = true →
      (s.join.st = .joining ∨ s.join.st = .attached) →
      ∃ u : State, exec c s = .next u.finish ∧ u.table = none ∧ u.join.st = .listening ∧
        (s.events.mask.getLsbD 9 = true → s.events.slots.length = 12 →
          ∃ slot, u.events.slots[9]? = some slot ∧ slot.pending = some (.detach .declaredLost)))) ∧
  ∀ (c : Instr) (p : Station) (q : BitVec 16) (f : ShareFrame) (s : State), c.shareFrame = some (p, q, f) →
    s.table = none →
    (p ≠ s.me ∧ s.line.active = true) ∨ (p = s.me ∧ s.line.awaiting = some f ∧ ∀ fields, f ≠ .join fields) →
    (s.join.st = .quiet → ∃ u : State, exec c s = .next u.finish ∧ u.table = none ∧ u.join = s.join ∧
      u.line.m1 = s.line.m1 ∧ u.arm = s.arm) ∧
    (s.join.st = .joining → s.join.logging = true →
      (∀ stations, f = .lost stations → stations.getLsbD s.me.val = false) →
      (s.join.log.length < 32 → ∃ u : State, exec c s = .next u.finish ∧ u.table = none ∧
        u.join = { s.join with log := s.join.log ++ [{ sender := p, seq := q, frame := f }] } ∧ u.axes = s.axes ∧
        u.arm = s.arm) ∧
      (32 ≤ s.join.log.length → s.line.m1.length < 8 → ∃ u : State, exec c s = .next u.finish ∧ u.join.logging = false ∧
        u.join.log = [] ∧ u.join.wait = none ∧ u.line.m1 = s.line.m1 ++ [.join false])) ∧
    (∀ stations, s.join.st = .joining → f = .lost stations → stations.getLsbD s.me.val = true →
      ∃ u : State, exec c s = .next u.finish ∧ u.join.st = .listening ∧
        (s.events.mask.getLsbD 9 = true → s.events.slots.length = 12 →
          ∃ slot, u.events.slots[9]? = some slot ∧ slot.pending = some (.detach .declaredLost))) ∧
    (s.join.st = .listening → s.setup.load = .loaded → s.line.m1 = [] →
      ∃ u : State, exec c s = .next u.finish ∧ u.table = none ∧ u.join.st = .listening ∧ u.join.heardShare = true ∧
        u.join.window = (if p = s.me then s.join.window else some s.clock) ∧ u.line.m1 = [.join false] ∧ u.axes = s.axes ∧ u.arm = s.arm ∧
        (∀ fields, f = .join fields → fields.founding = true → s.join.heardShare = false →
          u.join.image = some (Table.found p fields)) ∧
        ((∀ fields, f = .join fields → fields.founding = false) ∨ s.join.heardShare = true →
          u.join.image = s.join.image.map (fun image => (image.apply p f s.clock).table)))

/-- RELEASE, WITHDRAW and CLEAR, each applied before the grant walk. A RELEASE frees the items of its set that its sender holds,
tests the contents of the slots it frees, and leaves the list alone. A WITHDRAW removes its sender's entry and frees nothing. A
CLEAR of an ATTACHED planner, with an item number of 0 to 23, frees that item if it is FENCED and leaves every slot record
alone. What frees or removes nothing changes nothing beyond the sequence, on a table with no grantable entry. -/
def Obligations.ReleaseWithdrawAndClearAreApplied : Prop :=
  ∀ (t : Table) (p : Station) (now : Clock), t.wellShaped →
    (∀ items : ItemSet,
      (∃ r : Table, (t.apply p (.release items) now).table = r.grantWalk.1 ∧
        (t.apply p (.release items) now).granted = r.grantWalk.2 ∧
        r.seq = t.seq + 1 ∧ r.roster = t.roster ∧ r.claims = t.claims ∧ r.answering = t.answering ∧
        (∀ i : Nat, i < 24 →
          r.holder i = if items.getLsbD i = true ∧ t.holder i = .station p then .free else t.holder i) ∧
        (∀ n : Nat, n < 8 →
          r.slots[n]? = if items.getLsbD (16 + n) = true ∧ t.holder (16 + n) = .station p
            then t.slots[n]?.map SlotRec.tested else t.slots[n]?)) ∧
      (t.nothingGrantable → (∀ i : Nat, i < 24 → items.getLsbD i = true → t.holder i ≠ .station p) →
        (t.apply p (.release items) now).table = { t with seq := t.seq + 1 })) ∧
    ((∃ r : Table, (t.apply p .withdraw now).table = r.grantWalk.1 ∧ (t.apply p .withdraw now).granted = r.grantWalk.2 ∧
        r = { t with seq := t.seq + 1, claims := t.claims.filter (fun e => e.station != p) }) ∧
      (t.nothingGrantable → (∀ e ∈ t.claims, e.station ≠ p) →
        (t.apply p .withdraw now).table = { t with seq := t.seq + 1 })) ∧
    (∀ item : Byte,
      (∃ r : Table, (t.apply p (.clear item) now).table = r.grantWalk.1 ∧
        (t.apply p (.clear item) now).granted = r.grantWalk.2 ∧
        r.seq = t.seq + 1 ∧ r.roster = t.roster ∧ r.claims = t.claims ∧ r.answering = t.answering ∧ r.slots = t.slots ∧
        (∀ i : Nat, i < 24 → r.holder i =
          if t.isPlanner p = true ∧ item.toNat = i ∧ (∃ n : Station, t.holder i = .fenced n) then .free else t.holder i)) ∧
      (t.nothingGrantable →
        (t.isPlanner p = false ∨ 24 ≤ item.toNat ∨ ∀ n : Station, t.holder item.toNat ≠ .fenced n) →
        (t.apply p (.clear item) now).table = { t with seq := t.seq + 1 }))

/-- What each of the other share frames changes before the grant walk of its application. JOIN writes its sender's entry, with the zones
of its standing set that others hold as conflict set, gives it the rest of that set and frees what else it held or was fenced from it.
ATTACH attaches a JOINING entry. LOST fences the items of the stations it names. LEAVE fences its sender's published zones and frees its
other items. CLAIM of an ATTACHED arm replaces its entry's items in place or appends an entry. SLOT_SET of the slot's holder, or of an
ATTACHED planner where no station holds it, writes contents, and another slot with the same probe becomes UNKNOWN. SLOT_SENSE of an
ATTACHED arm writes the presences. A slot that is freed, or sensed while free, and disagrees with its presence becomes UNKNOWN. The
entries of stations that leave ATTACHED go out of the list. Each counts one in the share sequence. A JOIN, and the end of the answering
station, choose the station that captures an image for the joiner (the field that holds it, and that a test which finds no qualified
station leaves none answering: the model's choice, log 20). -/
def Obligations.ShareFramesChangeWhatTheirRulesSay : Prop :=
  (∀ id sense, SlotRec.tested { contents := .probe id, sensed := .absent } = { contents := .unknown, sensed := .absent } ∧
    SlotRec.tested { contents := .empty, sensed := .present } = { contents := .unknown, sensed := .present } ∧
    SlotRec.tested { contents := .unknown, sensed := sense } = { contents := .unknown, sensed := sense } ∧
    (sense ≠ .absent → SlotRec.tested { contents := .probe id, sensed := sense } =
      { contents := .probe id, sensed := sense }) ∧
    (sense ≠ .present → SlotRec.tested { contents := .empty, sensed := sense } =
      { contents := .empty, sensed := sense })) ∧
  ∀ (t : Table) (p : Station) (now : Clock), t.wellShaped →
    let e := t.entry p
    let attachedArm : Prop := e.state = .attached ∧ e.role = .arm
    let stays (h : Holder) : Prop := h ≠ .free ∧ h ≠ .station p ∧ h ≠ .fenced p
    let changed (f : ShareFrame) (r : Table) : Prop := r.seq = t.seq + 1 ∧
      (t.apply p f now).granted = r.grantWalk.2 ∧
      (t.apply p f now).table = { r.grantWalk.1 with answering := (t.apply p f now).table.answering }
    (∀ fields, ∃ r, changed (.join fields) r ∧
      (∀ n : Station, n ≠ p → r.entry n = t.entry n) ∧
      (r.entry p).state = .joining ∧ (r.entry p).role = fields.role ∧ (r.entry p).serves = fields.serves ∧
      (r.entry p).published = fields.standing ∧
      (∀ i : Nat, i < 16 → ((r.entry p).conflict.getLsbD i = true ↔ fields.standing.getLsbD i = true ∧ stays (t.holder i))) ∧
      (∀ i : Nat, i < 24 →
        (stays (t.holder i) → r.holder i = t.holder i) ∧
        (¬ stays (t.holder i) → r.holder i = if i < 16 ∧ fields.standing.getLsbD i = true then .station p else .free)) ∧
      (∀ n : Nat, n < 8 → r.slots[n]? =
        if t.holder (16 + n) = .station p ∨ t.holder (16 + n) = .fenced p then t.slots[n]?.map SlotRec.tested
        else t.slots[n]?) ∧
      r.claims = t.claims.filter (fun c => !(c.station == p && e.state == .attached)) ∧
      (t.apply p (.join fields) now).table.answering = r.answerer ∧
      (t.apply p (.join fields) now).capture = r.answerer.map (fun n => { by_ := n, dest := p, cause := .join })) ∧
    (∃ r, changed .attach r ∧ r.holders = t.holders ∧ r.slots = t.slots ∧ r.claims = t.claims ∧
      ∀ n : Station, r.entry n = if n = p ∧ e.state = .joining then { e with state := .attached } else t.entry n) ∧
    (∀ stations : StationSet, ∃ r, changed (.lost stations) r ∧ r.slots = t.slots ∧
      (∀ n : Station, r.entry n = if stations.getLsbD n.val = true ∧ (t.entry n).state.inCell = true
        then { t.entry n with state := .lost, conflict := 0 } else t.entry n) ∧
      (∀ i : Nat, i < 24 → (∀ n, t.holder i = .station n → r.holder i =
          if stations.getLsbD n.val = true ∧ (t.entry n).state.inCell = true then .fenced n else .station n) ∧
        ((∀ n, t.holder i ≠ .station n) → r.holder i = t.holder i)) ∧
      r.claims = t.claims.filter (fun c =>
        !(stations.getLsbD c.station.val && (t.entry c.station).state == .attached))) ∧
    (e.state.inCell = false → changed .leave { t with seq := t.seq + 1 }) ∧
    (e.state.inCell = true → ∃ r, changed .leave r ∧
      (∀ n : Station, r.entry n = if n = p then { e with state := .absent, conflict := 0, published := 0 } else t.entry n) ∧
      (∀ i : Nat, i < 24 → r.holder i =
        if t.holder i = .station p then (if i < 16 ∧ e.published.getLsbD i = true then .fenced p else .free)
        else t.holder i) ∧
      (∀ n : Nat, n < 8 → r.slots[n]? =
        if t.holder (16 + n) = .station p then t.slots[n]?.map SlotRec.tested else t.slots[n]?) ∧
      r.claims = t.claims.filter (fun c => !(c.station == p && e.state == .attached))) ∧
    (∀ items : ItemSet,
      (¬ attachedArm → changed (.claim items) { t with seq := t.seq + 1 }) ∧
      (attachedArm → (∃ c ∈ t.claims, c.station = p) → changed (.claim items) { t with
        seq := t.seq + 1, claims := t.claims.map (fun c => if c.station == p then { c with items := items } else c) }) ∧
      (attachedArm → (∀ c ∈ t.claims, c.station ≠ p) →
        (items &&& ~~~ t.heldBy p ≠ 0 → t.claims.length < 8 → changed (.claim items) { t with
          seq := t.seq + 1, claims := t.claims ++ [{ station := p, items := items, noted := now }] }) ∧
        (items &&& ~~~ t.heldBy p = 0 → changed (.claim items) { t with seq := t.seq + 1 }))) ∧
    (∀ (slot : Byte) (code : BitVec 16),
      let applied : Prop := slot.toNat < 8 ∧ (t.holder (16 + slot.toNat) = .station p ∨
        (t.isPlanner p = true ∧ ∀ n, t.holder (16 + slot.toNat) ≠ .station n))
      (¬ applied → changed (.slotSet slot code) { t with seq := t.seq + 1 }) ∧
      (applied → ∃ r, changed (.slotSet slot code) r ∧ r.roster = t.roster ∧ r.holders = t.holders ∧
        r.claims = t.claims ∧ ∀ n : Nat, n < 8 → r.contents n =
          (if n = slot.toNat then contentsOfCode code
            else match contentsOfCode code with
              | .probe id => if t.contents n = .probe id then .unknown else t.contents n
              | _ => t.contents n))) ∧
    (∀ presences : SlotSet,
      (¬ attachedArm → changed (.slotSense presences) { t with seq := t.seq + 1 }) ∧
      (attachedArm → ∃ r, changed (.slotSense presences) r ∧ r.roster = t.roster ∧ r.holders = t.holders ∧
        r.claims = t.claims ∧ ∀ n : Nat, n < 8 → r.slots[n]? = t.slots[n]?.map (fun rec =>
          let rec' := { rec with sensed := if presences.getLsbD n = true then .present else .absent }
          if t.holder (16 + n) = .free then rec'.tested else rec'))) ∧
    (∀ f, (∃ stations, f = .lost stations) ∨ f = .leave →
      let u := (t.apply p f now).table
      (t.answering = none → u.answering = none ∧ (t.apply p f now).capture = none) ∧
      (∀ a j, t.answering = some a → (u.entry a).state ≠ .attached → u.lowest (fun r => r.state == .joining) = some j →
        u.answering = u.answerer ∧
          (t.apply p f now).capture = u.answerer.map (fun n => { by_ := n, dest := j, cause := .takeover })))

/-- The grant walk. An entry is grantable when each of its items is free or its claimant's and no entry before it names one; it is
granted at once, its items going to its claimant, whose conflict set is emptied, and leaves the list; an entry that is not
grantable stays. One pass from head to tail at the end of every application leaves no entry grantable. -/
def Obligations.GrantWalkLeavesNothingGrantable : Prop :=
  (∀ (t : Table) (before : List ClaimEntry) (e : ClaimEntry), t.wellShaped →
    (t.grantable before e = true ↔ ∀ i : Nat, i < 24 → e.items.getLsbD i = true →
      (t.holder i = .free ∨ t.holder i = .station e.station) ∧ ∀ b ∈ before, b.items.getLsbD i = false)) ∧
  (∀ (t : Table) (e : ClaimEntry) (i : Nat), t.wellShaped → i < 24 →
    (t.grant e).holder i = if e.items.getLsbD i = true then .station e.station else t.holder i) ∧
  (∀ (t : Table) (e : ClaimEntry) (n : Station), t.wellShaped →
    (t.grant e).entry n = if n = e.station then { t.entry n with conflict := 0 } else t.entry n) ∧
  (∀ (t : Table) (kept rest : List ClaimEntry) (e : ClaimEntry),
    Table.walk kept (e :: rest) t =
      if t.grantable kept e then ((Table.walk kept rest (t.grant e)).1, e :: (Table.walk kept rest (t.grant e)).2)
      else Table.walk (kept ++ [e]) rest t) ∧
  (∀ t : Table, (t.claims = [] → t.grantWalk = (t, [])) ∧ ∀ e rest, t.claims = e :: rest →
    t.grantWalk = if t.grantable [] e then ((Table.walk [] rest (t.grant e)).1, e :: (Table.walk [] rest (t.grant e)).2)
      else Table.walk [e] rest t) ∧
  (∀ (t : Table) (kept : List ClaimEntry), Table.walk kept [] t = ({ t with claims := kept }, [])) ∧
  (∀ (t : Table) (p : Station) (f : ShareFrame) (now : Clock), ∃ r : Table, r.seq = t.seq + 1 ∧
    (t.apply p f now).granted = r.grantWalk.2 ∧
    (t.apply p f now).table = { r.grantWalk.1 with answering := (t.apply p f now).table.answering }) ∧
  (∀ t : Table, t.grantWalk.1.nothingGrantable) ∧
  (∀ (t : Table) (p : Station) (f : ShareFrame) (now : Clock), (t.apply p f now).table.nothingGrantable)

/-- Two stations with the same table contents have the same contents after the same share frame, whatever their clocks and
whoever answers a joiner beside the table: an application depends on the table and the frame alone. -/
def Obligations.ApplicationIsTheSameAtEveryStation : Prop :=
  ∀ (t u : Table) (p : Station) (f : ShareFrame) (now then_ : Clock), t.content = u.content →
    (t.apply p f now).table.content = (u.apply p f then_).table.content

/-- A snapshot carries the table whole: the five parts of an image, collected one after another by a station that holds none,
spell the table the answering station captured, its list noted at the joiner's clock. (The field that holds the answering
station is the model's choice, log 20.) -/
def Obligations.SnapshotCarriesTheTable : Prop :=
  ∀ (t : Table) (cause : CaptureCause) (now : Clock), t.wellShaped →
    ∃ r : Table, tableOfParts ((t.image cause).foldl collectPart []) now = some (r, cause) ∧
      r.content = t.content ∧ (∀ e ∈ r.claims, e.noted = now) ∧ r.answering = r.answerer

/-! ## Temperatures (chapters 10, 11) -/

/-- The cadence timer reloads itself and starts a scan of the enabled channels when none is in flight, or, with no channel enabled,
completes one at once (the expiry brings the clock to its moment: the model's choice, log 2); each conversion shows its raw reading at
once and is judged for the scan; the scan's completion gives every channel its filtered value, history, rate and state: a first good
reading seeds it, a further one goes through the filter, and from the ninth on gives a rate with the oldest of eight values, limited to
32,767 either way; a bad one makes a FRESH channel SUBST, and leaves a SUBST or UNAVAILABLE one; a SUBST channel that has reached the age
limit becomes UNAVAILABLE. It ages the peer entries, FRESH ones at three sender cadences and SUBST ones at the age limit, each by one
state, resolves the roles, and, where a channel is both enabled and shared, fills the THERMAL slot with the cadence and, for each such
channel in ascending order, its number, its state and its filtered value (0 where it has none), a THERMAL on the line being marked
renewed. The soak limit raises SOAK_TIMEOUT. -/
def Obligations.ScansMeasureTheChannels : Prop :=
  ∀ (since : Clock) (c : Image) (s : State), s.config = some c →
    (s.thermal.cadence = some since →
      (s.thermal.scan ≠ none → exec .cadenceTimerExpiry s = .next ({ s.reach since c.cadence.toNat with
        thermal := { s.thermal with cadence := some (since + c.cadence.setWidth 32) } })) ∧
      (s.thermal.scan = none → enabledChannels c.channels ≠ [] →
        exec .cadenceTimerExpiry s = .next ({ s.reach since c.cadence.toNat with
          thermal := { s.thermal with
            cadence := some (since + c.cadence.setWidth 32)
            scan := some { left := enabledChannels c.channels, results := [] } } })) ∧
      (s.thermal.scan = none → enabledChannels c.channels = [] →
        exec .cadenceTimerExpiry s = .next (({ s.reach since c.cadence.toNat with
          thermal := { s.thermal with cadence := some (since + c.cadence.setWidth 32) } } : State).completeScan []))) ∧
    (∀ (reading : Temp) (n : Nat) (left : List Nat) (results : List (Nat × Judged)) (conf : ChannelConf) (ch : Channel),
      s.thermal.scan = some { left := n :: left, results := results } → c.channels[n]? = some conf →
      s.thermal.channels[n]? = some ch →
      ∃ t : State, exec (.conversionEnd reading) s = .next t ∧
        t.thermal.channels[n]? = some { ch with raw := some reading } ∧
        t.thermal.scan = some { left := left, results := results ++ [(n,
          if conf.openAt.toInt ≤ reading.toInt ∨ reading.toInt ≤ conf.shortAt.toInt then .bad else .good reading)] } ∧
        t.thermal.roles = s.thermal.roles ∧ t.events = s.events) ∧
    (∀ results, s.thermal.scan = some { left := [], results := results } →
      ∃ u : State, exec .scanCompletion s = .next u.finish ∧ u.thermal.scan = none ∧
        u.thermal.roles = resolveRoles c u.thermal ∧
        (let carries (n : Nat) : Prop := n < 12 ∧ n < s.thermal.channels.length ∧
            ∃ conf, c.channels[n]? = some conf ∧ conf.enabled = true ∧ conf.shared = true;
          ((∀ n, ¬ carries n) → u.line.thermal = s.line.thermal ∧ u.line.tx = s.line.tx) ∧
          (∀ n, carries n → ∃ content, u.line.thermal = some content ∧ content.cadence = c.cadence ∧
            content.carried.Pairwise (fun x y => x.1 < y.1) ∧
            (∀ k st v, (k, st, v) ∈ content.carried ↔ carries k ∧
              ∃ ch, u.thermal.channels[k]? = some ch ∧ st = ch.st ∧ v = ch.filtered.getD 0) ∧
            u.line.tx = s.line.tx.map (fun tx => if tx.content.isThermal then { tx with renewed := true } else tx))) ∧
        u.thermal.channels.length = s.thermal.channels.length ∧ u.thermal.peers.length = s.thermal.peers.length ∧
        (∀ n conf ch v, results.find? (fun r => r.1 == n) = some (n, .good v) → c.channels[n]? = some conf →
          s.thermal.channels[n]? = some ch → (ch.st = .subst ∨ ch.st = .unavailable) →
          u.thermal.channels[n]? =
            some { ch with filtered := some v, history := [v], rate := none, st := .fresh, since := none }) ∧
        (∀ n conf ch v f, results.find? (fun r => r.1 == n) = some (n, .good v) → c.channels[n]? = some conf →
          s.thermal.channels[n]? = some ch → ch.st = .fresh → ch.filtered = some f →
          let f' := BitVec.ofInt 16 (f.toInt + roundDiv (v.toInt - f.toInt) (2 ^ conf.shift.toNat))
          ∃ rate, u.thermal.channels[n]? = some { ch with
              filtered := some f', rate := rate
              history := if ch.history.length < 8 then ch.history ++ [f'] else ch.history.drop 1 ++ [f'] } ∧
            (ch.history.length < 8 → rate = none) ∧
            (∀ oldest, ch.history.length = 8 → ch.history.head? = some oldest →
              rate = some (BitVec.ofInt 16 (max (-32767) (min 32767
                (roundDiv ((f'.toInt - oldest.toInt) * 60000) (8 * c.cadence.toNat))))))) ∧
        (∀ n ch, results.find? (fun r => r.1 == n) = some (n, .bad) → s.thermal.channels[n]? = some ch →
          ch.st = .fresh → 0 < c.ageLimit.toNat →
          u.thermal.channels[n]? = some { ch with st := .subst, since := some s.clock }) ∧
        (∀ n ch since, results.find? (fun r => r.1 == n) = some (n, .bad) ∨ results.find? (fun r => r.1 == n) = none →
          s.thermal.channels[n]? = some ch → ch.st = .subst → ch.since = some since →
          u.thermal.channels[n]? = some (if 1000 * c.ageLimit.toNat ≤ (s.clock - since).toNat
            then { ch with st := .unavailable, since := none, rate := none } else ch)) ∧
        (∀ n ch, results.find? (fun r => r.1 == n) = some (n, .bad) ∨ results.find? (fun r => r.1 == n) = none →
          s.thermal.channels[n]? = some ch → ch.st = .unavailable → u.thermal.channels[n]? = some ch) ∧
        (∀ n ch, results.find? (fun r => r.1 == n) = none → s.thermal.channels[n]? = some ch → ch.st ≠ .subst →
          u.thermal.channels[n]? = some ch) ∧
        (∀ (n : Nat) (e : PeerEntry), s.thermal.peers[n]? = some e →
          (∀ cadence updated, e.st = .fresh → e.cadence = some cadence → e.updated = some updated →
            u.thermal.peers[n]? = some (if 3 * cadence.toNat ≤ (s.clock - updated).toNat
              then { e with st := .subst, since := some s.clock } else e)) ∧
          (∀ since, e.st = .subst → e.since = some since →
            u.thermal.peers[n]? = some (if 1000 * c.ageLimit.toNat ≤ (s.clock - since).toNat
              then { e with st := .unavailable, rate := none, since := none } else e)) ∧
          (e.st = .unavailable → u.thermal.peers[n]? = some e))) ∧
    (∀ start, s.soak = some start → c.soakLimit ≠ 0 → ∃ u : State, exec .soakLimitExpiry s = .next u.finish ∧
      u.lastFault = some .soakTimeout ∧ u.soak = none ∧ u.run.st = .none ∧ u.run.stack = [] ∧ u.arm.motion = none)

/-- A THERMAL frame of a station that the roster shows JOINING or ATTACHED updates the watched entries of that station for the
channels that it carries and no other: FRESH takes the value, SUBST stands in, UNAVAILABLE ends it and keeps the value; a channel
with a state code above 2 is skipped. A frame from any other station, or without a table, is not taken, and neither is one whose
length is not 2 plus a multiple of 3 or whose cadence lies outside 100 to 10000. -/
def Obligations.ThermalUpdatesTheWatchedEntries : Prop :=
  ∀ (p : Station) (payload : List Byte) (s : State), s.receives p = true →
    let h := s.heard p true
    ((∀ tbl, s.table = some tbl → (tbl.entry p).state.inCell = false) → exec (.thermal p payload) s = .next h) ∧
    (payload.length < 2 ∨ (payload.length - 2) % 3 ≠ 0 ∨ fieldAt payload 0 2 < 100 ∨ 10000 < fieldAt payload 0 2 →
      exec (.thermal p payload) s = .next h) ∧
    (∀ tbl, s.table = some tbl → (tbl.entry p).state.inCell = true →
      ∃ peers : List PeerEntry, exec (.thermal p payload) s = .next { h with thermal := { s.thermal with peers := peers } } ∧
        peers.length = s.thermal.peers.length ∧
        (∀ (n : Nat) (e : PeerEntry), s.thermal.peers[n]? = some e → e.station.toNat ≠ p.val → peers[n]? = some e) ∧
        (∀ (cadence : BitVec 16) (carried : List (Nat × Nat × Temp)), 100 ≤ cadence.toNat → cadence.toNat ≤ 10000 →
          (∀ x ∈ carried, x.1 < 12 ∧ x.2.1 < 16) →
          payload = bytesOf 2 cadence.toNat ++ carried.flatMap (fun x => bytesOf 1 (16 * x.1 + x.2.1) ++ bytesOf 2 x.2.2.toNat) →
          ∀ (n : Nat) (e : PeerEntry), s.thermal.peers[n]? = some e → e.station.toNat = p.val →
            let others (l : List (Nat × Nat × Temp)) : Prop := ∀ x ∈ l, x.1 = e.channel.toNat → 2 < x.2.1
            (others carried → peers[n]? = some e) ∧
            (∀ before after state v, carried = before ++ (e.channel.toNat, state, v) :: after → state < 3 →
              others before → others after →
              ∃ e' : PeerEntry, peers[n]? = some e' ∧ e'.station = e.station ∧ e'.channel = e.channel ∧
                e'.updated = some s.clock ∧ e'.cadence = some cadence ∧
                e'.st = (if state = 0 then .fresh else if state = 1 then .subst else .unavailable) ∧
                e'.value = (if state = 2 then e.value else some v))))

/-! ## The probe head (chapters 6, 8) -/

/-- The trigger qualifier. A change to the asserted level while armed latches the positions, or, with a width of 0, is accepted
at once; back at the other level a pending latch is a false trigger, counted in the motion, and the eighth is PROBE_NOISY, and
without one the qualifier takes edges again;
disarmed, only the level is taken, and an edge to the level that stands changes nothing (log 3). An accepted contact outside a
probing travel is a COLLISION; in the travel of a PROBE it builds the point of the latched positions, in a touch it gives the
touch its result, and both make a fast stop toward the back-off, while the travel decelerates for a hold too, the run becoming HELD after the back-off
then; in a stop that ends the run or leaves the arm STILL it makes that stop fast, the
arm state being MOVING (log 45), and is no fault: R103 says so of the stop of a STOP, a CELL_STOP, an owner loss or a detach, and of a
fault's own fast stop it is the model's choice (log 57). -/
def Obligations.TriggerEdgesAreJudged : Prop :=
  ∀ (high : Bool) (s : State),
    let goesOn (m : Motion) (held : Bool) : Prop := (s.arm.st = .moving ∧ s.arm.stopping = none ∧ held = m.thenHeld) ∨
      (s.arm.st = .decelerating ∧ ∃ p, s.arm.stopping = some p ∧ p.after = .resume ∧ held = p.held)
    (s.trig.high = high → exec (.triggerEdge high) s = .next s ∧ exec (.triggerReturnUnasserted high) s = .next s) ∧
    (s.trig.high ≠ high → exec (.triggerReturnUnasserted high) s = exec (.triggerEdge high) s) ∧
    (s.trig.high ≠ high → s.armed = false → exec (.triggerEdge high) s =
      .next ({ s with trig := { high := high, latch := none, blocked := false } } : State).finish) ∧
    (∀ r, s.trig.high ≠ high → s.armed = true → s.mountedRecord = some r → s.assertedLevel = some high →
      s.trig.latch = none → s.trig.blocked = false →
      (r.defined.width ≠ 0 → exec (.triggerEdge high) s = .next ({ s with trig := { s.trig with
        high := high, latch := some { position := s.positions, width := r.defined.width } } } : State).finish) ∧
      (r.defined.width = 0 → exec (.triggerEdge high) s = .next
        (({ s with trig := { s.trig with high := high } } : State).acceptContact s.positions).finish)) ∧
    (s.trig.high ≠ high → s.armed = true → s.assertedLevel ≠ some high → s.trig.latch = none → exec (.triggerEdge high) s =
      .next ({ s with trig := { high := high, latch := none, blocked := false } } : State).finish) ∧
    (∀ l m, s.armed = true → s.trig.latch = some l → s.assertedLevel = some s.trig.high → s.arm.motion = some m →
      (m.falseTriggers < 7 → m.atTarget = false →
        exec .falseTrigger s = .next ({ s with
          trig := { s.trig with high := !s.trig.high, latch := none }
          arm := { s.arm with motion := some { m with falseTriggers := m.falseTriggers + 1 } } } : State).finish) ∧
      (m.falseTriggers = 7 → ∃ u : State, exec .falseTrigger s = .next u.finish ∧ u.lastFault = some .probeNoisy ∧
        u.axes = s.axes ∧ u.arm.energized = s.arm.energized ∧ u.trig.latch = none)) ∧
    (∀ l, s.armed = true → s.trig.latch = some l → s.probing = false →
      ∃ u : State, exec .contactAccepted s = .next u.finish ∧ u.lastFault = some .collision ∧ u.axes = s.axes) ∧
    (∀ l m c seg missOk spec owner r d held, s.armed = true → s.trig.latch = some l → s.arm.motion = some m →
      m.act = .travel → m.probing = true → m.atTarget = false → goesOn m held → s.qual = none →
      s.config = some c → s.run.current = some seg → seg.body = .probe missOk spec → s.run.owner = some owner →
      s.mountedRecord = some r → r.data = some d → s.cap.ring.length < 64 →
      ∃ u : State, exec .contactAccepted s = .next u.finish ∧ u.trig.blocked = true ∧ u.trig.latch = none ∧
        u.arm.stopping = some { fast := true, after := .backOff, held := false, afterBackOff := held } ∧ u.arm.st = .moving ∧
        u.run = s.run ∧ u.cap.counter = s.cap.counter + 1 ∧
        ∃ pt : Point, u.cap.ring = s.cap.ring ++ [pt] ∧ pt.raw = l.position ∧ pt.number = s.cap.counter ∧
          pt.tag = seg.tag ∧ pt.report = owner ∧ pt.time = s.clock ∧ pt.radius = d.radius ∧
          pt.tip = vmap (fun a v => luAdd v (vget d.offset a)) l.position ∧
          pt.corrected = correctPoint c s.part (resolveRoles c s.thermal) pt.tip ∧
          pt.temps = (resolveRoles c s.thermal).map (fun role => (role.value, role.quality)) ∧
          pt.flags = correctionFlags s.part (resolveRoles c s.thermal) s.thermal.settled s.arm.shadow) ∧
    (∀ l m q held, s.armed = true → s.trig.latch = some l → s.arm.motion = some m → m.act = .touch → m.probing = true →
      m.atTarget = false → goesOn m held → s.qual = some q →
      ∃ u : State, exec .contactAccepted s = .next u.finish ∧ u.cap = s.cap ∧ u.lastFault = s.lastFault ∧
        u.qual = some { q with latched := some (vget l.position (touchAxis q.touch)) } ∧
        u.arm.stopping = some { fast := true, after := .backOff, held := false, afterBackOff := held } ∧ u.arm.st = .moving ∧
        u.run = s.run) ∧
    (∀ l m p, s.armed = true → s.trig.latch = some l → s.arm.motion = some m → m.probing = true →
      s.arm.stopping = some p → (∃ why b, p.after = .endRun why b) ∨ p.after = .still →
      ∃ u : State, exec .contactAccepted s = .next u.finish ∧ u.lastFault = s.lastFault ∧ u.cap = s.cap ∧ u.run = s.run ∧
        u.arm.stopping = some { p with fast := true } ∧ u.arm.st = .moving ∧ u.trig.latch = none)

/-- The head, its reader and the lock pulses. Outside a change window a seated head starts a read and an emptied head clears the
mounted-probe record, with NO_PROBE when the arm executes a motion; a level that stands changes nothing (log 3). Inside one the change
judges it: the head that empties in CH_UNLOCK records what was dropped and writes its slot, the head that seats in CH_LOCK starts
CH_IDENT. The end of a read keeps its result and makes a seated head's probe UNRESOLVED with it; in CH_IDENT it empties the pick slot and
the move back follows. The end of a pulse begins the request that waits, which in shadow mode drives no output, and at a pulse of the
change's own the head as it then stands is judged, or waited for; in shadow mode it is taken as emptied or seated with the target, and the
records stay (that the LOCK pulse then leads past CH_IDENT with no read is the model's reading, log 29). The release time in CH_UNLOCK
asks for a LOCK pulse to end in CHANGE_STUCK, the seat time in CH_LOCK makes the pick slot UNKNOWN and ends in CHANGE_EMPTY (the step
stays CH_LOCK in the move back: the model's choice, log 88); a rack presence that changes at an ATTACHED rack host is queued as
SLOT_SENSE. -/
def Obligations.HeadAndRackAreSensed : Prop :=
  ∀ s : State,
    (s.line.active = true → s.inWindow = false → s.head.seated = false →
      ∃ u : State, exec (.headFilterEnd true) s = .next u.finish ∧ u.head = { s.head with
        seated := true
        idRead := some { ((s.head.idRead.map (IdRead.see true)).getD IdRead.started) with forHead := true } } ∧
        { u with head := s.head, trig := s.trig } = s) ∧
    (s.line.active = true → s.inWindow = false → s.head.seated = true →
      ∃ u : State, exec (.headFilterEnd false) s = .next u.finish ∧ u.head.seated = false ∧ u.mounted = .none ∧
        u.trig.latch = none ∧
        (s.executing = true → s.arm.energized = true → s.arm.shadow = false → u.lastFault = some .noProbe)) ∧
    (∀ seated, s.head.seated = seated → exec (.headFilterEnd seated) s = .next s) ∧
    (∀ r since drop id, s.line.active = true → s.inWindow = true → s.head.seated = true → s.arm.shadow = false →
      s.chg.change = some r → r.step = .unlock → r.wait = .release since → r.drop = some drop →
      s.mounted = .resolved id → s.line.m1.length < 8 →
      ∃ u : State, exec (.headFilterEnd false) s = .next u.finish ∧ u.head.seated = false ∧ u.mounted = .none ∧
        u.chg.change = some { r with step := .leaveDrop, wait := .none, dropped := some (.id id) } ∧
        u.line.m1 = s.line.m1 ++ [.slotSet drop (.probe id)] ∧ u.arm.todo = some (.changeMove .leaveDrop) ∧
        (∀ p, s.probe id = some p → u.probe id = some { p with homeSlot := some drop })) ∧
    (∀ r since, s.line.active = true → s.inWindow = true → s.head.seated = false → s.arm.shadow = false →
      s.chg.change = some r → r.step = .lock → r.wait = .seat since →
      ∃ u : State, exec (.headFilterEnd true) s = .next u.finish ∧ u.head.seated = true ∧
        u.chg.change = some { r with step := .ident, wait := .read } ∧
        u.head.idRead.map (·.forChange) = some true ∧ u.mounted = s.mounted) ∧
    (∀ (lines : Option (BitVec 16)) (r : IdRead), s.head.idRead = some r → s.chg.change = none →
      ∃ u : State, exec (.idReadEnd lines) s = .next u.finish ∧ u.head.idRead = none ∧
        u.head.lastRead = some (readResult r.emptied lines) ∧
        (r.forHead = true → s.head.seated = true → u.mounted = .unresolved (readResult r.emptied lines)) ∧
        (r.forHead = false → r.forJudge = false → u.mounted = s.mounted)) ∧
    (∀ (lines : Option (BitVec 16)) (q : IdRead) (r : ChangeRecord) (pick : Fin 8), s.head.idRead = some q →
      q.forChange = true → q.forHead = false → q.forJudge = false → s.chg.change = some r → r.step = .ident →
      r.wait = .read → r.pick = some pick → s.head.seated = true → s.arm.shadow = false → s.line.m1.length < 8 →
      ∃ u : State, exec (.idReadEnd lines) s = .next u.finish ∧ u.mounted = .unresolved (readResult q.emptied lines) ∧
        u.chg.change = some { r with
          step := .leavePick, wait := .none, read := some (readResult q.emptied lines), window := false } ∧
        u.line.m1 = s.line.m1 ++ [.slotSet pick .empty] ∧ u.arm.todo = some (.changeMove .leavePick)) ∧
    (∀ pulse, s.head.pulse = some pulse → s.chg.change = none → s.chg.closing = [] →
      exec .lockPulseEnd s = .next ({ s with head := { s.head with
        pulse := s.head.waiting.map (fun p => { p with driven := p.driven && !s.arm.shadow }), waiting := none } } :
          State).finish) ∧
    (∀ pulse r, s.head.pulse = some pulse → s.chg.change = some r → r.serial = pulse.change → s.chg.closing = [] →
      let ends (r' : ChangeRecord) (more : State → Prop) : Prop := ∃ u : State, exec .lockPulseEnd s = .next u.finish ∧
        u.chg.change = some r' ∧ u.head.pulse = s.head.waiting.map (fun p => { p with driven := p.driven && !s.arm.shadow }) ∧
        u.head.waiting = none ∧ more u
      (r.step = .unlock → r.wait = .relock →
        ends { r with wait := .none } (fun u => u.arm.todo = some (.changeMove .leaveDrop) ∧ u.mounted = s.mounted)) ∧
      (s.arm.shadow = false →
        (r.step = .unlock → r.wait = .pulse →
          (s.head.seated = true → ends { r with wait := .release s.clock } (fun u => u.mounted = s.mounted ∧ u.arm = s.arm)) ∧
          (∀ drop id, s.head.seated = false → r.drop = some drop → s.mounted = .resolved id → s.line.m1.length < 8 →
            ends { r with step := .leaveDrop, wait := .none, dropped := some (.id id) } (fun u => u.mounted = .none ∧
              u.line.m1 = s.line.m1 ++ [.slotSet drop (.probe id)] ∧ u.arm.todo = some (.changeMove .leaveDrop) ∧
              ∀ p, s.probe id = some p → u.probe id = some { p with homeSlot := some drop }))) ∧
        (r.step = .lock → r.wait = .pulse →
          (s.head.seated = true → ends { r with step := .ident, wait := .read } (fun u =>
            u.head.idRead.map (·.forChange) = some true ∧ u.mounted = s.mounted ∧ u.arm = s.arm)) ∧
          (s.head.seated = false → ends { r with wait := .seat s.clock } (fun u => u.mounted = s.mounted ∧ u.arm = s.arm)))) ∧
      (s.arm.shadow = true →
        (r.step = .unlock → r.wait = .pulse →
          ends { r with step := .leaveDrop, wait := .none, dropped := s.mounted.result } (fun u =>
            u.mounted = s.mounted ∧ u.line.m1 = s.line.m1 ∧ u.arm.todo = some (.changeMove .leaveDrop))) ∧
        (r.step = .lock → r.wait = .pulse →
          ends { r with step := .leavePick, wait := .none, read := some (.id r.target) } (fun u =>
            u.mounted = s.mounted ∧ u.line.m1 = s.line.m1 ∧ u.arm.todo = some (.changeMove .leavePick))))) ∧
    (∀ kind, s.head.pulse = none → s.pulseOutput kind = false) ∧
    (∀ pulse kind, s.head.pulse = some pulse → s.pulseOutput kind = (pulse.kind == kind && pulse.driven)) ∧
    (∀ kind change, s.head.pulse = none →
      (s.requestPulse kind change).pulseOutput kind = !s.arm.shadow) ∧
    (∀ c r since, s.config = some c → s.chg.change = some r → r.step = .unlock → r.wait = .release since →
      ∃ u : State, exec .releaseTimeExpiry s = .next u.finish ∧
        u.chg.change = some { r with wait := .relock, failing := some .changeStuck } ∧
        (s.head.pulse = none →
          u.head.pulse = some { kind := .lock, change := r.serial, driven := !s.arm.shadow })) ∧
    (∀ c r since pick, s.config = some c → s.chg.change = some r → r.step = .lock → r.wait = .seat since →
      r.pick = some pick → s.arm.shadow = false → s.line.m1.length < 8 →
      ∃ u : State, exec .seatTimeExpiry s = .next u.finish ∧
        u.chg.change = some { r with wait := .none, failing := some .changeEmpty } ∧
        u.line.m1 = s.line.m1 ++ [.slotSet pick .unknown] ∧ u.arm.todo = some (.changeMove .leavePick)) ∧
    (∀ (slot : Fin 8) (present : Bool), s.line.active = true → s.setup.straps.rackHost = true →
      s.rack.getLsbD slot.val ≠ present →
      (s.join.st ≠ .attached → exec (.slotFilterEnd slot present) s = .next { s with rack := s.rack ^^^ stationBit slot }) ∧
      (s.join.st = .attached → s.line.m1 = [] → exec (.slotFilterEnd slot present) s = .next ({ s with
        rack := s.rack ^^^ stationBit slot
        line := { s.line with m1 := [.slotSense (s.rack ^^^ stationBit slot)] } } : State).finish))

/-! ## Ends of motions (chapters 2, 6, 8, 9) -/

/-- A segment completes: a MOVE at its target, a DWELL at its end (the row DWELL_END ends it whatever is left of it: the model's choice,
log 81), a PROBE at the end of its back-off or, with MISS_OK, at its target without contact. The standing set becomes the end set, a
RELEASE is queued of the zones held outside it and, but after the last segment, outside the need set of the head segment, SEG_DONE is set,
and the run goes on, is STARVED, or ends after the last segment. With a hold that pends, in a back-off or a travel that waits at its
target for its latch (log 50), the run becomes HELD instead, after the last segment it ends all the same (log 51); a travel that so waits
ends in its miss where the trigger proves false. In shadow mode the physical standing set is kept too, and a PROBE at its target makes a
simulated contact there: the point carries SHADOW, and the back-off follows (to a free place after a travel of zero length: the model's
choice, log 35). A miss without MISS_OK is NO_CONTACT; a latch that pends is waited for. -/
def Obligations.SegmentsComplete : Prop :=
  ∀ (m : Motion) (seg : Segment) (s : State), s.arm.st = .moving → s.arm.stopping = none → s.arm.motion = some m →
    s.run.current = some seg → s.run.stack = [] → s.qual = none → s.run.st = .active →
    s.detachDue = none → s.line.m1.length < 8 →
    let rehearsed : ZoneSet := if s.arm.shadow then s.arm.phys else 0
    let completes (c : Instr) (o : SegOutcome) (endSet : ZoneSet) (held : Bool) : Prop :=
      ∃ u : State, exec c s = .next u.finish ∧ u.arm.standing = endSet ∧ u.arm.motion = none ∧ u.run.current = none ∧
        u.arm.st = (if s.arm.energized then .still else .off) ∧
        (seg.last = true → u.run = Run.cold ∧
          (s.agent.current = none → (s.m1OnLine = true → s.line.m1 ≠ []) → s.releases (s.heldOutside (endSet ||| rehearsed)) u)) ∧
        (seg.last = false → s.releases (s.heldOutside (endSet ||| rehearsed ||| s.headNeed)) u ∧ u.run.queue = s.run.queue ∧ u.run.owner = s.run.owner ∧
          u.run.st = (if held then .held else if s.run.queue = [] then .starved else .active)) ∧
        (s.events.mask.getLsbD 4 = true → s.events.slots.length = 12 →
          ∃ slot, u.events.slots[4]? = some slot ∧ slot.pending = some (.segDone seg.tag o))
    (∀ spec target, m.act = .travel → m.atTarget = false → m.target = some target → seg.body = .move spec →
      completes .travelComplete .done spec.endSet false) ∧
    (∀ ms, m.act = .dwell → seg.body = .dwell ms → completes .dwellEnd .done s.arm.standing false) ∧
    (∀ missOk spec, m.act = .backOff → seg.body = .probe missOk spec → completes .backOffEnd .contact spec.endSet m.thenHeld) ∧
    (∀ missOk spec, m.act = .travel → m.atTarget = false → seg.body = .probe missOk spec → s.arm.shadow = false →
      (s.trig.latch ≠ none → ∃ u : State, exec .travelComplete s = .next u.finish ∧
        u.arm.motion = some { m with atTarget := true } ∧ u.run = s.run ∧ u.arm.st = .moving) ∧
      (s.trig.latch = none → missOk = true → completes .travelComplete .miss spec.endSet m.thenHeld) ∧
      (s.trig.latch = none → missOk = false → ∃ u : State, exec .travelComplete s = .next u.finish ∧
        u.lastFault = some .noContact ∧ u.arm.standing = spec.endSet ∧ u.run.st = .none)) ∧
    (∀ missOk spec, m.act = .travel → m.atTarget = true → seg.body = .probe missOk spec → s.armed = true →
      s.trig.latch ≠ none → s.deflected = true → m.falseTriggers ≠ 7 →
      (missOk = true → completes .falseTrigger .miss spec.endSet m.thenHeld) ∧
      (missOk = false → ∃ u : State, exec .falseTrigger s = .next u.finish ∧
        u.lastFault = some .noContact ∧ u.arm.standing = spec.endSet ∧ u.run.st = .none)) ∧
    (∀ missOk spec target c owner r d, m.act = .travel → m.atTarget = false → m.target = some target →
      seg.body = .probe missOk spec → s.arm.shadow = true → s.config = some c → s.run.owner = some owner →
      s.mountedRecord = some r → r.data = some d → s.cap.ring.length < 64 →
      let stood : State := { s with axes := vmap (fun a ch => { ch with setpoint := vget target a, pos := vget target a }) s.axes }
      let back := backOffTarget s.freeCount c.retract m.startedAt target target
      stood.limitCheck back = none →
      ∃ u : State, exec .travelComplete s = .next u.finish ∧ u.run = s.run ∧ u.arm.st = .moving ∧ u.arm.stopping = none ∧
        u.setpoints = target ∧ u.positions = target ∧
        u.arm.motion.map (fun b => (b.act, b.origin, b.target)) = some (.backOff, .backOff, some back) ∧
        u.cap.counter = s.cap.counter + 1 ∧
        ∃ pt : Point, u.cap.ring = s.cap.ring ++ [pt] ∧ pt.raw = target ∧ pt.number = s.cap.counter ∧ pt.tag = seg.tag ∧
          pt.report = owner ∧ pt.time = s.clock ∧ pt.radius = d.radius ∧
          pt.tip = vmap (fun a v => luAdd v (vget d.offset a)) target ∧ pt.flags.shadow = true)

/-- A stop at its standstill leaves the setpoints where the arm rests, so far along the motion's path as the command says (log 8),
and goes on as it was made: a held motion waits for GO_ON with the run HELD, an ended run has RUN_END (DETACHED where a ninth
M1 entry detaches the station: log 15), an arm without a run stands; after a contact the back-off is formed (after a travel of zero length toward a free place: log 35). -/
def Obligations.StopsEndAtTheirStandstill : Prop :=
  ∀ (further : BitVec 32) (st : Stopping) (m : Motion) (s : State), s.arm.stopping = some st → s.arm.motion = some m →
    (∀ a, m.act ≠ .seek a) →
    let rest : Vec3 Lu := match m.target with
      | some target => placeOnPath m.startedAt target (if pathSquare m.startedAt target ≤ m.gone * m.gone then m.gone
          else m.gone + further.toNat)
      | none => s.setpoints
    (st.after = .resume → ∃ u : State, exec (.controlledStopEnd further) s = .next u.finish ∧ u.setpoints = rest ∧
      u.arm.motion = none ∧ u.arm.stopping = none ∧ u.arm.todo = some m.again ∧
      u.run.st = (if st.held = true ∧ s.run.st ≠ .none then .held else s.run.st) ∧ u.run.queue = s.run.queue) ∧
    (∀ reason b, st.after = .endRun reason b → ∃ u : State, exec (.controlledStopEnd further) s = .next u.finish ∧
      u.setpoints = rest ∧ u.arm.motion = none ∧ u.arm.stopping = none ∧ u.run.st = .none ∧
      (s.run.st ≠ .none → s.events.mask.getLsbD 1 = true → s.events.slots.length = 12 →
        ∃ slot, u.events.slots[1]? = some slot ∧ slot.pending =
          some (if u.detachDue = none then .runEnd reason b else .runEnd .detached 0))) ∧
    (st.after = .still → ∃ u : State, exec (.controlledStopEnd further) s = .next u.finish ∧ u.setpoints = rest ∧
      u.arm.motion = none ∧ u.arm.stopping = none ∧
      u.arm.st = (if s.arm.energized then .still else .off) ∧ u.run.queue = s.run.queue) ∧
    (∀ c, st.after = .backOff → st.held = false → s.config = some c →
      ∀ target, m.target = some target →
      let stood : State := { s with axes := vmap (fun a ch => { ch with
        setpoint := vget rest a, pos := if s.arm.shadow then vget rest a else ch.pos }) s.axes }
      let back := backOffTarget s.freeCount c.retract m.startedAt target stood.positions
      stood.limitCheck back = none →
      ∃ u : State, exec (.controlledStopEnd further) s = .next u.finish ∧ u.setpoints = rest ∧ u.arm.stopping = none ∧
        u.arm.st = .moving ∧ u.arm.motion.map (fun b => (b.act, b.origin, b.target, b.thenHeld)) =
          some (.backOff, .backOff, some back, st.afterBackOff))

/-- The moves of excursions end. The move out ends with the corridor set as standing set: a SOAK then waits in place until the
settle state is SETTLED, and a QUALIFY begins its transfer to touch 1 (with no record of the mounted probe it fails: log 24). A leg
of a transfer is followed by the next leg, the touch, or the return move. The standstill of a return move gives its standing set
back, pops the record, and releases what no record and no need set keeps: a QUALIFY beneath begins again at touch 1, a CHANGE
beneath its return; the record of a segment completes it with DONE; one with a need set makes the PROBE start again. A change's
move is followed by its next step: at the first approach points the standing set is the rack corridor, a dock point has its
pulse, and the move back ends in CHANGE_STUCK or CHANGE_EMPTY, or at the pick slot by the identity read in CH_DONE with the RELEASE
of the slots, in CHANGE_MISMATCH or in CHANGE_UNREAD. -/
def Obligations.ExcursionMovesEnd : Prop :=
  ∀ (m : Motion) (c : Image) (r : ReturnRecord) (rest : List ReturnRecord) (s : State), s.config = some c →
    s.arm.st = .moving → s.arm.stopping = none → s.arm.motion = some m → s.run.stack = r :: rest →
    let place : Vec3 Lu := if s.arm.shadow then m.target.getD s.positions else s.positions
    let touches (p : ProbeRecord) (u : State) : Prop :=
      let legs := transferLegs (clearancePlane c p.defined) place (touchStart c p.defined 1)
      u.qual = some { id := p.defined.id, touch := 1, results := [], latched := none, legs := legs, returning := false } ∧
        u.arm.todo = some (if legs = [] then .touch else .leg)
    (m.act = .moveOut → r.kind = .soak → s.thermal.settled = false →
      ∃ u : State, exec .excursionArrival s = .next u.finish ∧ u.arm.standing = c.parkCorridor ∧
        u.soak = some s.clock ∧ u.arm.st = .moving ∧ u.arm.motion.map (·.act) = some .inPlace ∧ u.run = s.run) ∧
    (m.act = .moveOut → r.kind = .soak → s.thermal.settled = true →
      ∃ u : State, exec .excursionArrival s = .next u.finish ∧ u.arm.standing = c.parkCorridor ∧
        u.arm.todo = some .beginReturn ∧ u.run = s.run) ∧
    (m.act = .moveOut → r.kind = .qualify →
      (∀ p, s.mountedRecord = some p → ∃ u : State, exec .excursionArrival s = .next u.finish ∧
        u.arm.standing = c.sphereCorridor ∧ u.arm.begun = 0 ∧ u.arm.motion = none ∧ u.run = s.run ∧ touches p u) ∧
      (s.mountedRecord = none → ∃ u : State, exec .excursionArrival s = .next u.finish ∧ u.lastFault = some .noProbe ∧
        u.arm.standing = c.sphereCorridor ∧ u.run.stack = [])) ∧
    (∀ q leg more, m.act = .leg → s.qual = some q → q.legs = leg :: more →
      ∃ u : State, exec .transferLegEnd s = .next u.finish ∧ u.qual = some { q with legs := more } ∧
        u.arm.todo = some (if more ≠ [] then .leg else if q.returning then .returnMove else .touch)) ∧
    (m.act = .returnMove →
      let kept : ZoneSet := if s.arm.shadow then r.standing ||| s.arm.phys else r.standing
      let pops (more : State → Prop) : Prop := ∃ u : State, exec .returnMoveEnd s = .next u.finish ∧
        u.arm.standing = r.standing ∧ u.arm.begun = 0 ∧ u.run.stack = rest ∧ u.arm.motion = none ∧ more u
      (rest = [] → r.serves = false → pops (fun u => s.releases (s.heldOutside (kept ||| r.need.getD 0)) u ∧
        u.arm.todo = (if r.need.isSome then some .segment else s.arm.todo))) ∧
      (∀ seg, rest = [] → r.serves = true → s.run.current = some seg → s.run.st = .active → s.detachDue = none →
        s.line.m1.length < 8 → pops (fun u => u.run.current = none ∧
          (seg.last = true → u.run = Run.cold) ∧
          (seg.last = false → s.releases (s.heldOutside (kept ||| s.headNeed)) u ∧ u.run.queue = s.run.queue ∧
            u.run.st = (if s.run.queue = [] then .starved else .active)) ∧
          (s.events.mask.getLsbD 4 = true → s.events.slots.length = 12 →
            ∃ slot, u.events.slots[4]? = some slot ∧ slot.pending = some (.segDone seg.tag .done)))) ∧
      (∀ below more, rest = below :: more → pops (fun u =>
        s.releases (s.heldOutside (kept ||| r.need.getD 0 ||| stackKeeps c rest)) u ∧
        (below.kind ≠ .qualify → u.arm.todo = some .beginReturn) ∧
        (∀ q p, below.kind = .qualify → r.kind ≠ .qualify → s.qual = some q → s.probe q.id = some p →
          touches p u)))) ∧
    (∀ k, s.chg.change = some k →
      let arrives (more : State → Prop) : Prop := ∃ u : State, exec .changeMoveArrival s = .next u.finish ∧ more u
      let fails (code : FaultCode) (detail : Byte) (value : BitVec 32) : Prop := arrives (fun u =>
        u.lastFault = some code ∧ u.run.st = .none ∧ u.run.stack = [] ∧ u.chg.change = none ∧
        (k.window = false ∨ s.head.seated = true → u.mounted = s.mounted) ∧
        (k.window = true → s.head.pulse = none → s.head.waiting = none → s.head.seated = false → u.mounted = .none) ∧
        (s.events.mask.getLsbD 0 = true → s.events.slots.length = 12 → ∃ slot position, u.events.slots[0]? = some slot ∧
          slot.pending = some (.fault ⟨code, detail, value⟩ position)))
      let slotByte (n : Fin 8) : Byte := BitVec.ofNat 8 n.val
      (m.act = .changeMove .dropApproach → arrives (fun u => u.arm.standing = c.rackCorridor ∧ u.arm.begun = 0 ∧
        u.arm.todo = some (.changeMove .dropDock) ∧ u.chg.change = some k ∧ u.run = s.run)) ∧
      (m.act = .changeMove .pickApproach → arrives (fun u => u.arm.standing = c.rackCorridor ∧ u.arm.begun = 0 ∧
        u.arm.todo = some (.changeMove .pickDock) ∧ u.chg.change = some k ∧ u.run = s.run)) ∧
      (s.head.pulse = none →
        (m.act = .changeMove .dropDock → arrives (fun u =>
          u.chg.change = some { k with step := .unlock, wait := .pulse, window := !s.arm.shadow } ∧
          u.head.pulse = some { kind := .unlock, change := k.serial, driven := !s.arm.shadow } ∧
          u.arm.motion.map (·.act) = some .inPlace)) ∧
        (m.act = .changeMove .pickDock → arrives (fun u =>
          u.chg.change = some { k with step := .lock, wait := .pulse, window := !s.arm.shadow } ∧
          u.head.pulse = some { kind := .lock, change := k.serial, driven := !s.arm.shadow } ∧
          u.arm.motion.map (·.act) = some .inPlace))) ∧
      (m.act = .changeMove .leaveDrop → k.failing = none → arrives (fun u =>
        u.chg.change = some { k with step := .toPick } ∧ u.arm.todo = some (.changeMove .pickApproach) ∧
        u.arm.standing = s.arm.standing ∧ u.arm.begun = 0)) ∧
      (∀ drop, m.act = .changeMove .leaveDrop → k.failing = some .changeStuck → k.drop = some drop → k.step ≠ .done →
        s.chg.closing = [] → fails .changeStuck (slotByte drop) 0) ∧
      (∀ pick, m.act = .changeMove .leavePick → k.pick = some pick → k.step ≠ .done → s.chg.closing = [] →
        (k.failing = some .changeEmpty → fails .changeEmpty (slotByte pick) 0) ∧
        (k.failing = none →
          (k.read = some (.id k.target) → arrives (fun u => u.chg.change = some { k with step := .done } ∧
            (s.table ≠ none → s.releases (slotItems k.drop ||| slotItem pick) u) ∧ u.arm.standing = s.arm.standing ∧
            u.arm.begun = 0)) ∧
          (∀ i, k.read = some (.id i) → i ≠ k.target → fails .changeMismatch 0 (i.setWidth 32)) ∧
          (k.read = some .unreadable → fails .changeUnread (slotByte pick) 0))))

/-! ## Invariants -/

/-- Every step keeps the drives' invariant: an arm whose drives are DE_ENERGIZED is OFF, with no motion and no stop, and its setpoints are
its positions. Drives that are off stay off through every step but that of DRIVES on. -/
def Obligations.StepsKeepTheDrivesSound : Prop :=
  (∀ s t : State, s.drivesHold → step s = .next t → t.drivesHold) ∧
  (∀ s t : State, s.arm.energized = false → (∀ sender payload rest, s.pending ≠ .drivesOn sender payload :: rest) →
    step s = .next t → t.arm.energized = false)

/-- Every step keeps the places of the mailboxes M1 and M2, the move queue, the excursion stack, the probe table, the capture
ring, the lists of claims and the join unit's logs. -/
def Obligations.StepsKeepTheBuffersBounded : Prop := ∀ s t : State, s.bounded → step s = .next t → t.bounded

/-- Every step keeps it that a LOADED station holds an image that passed the four judgements, and no other station holds one. -/
def Obligations.StepsKeepTheImageJudged : Prop := ∀ s t : State, s.imageJudged → step s = .next t → t.imageJudged

/-- The three invariants hold right after reset. -/
def Obligations.ResetMeetsTheInvariants : Prop :=
  State.reset.drivesHold ∧ State.reset.bounded ∧ State.reset.imageJudged
end

