-- ==== Sys2Proof/Laws/State.lean ====
section
/-! SUPPORT. For each operation that changes few fields, one lemma that names the fields it leaves alone. The lemmas are
simp lemmas, so that a proof never unfolds one of these operations to pass it by. -/

namespace Sys2Proof.Machine

open Sys2Proof

@[simp] theorem State.reach_frame (since : Clock) (limit : Nat) (s : State) :
    (s.reach since limit).pending = s.pending ∧ (s.reach since limit).setup = s.setup ∧
    (s.reach since limit).freeCount = s.freeCount ∧ (s.reach since limit).detachDue = s.detachDue ∧
    (s.reach since limit).axes = s.axes ∧ (s.reach since limit).estop = s.estop ∧
    (s.reach since limit).lastFault = s.lastFault ∧ (s.reach since limit).arm = s.arm ∧
    (s.reach since limit).run = s.run ∧ (s.reach since limit).chg = s.chg ∧ (s.reach since limit).qual = s.qual ∧
    (s.reach since limit).soak = s.soak ∧ (s.reach since limit).line = s.line ∧ (s.reach since limit).join = s.join ∧
    (s.reach since limit).table = s.table ∧ (s.reach since limit).agent = s.agent ∧
    (s.reach since limit).probes = s.probes ∧ (s.reach since limit).mounted = s.mounted ∧
    (s.reach since limit).head = s.head ∧ (s.reach since limit).trig = s.trig ∧ (s.reach since limit).cap = s.cap ∧
    (s.reach since limit).part = s.part ∧ (s.reach since limit).thermal = s.thermal ∧
    (s.reach since limit).events = s.events ∧ (s.reach since limit).rack = s.rack := by
  unfold State.reach
  (repeat' split) <;> simp

@[simp] theorem State.moveSetpoints_frame (v : Vec3 Lu) (s : State) :
    (s.moveSetpoints v).pending = s.pending ∧ (s.moveSetpoints v).setup = s.setup ∧
    (s.moveSetpoints v).clock = s.clock ∧ (s.moveSetpoints v).freeCount = s.freeCount ∧
    (s.moveSetpoints v).detachDue = s.detachDue ∧ (s.moveSetpoints v).estop = s.estop ∧
    (s.moveSetpoints v).lastFault = s.lastFault ∧ (s.moveSetpoints v).arm = s.arm ∧ (s.moveSetpoints v).run = s.run ∧
    (s.moveSetpoints v).chg = s.chg ∧ (s.moveSetpoints v).qual = s.qual ∧ (s.moveSetpoints v).soak = s.soak ∧
    (s.moveSetpoints v).line = s.line ∧ (s.moveSetpoints v).join = s.join ∧ (s.moveSetpoints v).table = s.table ∧
    (s.moveSetpoints v).agent = s.agent ∧ (s.moveSetpoints v).probes = s.probes ∧
    (s.moveSetpoints v).mounted = s.mounted ∧ (s.moveSetpoints v).head = s.head ∧ (s.moveSetpoints v).trig = s.trig ∧
    (s.moveSetpoints v).cap = s.cap ∧ (s.moveSetpoints v).part = s.part ∧ (s.moveSetpoints v).thermal = s.thermal ∧
    (s.moveSetpoints v).events = s.events ∧ (s.moveSetpoints v).rack = s.rack := by
  unfold State.moveSetpoints
  (repeat' split) <;> simp

@[simp] theorem State.holdSetpoints_frame (s : State) :
    (s.holdSetpoints).pending = s.pending ∧ (s.holdSetpoints).setup = s.setup ∧ (s.holdSetpoints).clock = s.clock ∧
    (s.holdSetpoints).freeCount = s.freeCount ∧ (s.holdSetpoints).detachDue = s.detachDue ∧
    (s.holdSetpoints).estop = s.estop ∧ (s.holdSetpoints).lastFault = s.lastFault ∧ (s.holdSetpoints).arm = s.arm ∧
    (s.holdSetpoints).run = s.run ∧ (s.holdSetpoints).chg = s.chg ∧ (s.holdSetpoints).qual = s.qual ∧
    (s.holdSetpoints).soak = s.soak ∧ (s.holdSetpoints).line = s.line ∧ (s.holdSetpoints).join = s.join ∧
    (s.holdSetpoints).table = s.table ∧ (s.holdSetpoints).agent = s.agent ∧ (s.holdSetpoints).probes = s.probes ∧
    (s.holdSetpoints).mounted = s.mounted ∧ (s.holdSetpoints).head = s.head ∧ (s.holdSetpoints).trig = s.trig ∧
    (s.holdSetpoints).cap = s.cap ∧ (s.holdSetpoints).part = s.part ∧ (s.holdSetpoints).thermal = s.thermal ∧
    (s.holdSetpoints).events = s.events ∧ (s.holdSetpoints).rack = s.rack := by
  unfold State.holdSetpoints
  simp

@[simp] theorem State.reloadPositions_frame (s : State) :
    (s.reloadPositions).pending = s.pending ∧ (s.reloadPositions).setup = s.setup ∧
    (s.reloadPositions).clock = s.clock ∧ (s.reloadPositions).freeCount = s.freeCount ∧
    (s.reloadPositions).detachDue = s.detachDue ∧ (s.reloadPositions).estop = s.estop ∧
    (s.reloadPositions).lastFault = s.lastFault ∧ (s.reloadPositions).arm = s.arm ∧ (s.reloadPositions).run = s.run ∧
    (s.reloadPositions).chg = s.chg ∧ (s.reloadPositions).qual = s.qual ∧ (s.reloadPositions).soak = s.soak ∧
    (s.reloadPositions).line = s.line ∧ (s.reloadPositions).join = s.join ∧ (s.reloadPositions).table = s.table ∧
    (s.reloadPositions).agent = s.agent ∧ (s.reloadPositions).probes = s.probes ∧
    (s.reloadPositions).mounted = s.mounted ∧ (s.reloadPositions).head = s.head ∧ (s.reloadPositions).trig = s.trig ∧
    (s.reloadPositions).cap = s.cap ∧ (s.reloadPositions).part = s.part ∧ (s.reloadPositions).thermal = s.thermal ∧
    (s.reloadPositions).events = s.events ∧ (s.reloadPositions).rack = s.rack := by
  unfold State.reloadPositions
  simp

@[simp] theorem State.leaveShadow_frame (s : State) :
    (s.leaveShadow).pending = s.pending ∧ (s.leaveShadow).setup = s.setup ∧ (s.leaveShadow).clock = s.clock ∧
    (s.leaveShadow).freeCount = s.freeCount ∧ (s.leaveShadow).detachDue = s.detachDue ∧
    (s.leaveShadow).estop = s.estop ∧ (s.leaveShadow).lastFault = s.lastFault ∧ (s.leaveShadow).run = s.run ∧
    (s.leaveShadow).chg = s.chg ∧ (s.leaveShadow).qual = s.qual ∧ (s.leaveShadow).soak = s.soak ∧
    (s.leaveShadow).line = s.line ∧ (s.leaveShadow).join = s.join ∧ (s.leaveShadow).table = s.table ∧
    (s.leaveShadow).agent = s.agent ∧ (s.leaveShadow).probes = s.probes ∧ (s.leaveShadow).mounted = s.mounted ∧
    (s.leaveShadow).head = s.head ∧ (s.leaveShadow).trig = s.trig ∧ (s.leaveShadow).cap = s.cap ∧
    (s.leaveShadow).part = s.part ∧ (s.leaveShadow).thermal = s.thermal ∧ (s.leaveShadow).events = s.events ∧
    (s.leaveShadow).rack = s.rack := by
  simp [State.leaveShadow]

/-- The end of shadow mode: the standing set is the physical one, and nothing is begun (R39). -/
@[simp] theorem State.leaveShadow_arm (s : State) :
    s.leaveShadow.arm = { s.arm with shadow := false, standing := s.arm.phys, phys := 0, begun := 0 } := rfl

/-- Each position is loaded from its scale position as shadow mode ends (R2). -/
theorem State.leaveShadow_axes (s : State) :
    s.leaveShadow.axes = vmap (fun _ a => { a with pos := a.scale }) s.axes := rfl

@[simp] theorem State.emit_frame (e : Event) (s : State) :
    (s.emit e).pending = s.pending ∧ (s.emit e).setup = s.setup ∧ (s.emit e).clock = s.clock ∧
    (s.emit e).freeCount = s.freeCount ∧ (s.emit e).detachDue = s.detachDue ∧ (s.emit e).axes = s.axes ∧
    (s.emit e).estop = s.estop ∧ (s.emit e).lastFault = s.lastFault ∧ (s.emit e).arm = s.arm ∧
    (s.emit e).run = s.run ∧ (s.emit e).chg = s.chg ∧ (s.emit e).qual = s.qual ∧ (s.emit e).soak = s.soak ∧
    (s.emit e).line = s.line ∧ (s.emit e).join = s.join ∧ (s.emit e).table = s.table ∧ (s.emit e).agent = s.agent ∧
    (s.emit e).probes = s.probes ∧ (s.emit e).mounted = s.mounted ∧ (s.emit e).head = s.head ∧
    (s.emit e).trig = s.trig ∧ (s.emit e).cap = s.cap ∧ (s.emit e).part = s.part ∧ (s.emit e).thermal = s.thermal ∧
    (s.emit e).rack = s.rack := by
  unfold State.emit
  (repeat' split) <;> simp

@[simp] theorem State.raiseAt_frame (r : FaultReport) (position : Vec3 Lu) (s : State) :
    (s.raiseAt r position).pending = s.pending ∧ (s.raiseAt r position).setup = s.setup ∧
    (s.raiseAt r position).clock = s.clock ∧ (s.raiseAt r position).freeCount = s.freeCount ∧
    (s.raiseAt r position).detachDue = s.detachDue ∧ (s.raiseAt r position).axes = s.axes ∧
    (s.raiseAt r position).estop = s.estop ∧ (s.raiseAt r position).arm = s.arm ∧ (s.raiseAt r position).run = s.run ∧
    (s.raiseAt r position).chg = s.chg ∧ (s.raiseAt r position).qual = s.qual ∧ (s.raiseAt r position).soak = s.soak ∧
    (s.raiseAt r position).line = s.line ∧ (s.raiseAt r position).join = s.join ∧
    (s.raiseAt r position).table = s.table ∧ (s.raiseAt r position).agent = s.agent ∧
    (s.raiseAt r position).probes = s.probes ∧ (s.raiseAt r position).mounted = s.mounted ∧
    (s.raiseAt r position).head = s.head ∧ (s.raiseAt r position).trig = s.trig ∧ (s.raiseAt r position).cap = s.cap ∧
    (s.raiseAt r position).part = s.part ∧ (s.raiseAt r position).thermal = s.thermal ∧
    (s.raiseAt r position).rack = s.rack := by
  unfold State.raiseAt
  simp

@[simp] theorem State.raise_frame (r : FaultReport) (s : State) :
    (s.raise r).pending = s.pending ∧ (s.raise r).setup = s.setup ∧ (s.raise r).clock = s.clock ∧
    (s.raise r).freeCount = s.freeCount ∧ (s.raise r).detachDue = s.detachDue ∧ (s.raise r).axes = s.axes ∧
    (s.raise r).estop = s.estop ∧ (s.raise r).arm = s.arm ∧ (s.raise r).run = s.run ∧ (s.raise r).chg = s.chg ∧
    (s.raise r).qual = s.qual ∧ (s.raise r).soak = s.soak ∧ (s.raise r).line = s.line ∧ (s.raise r).join = s.join ∧
    (s.raise r).table = s.table ∧ (s.raise r).agent = s.agent ∧ (s.raise r).probes = s.probes ∧
    (s.raise r).mounted = s.mounted ∧ (s.raise r).head = s.head ∧ (s.raise r).trig = s.trig ∧
    (s.raise r).cap = s.cap ∧ (s.raise r).part = s.part ∧ (s.raise r).thermal = s.thermal ∧ (s.raise r).rack = s.rack := by
  unfold State.raise
  simp

@[simp] theorem State.pushM1_frame (e : M1Entry) (s : State) :
    (s.pushM1 e).pending = s.pending ∧ (s.pushM1 e).setup = s.setup ∧ (s.pushM1 e).clock = s.clock ∧
    (s.pushM1 e).freeCount = s.freeCount ∧ (s.pushM1 e).axes = s.axes ∧ (s.pushM1 e).estop = s.estop ∧
    (s.pushM1 e).lastFault = s.lastFault ∧ (s.pushM1 e).arm = s.arm ∧ (s.pushM1 e).run = s.run ∧
    (s.pushM1 e).chg = s.chg ∧ (s.pushM1 e).qual = s.qual ∧ (s.pushM1 e).soak = s.soak ∧ (s.pushM1 e).join = s.join ∧
    (s.pushM1 e).table = s.table ∧ (s.pushM1 e).agent = s.agent ∧ (s.pushM1 e).probes = s.probes ∧
    (s.pushM1 e).mounted = s.mounted ∧ (s.pushM1 e).head = s.head ∧ (s.pushM1 e).trig = s.trig ∧
    (s.pushM1 e).cap = s.cap ∧ (s.pushM1 e).part = s.part ∧ (s.pushM1 e).thermal = s.thermal ∧
    (s.pushM1 e).events = s.events ∧ (s.pushM1 e).rack = s.rack := by
  unfold State.pushM1
  (repeat' split) <;> simp

@[simp] theorem State.queueRelease_frame (items : ItemSet) (s : State) :
    (s.queueRelease items).pending = s.pending ∧ (s.queueRelease items).setup = s.setup ∧
    (s.queueRelease items).clock = s.clock ∧ (s.queueRelease items).freeCount = s.freeCount ∧
    (s.queueRelease items).axes = s.axes ∧ (s.queueRelease items).estop = s.estop ∧
    (s.queueRelease items).lastFault = s.lastFault ∧ (s.queueRelease items).arm = s.arm ∧
    (s.queueRelease items).run = s.run ∧ (s.queueRelease items).chg = s.chg ∧ (s.queueRelease items).qual = s.qual ∧
    (s.queueRelease items).soak = s.soak ∧ (s.queueRelease items).join = s.join ∧
    (s.queueRelease items).table = s.table ∧ (s.queueRelease items).agent = s.agent ∧
    (s.queueRelease items).probes = s.probes ∧ (s.queueRelease items).mounted = s.mounted ∧
    (s.queueRelease items).head = s.head ∧ (s.queueRelease items).trig = s.trig ∧ (s.queueRelease items).cap = s.cap ∧
    (s.queueRelease items).part = s.part ∧ (s.queueRelease items).thermal = s.thermal ∧
    (s.queueRelease items).events = s.events ∧ (s.queueRelease items).rack = s.rack := by
  unfold State.queueRelease
  (repeat' split) <;> simp

@[simp] theorem State.releaseOutside_frame (zones : ZoneSet) (s : State) :
    (s.releaseOutside zones).pending = s.pending ∧ (s.releaseOutside zones).setup = s.setup ∧
    (s.releaseOutside zones).clock = s.clock ∧ (s.releaseOutside zones).freeCount = s.freeCount ∧
    (s.releaseOutside zones).axes = s.axes ∧ (s.releaseOutside zones).estop = s.estop ∧
    (s.releaseOutside zones).lastFault = s.lastFault ∧ (s.releaseOutside zones).arm = s.arm ∧
    (s.releaseOutside zones).run = s.run ∧ (s.releaseOutside zones).chg = s.chg ∧
    (s.releaseOutside zones).qual = s.qual ∧ (s.releaseOutside zones).soak = s.soak ∧
    (s.releaseOutside zones).join = s.join ∧ (s.releaseOutside zones).table = s.table ∧
    (s.releaseOutside zones).agent = s.agent ∧ (s.releaseOutside zones).probes = s.probes ∧
    (s.releaseOutside zones).mounted = s.mounted ∧ (s.releaseOutside zones).head = s.head ∧
    (s.releaseOutside zones).trig = s.trig ∧ (s.releaseOutside zones).cap = s.cap ∧
    (s.releaseOutside zones).part = s.part ∧ (s.releaseOutside zones).thermal = s.thermal ∧
    (s.releaseOutside zones).events = s.events ∧ (s.releaseOutside zones).rack = s.rack := by
  unfold State.releaseOutside
  simp

@[simp] theorem State.removeM1_frame (p : M1Entry → Bool) (s : State) :
    (s.removeM1 p).pending = s.pending ∧ (s.removeM1 p).setup = s.setup ∧ (s.removeM1 p).clock = s.clock ∧
    (s.removeM1 p).freeCount = s.freeCount ∧ (s.removeM1 p).detachDue = s.detachDue ∧ (s.removeM1 p).axes = s.axes ∧
    (s.removeM1 p).estop = s.estop ∧ (s.removeM1 p).lastFault = s.lastFault ∧ (s.removeM1 p).arm = s.arm ∧
    (s.removeM1 p).run = s.run ∧ (s.removeM1 p).chg = s.chg ∧ (s.removeM1 p).qual = s.qual ∧
    (s.removeM1 p).soak = s.soak ∧ (s.removeM1 p).join = s.join ∧ (s.removeM1 p).table = s.table ∧
    (s.removeM1 p).agent = s.agent ∧ (s.removeM1 p).probes = s.probes ∧ (s.removeM1 p).mounted = s.mounted ∧
    (s.removeM1 p).head = s.head ∧ (s.removeM1 p).trig = s.trig ∧ (s.removeM1 p).cap = s.cap ∧
    (s.removeM1 p).part = s.part ∧ (s.removeM1 p).thermal = s.thermal ∧ (s.removeM1 p).events = s.events ∧
    (s.removeM1 p).rack = s.rack := by
  unfold State.removeM1
  simp

@[simp] theorem State.removeAllM1_frame (p : M1Entry → Bool) (s : State) :
    (s.removeAllM1 p).pending = s.pending ∧ (s.removeAllM1 p).setup = s.setup ∧ (s.removeAllM1 p).clock = s.clock ∧
    (s.removeAllM1 p).freeCount = s.freeCount ∧ (s.removeAllM1 p).detachDue = s.detachDue ∧
    (s.removeAllM1 p).axes = s.axes ∧ (s.removeAllM1 p).estop = s.estop ∧ (s.removeAllM1 p).lastFault = s.lastFault ∧
    (s.removeAllM1 p).arm = s.arm ∧ (s.removeAllM1 p).run = s.run ∧ (s.removeAllM1 p).chg = s.chg ∧
    (s.removeAllM1 p).qual = s.qual ∧ (s.removeAllM1 p).soak = s.soak ∧ (s.removeAllM1 p).join = s.join ∧
    (s.removeAllM1 p).table = s.table ∧ (s.removeAllM1 p).agent = s.agent ∧ (s.removeAllM1 p).probes = s.probes ∧
    (s.removeAllM1 p).mounted = s.mounted ∧ (s.removeAllM1 p).head = s.head ∧ (s.removeAllM1 p).trig = s.trig ∧
    (s.removeAllM1 p).cap = s.cap ∧ (s.removeAllM1 p).part = s.part ∧ (s.removeAllM1 p).thermal = s.thermal ∧
    (s.removeAllM1 p).events = s.events ∧ (s.removeAllM1 p).rack = s.rack := by
  unfold State.removeAllM1
  simp

@[simp] theorem State.rewriteM1_frame (p : M1Entry → Bool) (e : M1Entry) (s : State) :
    (s.rewriteM1 p e).pending = s.pending ∧ (s.rewriteM1 p e).setup = s.setup ∧ (s.rewriteM1 p e).clock = s.clock ∧
    (s.rewriteM1 p e).freeCount = s.freeCount ∧ (s.rewriteM1 p e).detachDue = s.detachDue ∧
    (s.rewriteM1 p e).axes = s.axes ∧ (s.rewriteM1 p e).estop = s.estop ∧ (s.rewriteM1 p e).lastFault = s.lastFault ∧
    (s.rewriteM1 p e).arm = s.arm ∧ (s.rewriteM1 p e).run = s.run ∧ (s.rewriteM1 p e).chg = s.chg ∧
    (s.rewriteM1 p e).qual = s.qual ∧ (s.rewriteM1 p e).soak = s.soak ∧ (s.rewriteM1 p e).join = s.join ∧
    (s.rewriteM1 p e).table = s.table ∧ (s.rewriteM1 p e).agent = s.agent ∧ (s.rewriteM1 p e).probes = s.probes ∧
    (s.rewriteM1 p e).mounted = s.mounted ∧ (s.rewriteM1 p e).head = s.head ∧ (s.rewriteM1 p e).trig = s.trig ∧
    (s.rewriteM1 p e).cap = s.cap ∧ (s.rewriteM1 p e).part = s.part ∧ (s.rewriteM1 p e).thermal = s.thermal ∧
    (s.rewriteM1 p e).events = s.events ∧ (s.rewriteM1 p e).rack = s.rack := by
  unfold State.rewriteM1
  simp

@[simp] theorem State.rewriteLastM1_frame (p : M1Entry → Bool) (e : M1Entry) (s : State) :
    (s.rewriteLastM1 p e).pending = s.pending ∧ (s.rewriteLastM1 p e).setup = s.setup ∧
    (s.rewriteLastM1 p e).clock = s.clock ∧ (s.rewriteLastM1 p e).freeCount = s.freeCount ∧
    (s.rewriteLastM1 p e).detachDue = s.detachDue ∧ (s.rewriteLastM1 p e).axes = s.axes ∧
    (s.rewriteLastM1 p e).estop = s.estop ∧ (s.rewriteLastM1 p e).lastFault = s.lastFault ∧
    (s.rewriteLastM1 p e).arm = s.arm ∧ (s.rewriteLastM1 p e).run = s.run ∧ (s.rewriteLastM1 p e).chg = s.chg ∧
    (s.rewriteLastM1 p e).qual = s.qual ∧ (s.rewriteLastM1 p e).soak = s.soak ∧ (s.rewriteLastM1 p e).join = s.join ∧
    (s.rewriteLastM1 p e).table = s.table ∧ (s.rewriteLastM1 p e).agent = s.agent ∧
    (s.rewriteLastM1 p e).probes = s.probes ∧ (s.rewriteLastM1 p e).mounted = s.mounted ∧
    (s.rewriteLastM1 p e).head = s.head ∧ (s.rewriteLastM1 p e).trig = s.trig ∧ (s.rewriteLastM1 p e).cap = s.cap ∧
    (s.rewriteLastM1 p e).part = s.part ∧ (s.rewriteLastM1 p e).thermal = s.thermal ∧
    (s.rewriteLastM1 p e).events = s.events ∧ (s.rewriteLastM1 p e).rack = s.rack := by
  unfold State.rewriteLastM1
  simp

@[simp] theorem State.updateProbe_frame (id : ProbeId) (f : ProbeRecord → ProbeRecord) (s : State) :
    (s.updateProbe id f).pending = s.pending ∧ (s.updateProbe id f).setup = s.setup ∧
    (s.updateProbe id f).clock = s.clock ∧ (s.updateProbe id f).freeCount = s.freeCount ∧
    (s.updateProbe id f).detachDue = s.detachDue ∧ (s.updateProbe id f).axes = s.axes ∧
    (s.updateProbe id f).estop = s.estop ∧ (s.updateProbe id f).lastFault = s.lastFault ∧
    (s.updateProbe id f).arm = s.arm ∧ (s.updateProbe id f).run = s.run ∧ (s.updateProbe id f).chg = s.chg ∧
    (s.updateProbe id f).qual = s.qual ∧ (s.updateProbe id f).soak = s.soak ∧ (s.updateProbe id f).line = s.line ∧
    (s.updateProbe id f).join = s.join ∧ (s.updateProbe id f).table = s.table ∧ (s.updateProbe id f).agent = s.agent ∧
    (s.updateProbe id f).mounted = s.mounted ∧ (s.updateProbe id f).head = s.head ∧
    (s.updateProbe id f).trig = s.trig ∧ (s.updateProbe id f).cap = s.cap ∧ (s.updateProbe id f).part = s.part ∧
    (s.updateProbe id f).thermal = s.thermal ∧ (s.updateProbe id f).events = s.events ∧
    (s.updateProbe id f).rack = s.rack := by
  unfold State.updateProbe
  simp

@[simp] theorem State.requestPulse_frame (kind : PulseKind) (change : Nat) (s : State) :
    (s.requestPulse kind change).pending = s.pending ∧ (s.requestPulse kind change).setup = s.setup ∧
    (s.requestPulse kind change).clock = s.clock ∧ (s.requestPulse kind change).freeCount = s.freeCount ∧
    (s.requestPulse kind change).detachDue = s.detachDue ∧ (s.requestPulse kind change).axes = s.axes ∧
    (s.requestPulse kind change).estop = s.estop ∧ (s.requestPulse kind change).lastFault = s.lastFault ∧
    (s.requestPulse kind change).arm = s.arm ∧ (s.requestPulse kind change).run = s.run ∧
    (s.requestPulse kind change).chg = s.chg ∧ (s.requestPulse kind change).qual = s.qual ∧
    (s.requestPulse kind change).soak = s.soak ∧ (s.requestPulse kind change).line = s.line ∧
    (s.requestPulse kind change).join = s.join ∧ (s.requestPulse kind change).table = s.table ∧
    (s.requestPulse kind change).agent = s.agent ∧ (s.requestPulse kind change).probes = s.probes ∧
    (s.requestPulse kind change).mounted = s.mounted ∧ (s.requestPulse kind change).trig = s.trig ∧
    (s.requestPulse kind change).cap = s.cap ∧ (s.requestPulse kind change).part = s.part ∧
    (s.requestPulse kind change).thermal = s.thermal ∧ (s.requestPulse kind change).events = s.events ∧
    (s.requestPulse kind change).rack = s.rack := by
  unfold State.requestPulse
  dsimp only
  (repeat' split) <;> simp

@[simp] theorem State.nextPulse_frame (s : State) :
    (s.nextPulse).pending = s.pending ∧ (s.nextPulse).setup = s.setup ∧ (s.nextPulse).clock = s.clock ∧
    (s.nextPulse).freeCount = s.freeCount ∧ (s.nextPulse).detachDue = s.detachDue ∧ (s.nextPulse).axes = s.axes ∧
    (s.nextPulse).estop = s.estop ∧ (s.nextPulse).lastFault = s.lastFault ∧ (s.nextPulse).arm = s.arm ∧
    (s.nextPulse).run = s.run ∧ (s.nextPulse).chg = s.chg ∧ (s.nextPulse).qual = s.qual ∧
    (s.nextPulse).soak = s.soak ∧ (s.nextPulse).line = s.line ∧ (s.nextPulse).join = s.join ∧
    (s.nextPulse).table = s.table ∧ (s.nextPulse).agent = s.agent ∧ (s.nextPulse).probes = s.probes ∧
    (s.nextPulse).mounted = s.mounted ∧ (s.nextPulse).trig = s.trig ∧ (s.nextPulse).cap = s.cap ∧
    (s.nextPulse).part = s.part ∧ (s.nextPulse).thermal = s.thermal ∧ (s.nextPulse).events = s.events ∧
    (s.nextPulse).rack = s.rack := by
  unfold State.nextPulse
  simp

@[simp] theorem State.requestRead_frame (f : IdRead → IdRead) (s : State) :
    (s.requestRead f).pending = s.pending ∧ (s.requestRead f).setup = s.setup ∧ (s.requestRead f).clock = s.clock ∧
    (s.requestRead f).freeCount = s.freeCount ∧ (s.requestRead f).detachDue = s.detachDue ∧
    (s.requestRead f).axes = s.axes ∧ (s.requestRead f).estop = s.estop ∧ (s.requestRead f).lastFault = s.lastFault ∧
    (s.requestRead f).arm = s.arm ∧ (s.requestRead f).run = s.run ∧ (s.requestRead f).chg = s.chg ∧
    (s.requestRead f).qual = s.qual ∧ (s.requestRead f).soak = s.soak ∧ (s.requestRead f).line = s.line ∧
    (s.requestRead f).join = s.join ∧ (s.requestRead f).table = s.table ∧ (s.requestRead f).agent = s.agent ∧
    (s.requestRead f).probes = s.probes ∧ (s.requestRead f).mounted = s.mounted ∧ (s.requestRead f).trig = s.trig ∧
    (s.requestRead f).cap = s.cap ∧ (s.requestRead f).part = s.part ∧ (s.requestRead f).thermal = s.thermal ∧
    (s.requestRead f).events = s.events ∧ (s.requestRead f).rack = s.rack := by
  unfold State.requestRead
  simp

@[simp] theorem State.dropLatch_frame (s : State) :
    (s.dropLatch).pending = s.pending ∧ (s.dropLatch).setup = s.setup ∧ (s.dropLatch).clock = s.clock ∧
    (s.dropLatch).freeCount = s.freeCount ∧ (s.dropLatch).detachDue = s.detachDue ∧ (s.dropLatch).axes = s.axes ∧
    (s.dropLatch).estop = s.estop ∧ (s.dropLatch).lastFault = s.lastFault ∧ (s.dropLatch).arm = s.arm ∧
    (s.dropLatch).run = s.run ∧ (s.dropLatch).chg = s.chg ∧ (s.dropLatch).qual = s.qual ∧
    (s.dropLatch).soak = s.soak ∧ (s.dropLatch).line = s.line ∧ (s.dropLatch).join = s.join ∧
    (s.dropLatch).table = s.table ∧ (s.dropLatch).agent = s.agent ∧ (s.dropLatch).probes = s.probes ∧
    (s.dropLatch).mounted = s.mounted ∧ (s.dropLatch).head = s.head ∧ (s.dropLatch).cap = s.cap ∧
    (s.dropLatch).part = s.part ∧ (s.dropLatch).thermal = s.thermal ∧ (s.dropLatch).events = s.events ∧
    (s.dropLatch).rack = s.rack := by
  unfold State.dropLatch
  simp

@[simp] theorem State.setClaim_frame (c : Option CurrentClaim) (s : State) :
    (s.setClaim c).pending = s.pending ∧ (s.setClaim c).setup = s.setup ∧ (s.setClaim c).clock = s.clock ∧
    (s.setClaim c).freeCount = s.freeCount ∧ (s.setClaim c).detachDue = s.detachDue ∧ (s.setClaim c).axes = s.axes ∧
    (s.setClaim c).estop = s.estop ∧ (s.setClaim c).lastFault = s.lastFault ∧ (s.setClaim c).arm = s.arm ∧
    (s.setClaim c).run = s.run ∧ (s.setClaim c).chg = s.chg ∧ (s.setClaim c).qual = s.qual ∧
    (s.setClaim c).soak = s.soak ∧ (s.setClaim c).line = s.line ∧ (s.setClaim c).join = s.join ∧
    (s.setClaim c).table = s.table ∧ (s.setClaim c).probes = s.probes ∧ (s.setClaim c).mounted = s.mounted ∧
    (s.setClaim c).head = s.head ∧ (s.setClaim c).trig = s.trig ∧ (s.setClaim c).cap = s.cap ∧
    (s.setClaim c).part = s.part ∧ (s.setClaim c).thermal = s.thermal ∧ (s.setClaim c).events = s.events ∧
    (s.setClaim c).rack = s.rack := by
  unfold State.setClaim
  simp

@[simp] theorem State.setRetired_frame (r : Option RetiredClaim) (s : State) :
    (s.setRetired r).pending = s.pending ∧ (s.setRetired r).setup = s.setup ∧ (s.setRetired r).clock = s.clock ∧
    (s.setRetired r).freeCount = s.freeCount ∧ (s.setRetired r).detachDue = s.detachDue ∧
    (s.setRetired r).axes = s.axes ∧ (s.setRetired r).estop = s.estop ∧ (s.setRetired r).lastFault = s.lastFault ∧
    (s.setRetired r).arm = s.arm ∧ (s.setRetired r).run = s.run ∧ (s.setRetired r).chg = s.chg ∧
    (s.setRetired r).qual = s.qual ∧ (s.setRetired r).soak = s.soak ∧ (s.setRetired r).line = s.line ∧
    (s.setRetired r).join = s.join ∧ (s.setRetired r).table = s.table ∧ (s.setRetired r).probes = s.probes ∧
    (s.setRetired r).mounted = s.mounted ∧ (s.setRetired r).head = s.head ∧ (s.setRetired r).trig = s.trig ∧
    (s.setRetired r).cap = s.cap ∧ (s.setRetired r).part = s.part ∧ (s.setRetired r).thermal = s.thermal ∧
    (s.setRetired r).events = s.events ∧ (s.setRetired r).rack = s.rack := by
  unfold State.setRetired
  simp

@[simp] theorem State.endFrames_frame (items : ItemSet) (serial : Nat) (s : State) :
    (s.endFrames items serial).pending = s.pending ∧ (s.endFrames items serial).setup = s.setup ∧
    (s.endFrames items serial).clock = s.clock ∧ (s.endFrames items serial).freeCount = s.freeCount ∧
    (s.endFrames items serial).detachDue = s.detachDue ∧ (s.endFrames items serial).axes = s.axes ∧
    (s.endFrames items serial).estop = s.estop ∧ (s.endFrames items serial).lastFault = s.lastFault ∧
    (s.endFrames items serial).arm = s.arm ∧ (s.endFrames items serial).run = s.run ∧
    (s.endFrames items serial).chg = s.chg ∧ (s.endFrames items serial).qual = s.qual ∧
    (s.endFrames items serial).soak = s.soak ∧ (s.endFrames items serial).join = s.join ∧
    (s.endFrames items serial).table = s.table ∧ (s.endFrames items serial).probes = s.probes ∧
    (s.endFrames items serial).mounted = s.mounted ∧ (s.endFrames items serial).head = s.head ∧
    (s.endFrames items serial).trig = s.trig ∧ (s.endFrames items serial).cap = s.cap ∧
    (s.endFrames items serial).part = s.part ∧ (s.endFrames items serial).thermal = s.thermal ∧
    (s.endFrames items serial).events = s.events ∧ (s.endFrames items serial).rack = s.rack := by
  unfold State.endFrames
  dsimp only
  (repeat' split) <;> simp

@[simp] theorem State.newClaim_frame (r : Requester) (wanted missing : ItemSet) (s : State) :
    (s.newClaim r wanted missing).pending = s.pending ∧ (s.newClaim r wanted missing).setup = s.setup ∧
    (s.newClaim r wanted missing).clock = s.clock ∧ (s.newClaim r wanted missing).freeCount = s.freeCount ∧
    (s.newClaim r wanted missing).axes = s.axes ∧ (s.newClaim r wanted missing).estop = s.estop ∧
    (s.newClaim r wanted missing).lastFault = s.lastFault ∧ (s.newClaim r wanted missing).arm = s.arm ∧
    (s.newClaim r wanted missing).run = s.run ∧ (s.newClaim r wanted missing).chg = s.chg ∧
    (s.newClaim r wanted missing).qual = s.qual ∧ (s.newClaim r wanted missing).soak = s.soak ∧
    (s.newClaim r wanted missing).join = s.join ∧ (s.newClaim r wanted missing).table = s.table ∧
    (s.newClaim r wanted missing).probes = s.probes ∧ (s.newClaim r wanted missing).mounted = s.mounted ∧
    (s.newClaim r wanted missing).head = s.head ∧ (s.newClaim r wanted missing).trig = s.trig ∧
    (s.newClaim r wanted missing).cap = s.cap ∧ (s.newClaim r wanted missing).part = s.part ∧
    (s.newClaim r wanted missing).thermal = s.thermal ∧ (s.newClaim r wanted missing).events = s.events ∧
    (s.newClaim r wanted missing).rack = s.rack := by
  unfold State.newClaim
  simp

@[simp] theorem State.takeOver_frame (c : CurrentClaim) (r : Requester) (wanted missing : ItemSet) (s : State) :
    (s.takeOver c r wanted missing).pending = s.pending ∧ (s.takeOver c r wanted missing).setup = s.setup ∧
    (s.takeOver c r wanted missing).clock = s.clock ∧ (s.takeOver c r wanted missing).freeCount = s.freeCount ∧
    (s.takeOver c r wanted missing).axes = s.axes ∧ (s.takeOver c r wanted missing).estop = s.estop ∧
    (s.takeOver c r wanted missing).lastFault = s.lastFault ∧ (s.takeOver c r wanted missing).arm = s.arm ∧
    (s.takeOver c r wanted missing).run = s.run ∧ (s.takeOver c r wanted missing).chg = s.chg ∧
    (s.takeOver c r wanted missing).qual = s.qual ∧ (s.takeOver c r wanted missing).soak = s.soak ∧
    (s.takeOver c r wanted missing).join = s.join ∧ (s.takeOver c r wanted missing).table = s.table ∧
    (s.takeOver c r wanted missing).probes = s.probes ∧ (s.takeOver c r wanted missing).mounted = s.mounted ∧
    (s.takeOver c r wanted missing).head = s.head ∧ (s.takeOver c r wanted missing).trig = s.trig ∧
    (s.takeOver c r wanted missing).cap = s.cap ∧ (s.takeOver c r wanted missing).part = s.part ∧
    (s.takeOver c r wanted missing).thermal = s.thermal ∧ (s.takeOver c r wanted missing).events = s.events ∧
    (s.takeOver c r wanted missing).rack = s.rack := by
  unfold State.takeOver
  (repeat' split) <;> simp

@[simp] theorem State.request_frame (r : Requester) (wanted : ItemSet) (s : State) :
    (s.request r wanted).1.pending = s.pending ∧ (s.request r wanted).1.setup = s.setup ∧
    (s.request r wanted).1.clock = s.clock ∧ (s.request r wanted).1.freeCount = s.freeCount ∧
    (s.request r wanted).1.axes = s.axes ∧ (s.request r wanted).1.estop = s.estop ∧
    (s.request r wanted).1.lastFault = s.lastFault ∧ (s.request r wanted).1.arm = s.arm ∧
    (s.request r wanted).1.run = s.run ∧ (s.request r wanted).1.chg = s.chg ∧ (s.request r wanted).1.qual = s.qual ∧
    (s.request r wanted).1.soak = s.soak ∧ (s.request r wanted).1.join = s.join ∧
    (s.request r wanted).1.table = s.table ∧ (s.request r wanted).1.probes = s.probes ∧
    (s.request r wanted).1.mounted = s.mounted ∧ (s.request r wanted).1.head = s.head ∧
    (s.request r wanted).1.trig = s.trig ∧ (s.request r wanted).1.cap = s.cap ∧ (s.request r wanted).1.part = s.part ∧
    (s.request r wanted).1.thermal = s.thermal ∧ (s.request r wanted).1.events = s.events ∧
    (s.request r wanted).1.rack = s.rack := by
  unfold State.request
  dsimp only
  repeat' split
  all_goals simp

@[simp] theorem State.dropClaim_frame (s : State) :
    (s.dropClaim).pending = s.pending ∧ (s.dropClaim).setup = s.setup ∧ (s.dropClaim).clock = s.clock ∧
    (s.dropClaim).freeCount = s.freeCount ∧ (s.dropClaim).axes = s.axes ∧ (s.dropClaim).estop = s.estop ∧
    (s.dropClaim).lastFault = s.lastFault ∧ (s.dropClaim).arm = s.arm ∧ (s.dropClaim).run = s.run ∧
    (s.dropClaim).chg = s.chg ∧ (s.dropClaim).qual = s.qual ∧ (s.dropClaim).soak = s.soak ∧
    (s.dropClaim).join = s.join ∧ (s.dropClaim).table = s.table ∧ (s.dropClaim).probes = s.probes ∧
    (s.dropClaim).mounted = s.mounted ∧ (s.dropClaim).head = s.head ∧ (s.dropClaim).trig = s.trig ∧
    (s.dropClaim).cap = s.cap ∧ (s.dropClaim).part = s.part ∧ (s.dropClaim).thermal = s.thermal ∧
    (s.dropClaim).events = s.events ∧ (s.dropClaim).rack = s.rack := by
  unfold State.dropClaim
  (repeat' split) <;> simp

@[simp] theorem State.returnGrant_frame (r : RetiredClaim) (granted : ItemSet) (s : State) :
    (s.returnGrant r granted).pending = s.pending ∧ (s.returnGrant r granted).setup = s.setup ∧
    (s.returnGrant r granted).clock = s.clock ∧ (s.returnGrant r granted).freeCount = s.freeCount ∧
    (s.returnGrant r granted).axes = s.axes ∧ (s.returnGrant r granted).estop = s.estop ∧
    (s.returnGrant r granted).lastFault = s.lastFault ∧ (s.returnGrant r granted).arm = s.arm ∧
    (s.returnGrant r granted).run = s.run ∧ (s.returnGrant r granted).chg = s.chg ∧
    (s.returnGrant r granted).qual = s.qual ∧ (s.returnGrant r granted).soak = s.soak ∧
    (s.returnGrant r granted).join = s.join ∧ (s.returnGrant r granted).table = s.table ∧
    (s.returnGrant r granted).probes = s.probes ∧ (s.returnGrant r granted).mounted = s.mounted ∧
    (s.returnGrant r granted).head = s.head ∧ (s.returnGrant r granted).trig = s.trig ∧
    (s.returnGrant r granted).cap = s.cap ∧ (s.returnGrant r granted).part = s.part ∧
    (s.returnGrant r granted).thermal = s.thermal ∧ (s.returnGrant r granted).events = s.events ∧
    (s.returnGrant r granted).rack = s.rack := by
  unfold State.returnGrant
  simp

@[simp] theorem State.claimHeld_frame (c : CurrentClaim) (s : State) :
    (s.claimHeld c).1.pending = s.pending ∧ (s.claimHeld c).1.setup = s.setup ∧ (s.claimHeld c).1.clock = s.clock ∧
    (s.claimHeld c).1.freeCount = s.freeCount ∧ (s.claimHeld c).1.detachDue = s.detachDue ∧
    (s.claimHeld c).1.axes = s.axes ∧ (s.claimHeld c).1.estop = s.estop ∧ (s.claimHeld c).1.lastFault = s.lastFault ∧
    (s.claimHeld c).1.arm = s.arm ∧ (s.claimHeld c).1.run = s.run ∧ (s.claimHeld c).1.chg = s.chg ∧
    (s.claimHeld c).1.qual = s.qual ∧ (s.claimHeld c).1.soak = s.soak ∧ (s.claimHeld c).1.join = s.join ∧
    (s.claimHeld c).1.table = s.table ∧ (s.claimHeld c).1.probes = s.probes ∧ (s.claimHeld c).1.mounted = s.mounted ∧
    (s.claimHeld c).1.head = s.head ∧ (s.claimHeld c).1.trig = s.trig ∧ (s.claimHeld c).1.cap = s.cap ∧
    (s.claimHeld c).1.part = s.part ∧ (s.claimHeld c).1.thermal = s.thermal ∧ (s.claimHeld c).1.events = s.events ∧
    (s.claimHeld c).1.rack = s.rack := by
  unfold State.claimHeld
  dsimp only
  repeat' split
  all_goals simp

@[simp] theorem State.claimAgain_frame (c : CurrentClaim) (s : State) :
    (s.claimAgain c).pending = s.pending ∧ (s.claimAgain c).setup = s.setup ∧ (s.claimAgain c).clock = s.clock ∧
    (s.claimAgain c).freeCount = s.freeCount ∧ (s.claimAgain c).axes = s.axes ∧ (s.claimAgain c).estop = s.estop ∧
    (s.claimAgain c).lastFault = s.lastFault ∧ (s.claimAgain c).arm = s.arm ∧ (s.claimAgain c).run = s.run ∧
    (s.claimAgain c).chg = s.chg ∧ (s.claimAgain c).qual = s.qual ∧ (s.claimAgain c).soak = s.soak ∧
    (s.claimAgain c).join = s.join ∧ (s.claimAgain c).table = s.table ∧ (s.claimAgain c).probes = s.probes ∧
    (s.claimAgain c).mounted = s.mounted ∧ (s.claimAgain c).head = s.head ∧ (s.claimAgain c).trig = s.trig ∧
    (s.claimAgain c).cap = s.cap ∧ (s.claimAgain c).part = s.part ∧ (s.claimAgain c).thermal = s.thermal ∧
    (s.claimAgain c).events = s.events ∧ (s.claimAgain c).rack = s.rack := by
  unfold State.claimAgain
  dsimp only
  repeat' split
  all_goals simp

@[simp] theorem State.retiredApplied_frame (r : RetiredClaim) (granted : ItemSet) (entry : Bool) (s : State) :
    (s.retiredApplied r granted entry).pending = s.pending ∧ (s.retiredApplied r granted entry).setup = s.setup ∧
    (s.retiredApplied r granted entry).clock = s.clock ∧ (s.retiredApplied r granted entry).freeCount = s.freeCount ∧
    (s.retiredApplied r granted entry).axes = s.axes ∧ (s.retiredApplied r granted entry).estop = s.estop ∧
    (s.retiredApplied r granted entry).lastFault = s.lastFault ∧ (s.retiredApplied r granted entry).arm = s.arm ∧
    (s.retiredApplied r granted entry).run = s.run ∧ (s.retiredApplied r granted entry).chg = s.chg ∧
    (s.retiredApplied r granted entry).qual = s.qual ∧ (s.retiredApplied r granted entry).soak = s.soak ∧
    (s.retiredApplied r granted entry).join = s.join ∧ (s.retiredApplied r granted entry).table = s.table ∧
    (s.retiredApplied r granted entry).probes = s.probes ∧ (s.retiredApplied r granted entry).mounted = s.mounted ∧
    (s.retiredApplied r granted entry).head = s.head ∧ (s.retiredApplied r granted entry).trig = s.trig ∧
    (s.retiredApplied r granted entry).cap = s.cap ∧ (s.retiredApplied r granted entry).part = s.part ∧
    (s.retiredApplied r granted entry).thermal = s.thermal ∧ (s.retiredApplied r granted entry).events = s.events ∧
    (s.retiredApplied r granted entry).rack = s.rack := by
  unfold State.retiredApplied
  (repeat' split) <;> simp

@[simp] theorem State.currentApplied_frame (c : CurrentClaim) (table : Table) (s : State) :
    (s.currentApplied c table).1.pending = s.pending ∧ (s.currentApplied c table).1.setup = s.setup ∧
    (s.currentApplied c table).1.clock = s.clock ∧ (s.currentApplied c table).1.freeCount = s.freeCount ∧
    (s.currentApplied c table).1.axes = s.axes ∧ (s.currentApplied c table).1.estop = s.estop ∧
    (s.currentApplied c table).1.lastFault = s.lastFault ∧ (s.currentApplied c table).1.arm = s.arm ∧
    (s.currentApplied c table).1.run = s.run ∧ (s.currentApplied c table).1.chg = s.chg ∧
    (s.currentApplied c table).1.qual = s.qual ∧ (s.currentApplied c table).1.soak = s.soak ∧
    (s.currentApplied c table).1.join = s.join ∧ (s.currentApplied c table).1.table = s.table ∧
    (s.currentApplied c table).1.probes = s.probes ∧ (s.currentApplied c table).1.mounted = s.mounted ∧
    (s.currentApplied c table).1.head = s.head ∧ (s.currentApplied c table).1.trig = s.trig ∧
    (s.currentApplied c table).1.cap = s.cap ∧ (s.currentApplied c table).1.part = s.part ∧
    (s.currentApplied c table).1.thermal = s.thermal ∧ (s.currentApplied c table).1.events = s.events ∧
    (s.currentApplied c table).1.rack = s.rack := by
  unfold State.currentApplied
  repeat' split
  all_goals simp

@[simp] theorem State.ownClaimApplied_frame (table : Table) (granted : List ClaimEntry) (s : State) :
    (s.ownClaimApplied table granted).1.pending = s.pending ∧ (s.ownClaimApplied table granted).1.setup = s.setup ∧
    (s.ownClaimApplied table granted).1.clock = s.clock ∧
    (s.ownClaimApplied table granted).1.freeCount = s.freeCount ∧ (s.ownClaimApplied table granted).1.axes = s.axes ∧
    (s.ownClaimApplied table granted).1.estop = s.estop ∧
    (s.ownClaimApplied table granted).1.lastFault = s.lastFault ∧ (s.ownClaimApplied table granted).1.arm = s.arm ∧
    (s.ownClaimApplied table granted).1.run = s.run ∧ (s.ownClaimApplied table granted).1.chg = s.chg ∧
    (s.ownClaimApplied table granted).1.qual = s.qual ∧ (s.ownClaimApplied table granted).1.soak = s.soak ∧
    (s.ownClaimApplied table granted).1.join = s.join ∧ (s.ownClaimApplied table granted).1.table = s.table ∧
    (s.ownClaimApplied table granted).1.probes = s.probes ∧ (s.ownClaimApplied table granted).1.mounted = s.mounted ∧
    (s.ownClaimApplied table granted).1.head = s.head ∧ (s.ownClaimApplied table granted).1.trig = s.trig ∧
    (s.ownClaimApplied table granted).1.cap = s.cap ∧ (s.ownClaimApplied table granted).1.part = s.part ∧
    (s.ownClaimApplied table granted).1.thermal = s.thermal ∧ (s.ownClaimApplied table granted).1.events = s.events ∧
    (s.ownClaimApplied table granted).1.rack = s.rack := by
  unfold State.ownClaimApplied
  dsimp only
  repeat' split
  all_goals simp

@[simp] theorem State.grantApplied_frame (table : Table) (granted : List ClaimEntry) (s : State) :
    (s.grantApplied table granted).1.pending = s.pending ∧ (s.grantApplied table granted).1.setup = s.setup ∧
    (s.grantApplied table granted).1.clock = s.clock ∧ (s.grantApplied table granted).1.freeCount = s.freeCount ∧
    (s.grantApplied table granted).1.axes = s.axes ∧ (s.grantApplied table granted).1.estop = s.estop ∧
    (s.grantApplied table granted).1.lastFault = s.lastFault ∧ (s.grantApplied table granted).1.arm = s.arm ∧
    (s.grantApplied table granted).1.run = s.run ∧ (s.grantApplied table granted).1.chg = s.chg ∧
    (s.grantApplied table granted).1.qual = s.qual ∧ (s.grantApplied table granted).1.soak = s.soak ∧
    (s.grantApplied table granted).1.join = s.join ∧ (s.grantApplied table granted).1.table = s.table ∧
    (s.grantApplied table granted).1.probes = s.probes ∧ (s.grantApplied table granted).1.mounted = s.mounted ∧
    (s.grantApplied table granted).1.head = s.head ∧ (s.grantApplied table granted).1.trig = s.trig ∧
    (s.grantApplied table granted).1.cap = s.cap ∧ (s.grantApplied table granted).1.part = s.part ∧
    (s.grantApplied table granted).1.thermal = s.thermal ∧ (s.grantApplied table granted).1.events = s.events ∧
    (s.grantApplied table granted).1.rack = s.rack := by
  unfold State.grantApplied
  dsimp only
  repeat' split
  all_goals simp

@[simp] theorem State.agentApplied_frame (p : Station) (f : ShareFrame) (table : Table) (granted : List ClaimEntry) (s : State) :
    (s.agentApplied p f table granted).1.pending = s.pending ∧ (s.agentApplied p f table granted).1.setup = s.setup ∧
    (s.agentApplied p f table granted).1.clock = s.clock ∧
    (s.agentApplied p f table granted).1.freeCount = s.freeCount ∧
    (s.agentApplied p f table granted).1.axes = s.axes ∧ (s.agentApplied p f table granted).1.estop = s.estop ∧
    (s.agentApplied p f table granted).1.lastFault = s.lastFault ∧ (s.agentApplied p f table granted).1.arm = s.arm ∧
    (s.agentApplied p f table granted).1.run = s.run ∧ (s.agentApplied p f table granted).1.chg = s.chg ∧
    (s.agentApplied p f table granted).1.qual = s.qual ∧ (s.agentApplied p f table granted).1.soak = s.soak ∧
    (s.agentApplied p f table granted).1.join = s.join ∧ (s.agentApplied p f table granted).1.table = s.table ∧
    (s.agentApplied p f table granted).1.probes = s.probes ∧
    (s.agentApplied p f table granted).1.mounted = s.mounted ∧ (s.agentApplied p f table granted).1.head = s.head ∧
    (s.agentApplied p f table granted).1.trig = s.trig ∧ (s.agentApplied p f table granted).1.cap = s.cap ∧
    (s.agentApplied p f table granted).1.part = s.part ∧ (s.agentApplied p f table granted).1.thermal = s.thermal ∧
    (s.agentApplied p f table granted).1.events = s.events ∧ (s.agentApplied p f table granted).1.rack = s.rack := by
  have h : (s.agentApplied p f table granted).1 = (s.ownClaimApplied table granted).1 ∨
      (s.agentApplied p f table granted).1 = (s.grantApplied table granted).1 ∨
      ∃ r, (s.agentApplied p f table granted).1 = (s.grantApplied table granted).1.setRetired r := by
    unfold State.agentApplied
    cases f <;> dsimp only <;>
      first
        | exact Or.inr (Or.inl rfl)
        | (split
           · exact Or.inr (Or.inr ⟨_, rfl⟩)
           · exact Or.inr (Or.inl rfl))
        | (split <;> simp)
  rcases h with h | h | ⟨r, h⟩ <;> rw [h] <;> simp

@[simp] theorem State.claimFailed_frame (s : State) :
    (s.claimFailed).1.pending = s.pending ∧ (s.claimFailed).1.setup = s.setup ∧ (s.claimFailed).1.clock = s.clock ∧
    (s.claimFailed).1.freeCount = s.freeCount ∧ (s.claimFailed).1.detachDue = s.detachDue ∧
    (s.claimFailed).1.axes = s.axes ∧ (s.claimFailed).1.estop = s.estop ∧ (s.claimFailed).1.lastFault = s.lastFault ∧
    (s.claimFailed).1.arm = s.arm ∧ (s.claimFailed).1.run = s.run ∧ (s.claimFailed).1.chg = s.chg ∧
    (s.claimFailed).1.qual = s.qual ∧ (s.claimFailed).1.soak = s.soak ∧ (s.claimFailed).1.line = s.line ∧
    (s.claimFailed).1.join = s.join ∧ (s.claimFailed).1.table = s.table ∧ (s.claimFailed).1.probes = s.probes ∧
    (s.claimFailed).1.mounted = s.mounted ∧ (s.claimFailed).1.head = s.head ∧ (s.claimFailed).1.trig = s.trig ∧
    (s.claimFailed).1.cap = s.cap ∧ (s.claimFailed).1.part = s.part ∧ (s.claimFailed).1.thermal = s.thermal ∧
    (s.claimFailed).1.events = s.events ∧ (s.claimFailed).1.rack = s.rack := by
  unfold State.claimFailed
  (repeat' split) <;> simp

@[simp] theorem State.judgeStale_frame (arm : Option Temp) (s : State) :
    (s.judgeStale arm).pending = s.pending ∧ (s.judgeStale arm).setup = s.setup ∧ (s.judgeStale arm).clock = s.clock ∧
    (s.judgeStale arm).freeCount = s.freeCount ∧ (s.judgeStale arm).detachDue = s.detachDue ∧
    (s.judgeStale arm).axes = s.axes ∧ (s.judgeStale arm).estop = s.estop ∧
    (s.judgeStale arm).lastFault = s.lastFault ∧ (s.judgeStale arm).arm = s.arm ∧ (s.judgeStale arm).run = s.run ∧
    (s.judgeStale arm).chg = s.chg ∧ (s.judgeStale arm).qual = s.qual ∧ (s.judgeStale arm).soak = s.soak ∧
    (s.judgeStale arm).line = s.line ∧ (s.judgeStale arm).join = s.join ∧ (s.judgeStale arm).table = s.table ∧
    (s.judgeStale arm).agent = s.agent ∧ (s.judgeStale arm).mounted = s.mounted ∧ (s.judgeStale arm).head = s.head ∧
    (s.judgeStale arm).trig = s.trig ∧ (s.judgeStale arm).cap = s.cap ∧ (s.judgeStale arm).part = s.part ∧
    (s.judgeStale arm).thermal = s.thermal ∧ (s.judgeStale arm).events = s.events ∧ (s.judgeStale arm).rack = s.rack := by
  unfold State.judgeStale
  (repeat' split) <;> simp

@[simp] theorem State.fillThermal_frame (content : ThermalContent) (s : State) :
    (s.fillThermal content).pending = s.pending ∧ (s.fillThermal content).setup = s.setup ∧
    (s.fillThermal content).clock = s.clock ∧ (s.fillThermal content).freeCount = s.freeCount ∧
    (s.fillThermal content).detachDue = s.detachDue ∧ (s.fillThermal content).axes = s.axes ∧
    (s.fillThermal content).estop = s.estop ∧ (s.fillThermal content).lastFault = s.lastFault ∧
    (s.fillThermal content).arm = s.arm ∧ (s.fillThermal content).run = s.run ∧ (s.fillThermal content).chg = s.chg ∧
    (s.fillThermal content).qual = s.qual ∧ (s.fillThermal content).soak = s.soak ∧
    (s.fillThermal content).join = s.join ∧ (s.fillThermal content).table = s.table ∧
    (s.fillThermal content).agent = s.agent ∧ (s.fillThermal content).probes = s.probes ∧
    (s.fillThermal content).mounted = s.mounted ∧ (s.fillThermal content).head = s.head ∧
    (s.fillThermal content).trig = s.trig ∧ (s.fillThermal content).cap = s.cap ∧
    (s.fillThermal content).part = s.part ∧ (s.fillThermal content).thermal = s.thermal ∧
    (s.fillThermal content).events = s.events ∧ (s.fillThermal content).rack = s.rack := by
  unfold State.fillThermal
  (repeat' split) <;> simp

@[simp] theorem State.measure_frame (c : Image) (results : List (Nat × Judged)) (s : State) :
    (s.measure c results).pending = s.pending ∧ (s.measure c results).setup = s.setup ∧
    (s.measure c results).clock = s.clock ∧ (s.measure c results).freeCount = s.freeCount ∧
    (s.measure c results).detachDue = s.detachDue ∧ (s.measure c results).axes = s.axes ∧
    (s.measure c results).estop = s.estop ∧ (s.measure c results).lastFault = s.lastFault ∧
    (s.measure c results).arm = s.arm ∧ (s.measure c results).run = s.run ∧ (s.measure c results).chg = s.chg ∧
    (s.measure c results).qual = s.qual ∧ (s.measure c results).soak = s.soak ∧ (s.measure c results).line = s.line ∧
    (s.measure c results).join = s.join ∧ (s.measure c results).table = s.table ∧
    (s.measure c results).agent = s.agent ∧ (s.measure c results).probes = s.probes ∧
    (s.measure c results).mounted = s.mounted ∧ (s.measure c results).head = s.head ∧
    (s.measure c results).trig = s.trig ∧ (s.measure c results).cap = s.cap ∧ (s.measure c results).part = s.part ∧
    (s.measure c results).rack = s.rack := by
  unfold State.measure
  dsimp only
  split <;> simp

@[simp] theorem State.afterSettle_frame (c : Image) (s : State) :
    (s.afterSettle c).pending = s.pending ∧ (s.afterSettle c).setup = s.setup ∧ (s.afterSettle c).clock = s.clock ∧
    (s.afterSettle c).freeCount = s.freeCount ∧ (s.afterSettle c).detachDue = s.detachDue ∧
    (s.afterSettle c).axes = s.axes ∧ (s.afterSettle c).estop = s.estop ∧ (s.afterSettle c).lastFault = s.lastFault ∧
    (s.afterSettle c).arm = s.arm ∧ (s.afterSettle c).run = s.run ∧ (s.afterSettle c).chg = s.chg ∧
    (s.afterSettle c).qual = s.qual ∧ (s.afterSettle c).soak = s.soak ∧ (s.afterSettle c).join = s.join ∧
    (s.afterSettle c).table = s.table ∧ (s.afterSettle c).agent = s.agent ∧ (s.afterSettle c).mounted = s.mounted ∧
    (s.afterSettle c).head = s.head ∧ (s.afterSettle c).trig = s.trig ∧ (s.afterSettle c).cap = s.cap ∧
    (s.afterSettle c).part = s.part ∧ (s.afterSettle c).thermal = s.thermal ∧ (s.afterSettle c).events = s.events ∧
    (s.afterSettle c).rack = s.rack := by
  unfold State.afterSettle
  simp

@[simp] theorem State.decideReport_frame (s : State) :
    (s.decideReport).pending = s.pending ∧ (s.decideReport).setup = s.setup ∧ (s.decideReport).clock = s.clock ∧
    (s.decideReport).freeCount = s.freeCount ∧ (s.decideReport).detachDue = s.detachDue ∧
    (s.decideReport).axes = s.axes ∧ (s.decideReport).estop = s.estop ∧ (s.decideReport).lastFault = s.lastFault ∧
    (s.decideReport).arm = s.arm ∧ (s.decideReport).run = s.run ∧ (s.decideReport).chg = s.chg ∧
    (s.decideReport).qual = s.qual ∧ (s.decideReport).soak = s.soak ∧ (s.decideReport).join = s.join ∧
    (s.decideReport).table = s.table ∧ (s.decideReport).agent = s.agent ∧ (s.decideReport).probes = s.probes ∧
    (s.decideReport).mounted = s.mounted ∧ (s.decideReport).head = s.head ∧ (s.decideReport).trig = s.trig ∧
    (s.decideReport).cap = s.cap ∧ (s.decideReport).part = s.part ∧ (s.decideReport).thermal = s.thermal ∧
    (s.decideReport).events = s.events ∧ (s.decideReport).rack = s.rack := by
  unfold State.decideReport
  (repeat' split) <;> simp

@[simp] theorem State.drainRing_frame (s : State) :
    (s.drainRing).pending = s.pending ∧ (s.drainRing).setup = s.setup ∧ (s.drainRing).clock = s.clock ∧
    (s.drainRing).freeCount = s.freeCount ∧ (s.drainRing).detachDue = s.detachDue ∧ (s.drainRing).axes = s.axes ∧
    (s.drainRing).estop = s.estop ∧ (s.drainRing).lastFault = s.lastFault ∧ (s.drainRing).arm = s.arm ∧
    (s.drainRing).run = s.run ∧ (s.drainRing).chg = s.chg ∧ (s.drainRing).qual = s.qual ∧
    (s.drainRing).soak = s.soak ∧ (s.drainRing).join = s.join ∧ (s.drainRing).table = s.table ∧
    (s.drainRing).agent = s.agent ∧ (s.drainRing).probes = s.probes ∧ (s.drainRing).mounted = s.mounted ∧
    (s.drainRing).head = s.head ∧ (s.drainRing).trig = s.trig ∧ (s.drainRing).part = s.part ∧
    (s.drainRing).thermal = s.thermal ∧ (s.drainRing).events = s.events ∧ (s.drainRing).rack = s.rack := by
  unfold State.drainRing
  simp

@[simp] theorem State.dropPoints_frame (n : Nat) (s : State) :
    (s.dropPoints n).pending = s.pending ∧ (s.dropPoints n).setup = s.setup ∧ (s.dropPoints n).clock = s.clock ∧
    (s.dropPoints n).freeCount = s.freeCount ∧ (s.dropPoints n).detachDue = s.detachDue ∧
    (s.dropPoints n).axes = s.axes ∧ (s.dropPoints n).estop = s.estop ∧ (s.dropPoints n).lastFault = s.lastFault ∧
    (s.dropPoints n).arm = s.arm ∧ (s.dropPoints n).run = s.run ∧ (s.dropPoints n).chg = s.chg ∧
    (s.dropPoints n).qual = s.qual ∧ (s.dropPoints n).soak = s.soak ∧ (s.dropPoints n).line = s.line ∧
    (s.dropPoints n).join = s.join ∧ (s.dropPoints n).table = s.table ∧ (s.dropPoints n).agent = s.agent ∧
    (s.dropPoints n).probes = s.probes ∧ (s.dropPoints n).mounted = s.mounted ∧ (s.dropPoints n).head = s.head ∧
    (s.dropPoints n).trig = s.trig ∧ (s.dropPoints n).part = s.part ∧ (s.dropPoints n).thermal = s.thermal ∧
    (s.dropPoints n).events = s.events ∧ (s.dropPoints n).rack = s.rack := by
  unfold State.dropPoints
  simp

@[simp] theorem State.buildPoint_frame (raw : Vec3 Lu) (s : State) :
    (s.buildPoint raw).pending = s.pending ∧ (s.buildPoint raw).setup = s.setup ∧ (s.buildPoint raw).clock = s.clock ∧
    (s.buildPoint raw).freeCount = s.freeCount ∧ (s.buildPoint raw).detachDue = s.detachDue ∧
    (s.buildPoint raw).axes = s.axes ∧ (s.buildPoint raw).estop = s.estop ∧
    (s.buildPoint raw).lastFault = s.lastFault ∧ (s.buildPoint raw).arm = s.arm ∧ (s.buildPoint raw).run = s.run ∧
    (s.buildPoint raw).chg = s.chg ∧ (s.buildPoint raw).qual = s.qual ∧ (s.buildPoint raw).soak = s.soak ∧
    (s.buildPoint raw).join = s.join ∧ (s.buildPoint raw).table = s.table ∧ (s.buildPoint raw).agent = s.agent ∧
    (s.buildPoint raw).probes = s.probes ∧ (s.buildPoint raw).mounted = s.mounted ∧ (s.buildPoint raw).head = s.head ∧
    (s.buildPoint raw).trig = s.trig ∧ (s.buildPoint raw).part = s.part ∧ (s.buildPoint raw).thermal = s.thermal ∧
    (s.buildPoint raw).events = s.events ∧ (s.buildPoint raw).rack = s.rack := by
  unfold State.buildPoint
  (repeat' split) <;> simp

@[simp] theorem State.endMotion_frame (s : State) :
    (s.endMotion).pending = s.pending ∧ (s.endMotion).setup = s.setup ∧ (s.endMotion).clock = s.clock ∧
    (s.endMotion).freeCount = s.freeCount ∧ (s.endMotion).detachDue = s.detachDue ∧ (s.endMotion).axes = s.axes ∧
    (s.endMotion).estop = s.estop ∧ (s.endMotion).lastFault = s.lastFault ∧ (s.endMotion).run = s.run ∧
    (s.endMotion).chg = s.chg ∧ (s.endMotion).qual = s.qual ∧ (s.endMotion).soak = s.soak ∧
    (s.endMotion).line = s.line ∧ (s.endMotion).join = s.join ∧ (s.endMotion).table = s.table ∧
    (s.endMotion).agent = s.agent ∧ (s.endMotion).probes = s.probes ∧ (s.endMotion).mounted = s.mounted ∧
    (s.endMotion).head = s.head ∧ (s.endMotion).cap = s.cap ∧ (s.endMotion).part = s.part ∧
    (s.endMotion).thermal = s.thermal ∧ (s.endMotion).events = s.events ∧ (s.endMotion).rack = s.rack := by
  unfold State.endMotion
  simp

@[simp] theorem State.standStill_frame (s : State) :
    (s.standStill).pending = s.pending ∧ (s.standStill).setup = s.setup ∧ (s.standStill).clock = s.clock ∧
    (s.standStill).freeCount = s.freeCount ∧ (s.standStill).detachDue = s.detachDue ∧ (s.standStill).axes = s.axes ∧
    (s.standStill).estop = s.estop ∧ (s.standStill).lastFault = s.lastFault ∧ (s.standStill).run = s.run ∧
    (s.standStill).chg = s.chg ∧ (s.standStill).qual = s.qual ∧ (s.standStill).soak = s.soak ∧
    (s.standStill).line = s.line ∧ (s.standStill).join = s.join ∧ (s.standStill).table = s.table ∧
    (s.standStill).agent = s.agent ∧ (s.standStill).probes = s.probes ∧ (s.standStill).mounted = s.mounted ∧
    (s.standStill).head = s.head ∧ (s.standStill).cap = s.cap ∧ (s.standStill).part = s.part ∧
    (s.standStill).thermal = s.thermal ∧ (s.standStill).events = s.events ∧ (s.standStill).rack = s.rack := by
  unfold State.standStill
  simp

@[simp] theorem State.interrupt_frame (s : State) :
    (s.interrupt).pending = s.pending ∧ (s.interrupt).setup = s.setup ∧ (s.interrupt).clock = s.clock ∧
    (s.interrupt).freeCount = s.freeCount ∧ (s.interrupt).detachDue = s.detachDue ∧ (s.interrupt).axes = s.axes ∧
    (s.interrupt).estop = s.estop ∧ (s.interrupt).lastFault = s.lastFault ∧ (s.interrupt).run = s.run ∧
    (s.interrupt).chg = s.chg ∧ (s.interrupt).qual = s.qual ∧ (s.interrupt).soak = s.soak ∧
    (s.interrupt).line = s.line ∧ (s.interrupt).join = s.join ∧ (s.interrupt).table = s.table ∧
    (s.interrupt).agent = s.agent ∧ (s.interrupt).probes = s.probes ∧ (s.interrupt).mounted = s.mounted ∧
    (s.interrupt).head = s.head ∧ (s.interrupt).trig = s.trig ∧ (s.interrupt).cap = s.cap ∧
    (s.interrupt).part = s.part ∧ (s.interrupt).thermal = s.thermal ∧ (s.interrupt).events = s.events ∧
    (s.interrupt).rack = s.rack := by
  unfold State.interrupt
  simp

@[simp] theorem State.arriveIn_frame (standing : ZoneSet) (s : State) :
    (s.arriveIn standing).pending = s.pending ∧ (s.arriveIn standing).setup = s.setup ∧
    (s.arriveIn standing).clock = s.clock ∧ (s.arriveIn standing).freeCount = s.freeCount ∧
    (s.arriveIn standing).detachDue = s.detachDue ∧ (s.arriveIn standing).axes = s.axes ∧
    (s.arriveIn standing).estop = s.estop ∧ (s.arriveIn standing).lastFault = s.lastFault ∧
    (s.arriveIn standing).run = s.run ∧ (s.arriveIn standing).chg = s.chg ∧ (s.arriveIn standing).qual = s.qual ∧
    (s.arriveIn standing).soak = s.soak ∧ (s.arriveIn standing).line = s.line ∧ (s.arriveIn standing).join = s.join ∧
    (s.arriveIn standing).table = s.table ∧ (s.arriveIn standing).agent = s.agent ∧
    (s.arriveIn standing).probes = s.probes ∧ (s.arriveIn standing).mounted = s.mounted ∧
    (s.arriveIn standing).head = s.head ∧ (s.arriveIn standing).trig = s.trig ∧ (s.arriveIn standing).cap = s.cap ∧
    (s.arriveIn standing).part = s.part ∧ (s.arriveIn standing).thermal = s.thermal ∧
    (s.arriveIn standing).events = s.events ∧ (s.arriveIn standing).rack = s.rack := by
  unfold State.arriveIn
  simp

@[simp] theorem State.moveDone_frame (s : State) :
    (s.moveDone).pending = s.pending ∧ (s.moveDone).setup = s.setup ∧ (s.moveDone).clock = s.clock ∧
    (s.moveDone).freeCount = s.freeCount ∧ (s.moveDone).detachDue = s.detachDue ∧ (s.moveDone).axes = s.axes ∧
    (s.moveDone).estop = s.estop ∧ (s.moveDone).lastFault = s.lastFault ∧ (s.moveDone).run = s.run ∧
    (s.moveDone).chg = s.chg ∧ (s.moveDone).qual = s.qual ∧ (s.moveDone).soak = s.soak ∧ (s.moveDone).line = s.line ∧
    (s.moveDone).join = s.join ∧ (s.moveDone).table = s.table ∧ (s.moveDone).agent = s.agent ∧
    (s.moveDone).probes = s.probes ∧ (s.moveDone).mounted = s.mounted ∧ (s.moveDone).head = s.head ∧
    (s.moveDone).trig = s.trig ∧ (s.moveDone).cap = s.cap ∧ (s.moveDone).part = s.part ∧
    (s.moveDone).thermal = s.thermal ∧ (s.moveDone).events = s.events ∧ (s.moveDone).rack = s.rack := by
  exact State.arriveIn_frame s.arm.standing s

@[simp] theorem State.clearStarts_frame (s : State) :
    (s.clearStarts).pending = s.pending ∧ (s.clearStarts).setup = s.setup ∧ (s.clearStarts).clock = s.clock ∧
    (s.clearStarts).freeCount = s.freeCount ∧ (s.clearStarts).detachDue = s.detachDue ∧
    (s.clearStarts).axes = s.axes ∧ (s.clearStarts).estop = s.estop ∧ (s.clearStarts).lastFault = s.lastFault ∧
    (s.clearStarts).run = s.run ∧ (s.clearStarts).chg = s.chg ∧ (s.clearStarts).qual = s.qual ∧
    (s.clearStarts).soak = s.soak ∧ (s.clearStarts).line = s.line ∧ (s.clearStarts).join = s.join ∧
    (s.clearStarts).table = s.table ∧ (s.clearStarts).agent = s.agent ∧ (s.clearStarts).probes = s.probes ∧
    (s.clearStarts).mounted = s.mounted ∧ (s.clearStarts).head = s.head ∧ (s.clearStarts).trig = s.trig ∧
    (s.clearStarts).cap = s.cap ∧ (s.clearStarts).part = s.part ∧ (s.clearStarts).thermal = s.thermal ∧
    (s.clearStarts).events = s.events ∧ (s.clearStarts).rack = s.rack := by
  unfold State.clearStarts
  simp

@[simp] theorem State.deenergize_frame (s : State) :
    (s.deenergize).pending = s.pending ∧ (s.deenergize).setup = s.setup ∧ (s.deenergize).clock = s.clock ∧
    (s.deenergize).freeCount = s.freeCount ∧ (s.deenergize).detachDue = s.detachDue ∧ (s.deenergize).estop = s.estop ∧
    (s.deenergize).lastFault = s.lastFault ∧ (s.deenergize).run = s.run ∧ (s.deenergize).chg = s.chg ∧
    (s.deenergize).qual = s.qual ∧ (s.deenergize).soak = s.soak ∧ (s.deenergize).line = s.line ∧
    (s.deenergize).join = s.join ∧ (s.deenergize).table = s.table ∧ (s.deenergize).agent = s.agent ∧
    (s.deenergize).probes = s.probes ∧ (s.deenergize).mounted = s.mounted ∧ (s.deenergize).head = s.head ∧
    (s.deenergize).cap = s.cap ∧ (s.deenergize).part = s.part ∧ (s.deenergize).thermal = s.thermal ∧
    (s.deenergize).events = s.events ∧ (s.deenergize).rack = s.rack := by
  unfold State.deenergize
  simp

@[simp] theorem State.flush_frame (s : State) :
    (s.flush).pending = s.pending ∧ (s.flush).setup = s.setup ∧ (s.flush).clock = s.clock ∧
    (s.flush).freeCount = s.freeCount ∧ (s.flush).detachDue = s.detachDue ∧ (s.flush).axes = s.axes ∧
    (s.flush).estop = s.estop ∧ (s.flush).lastFault = s.lastFault ∧ (s.flush).arm = s.arm ∧ (s.flush).chg = s.chg ∧
    (s.flush).qual = s.qual ∧ (s.flush).soak = s.soak ∧ (s.flush).line = s.line ∧ (s.flush).join = s.join ∧
    (s.flush).table = s.table ∧ (s.flush).agent = s.agent ∧ (s.flush).probes = s.probes ∧
    (s.flush).mounted = s.mounted ∧ (s.flush).head = s.head ∧ (s.flush).trig = s.trig ∧ (s.flush).cap = s.cap ∧
    (s.flush).part = s.part ∧ (s.flush).thermal = s.thermal ∧ (s.flush).events = s.events ∧ (s.flush).rack = s.rack := by
  unfold State.flush
  simp

@[simp] theorem State.stopFast_frame (p : Stopping) (s : State) :
    (s.stopFast p).pending = s.pending ∧ (s.stopFast p).setup = s.setup ∧ (s.stopFast p).clock = s.clock ∧
    (s.stopFast p).freeCount = s.freeCount ∧ (s.stopFast p).detachDue = s.detachDue ∧ (s.stopFast p).axes = s.axes ∧
    (s.stopFast p).estop = s.estop ∧ (s.stopFast p).lastFault = s.lastFault ∧ (s.stopFast p).run = s.run ∧
    (s.stopFast p).chg = s.chg ∧ (s.stopFast p).qual = s.qual ∧ (s.stopFast p).soak = s.soak ∧
    (s.stopFast p).line = s.line ∧ (s.stopFast p).join = s.join ∧ (s.stopFast p).table = s.table ∧
    (s.stopFast p).agent = s.agent ∧ (s.stopFast p).probes = s.probes ∧ (s.stopFast p).mounted = s.mounted ∧
    (s.stopFast p).head = s.head ∧ (s.stopFast p).trig = s.trig ∧ (s.stopFast p).cap = s.cap ∧
    (s.stopFast p).part = s.part ∧ (s.stopFast p).thermal = s.thermal ∧ (s.stopFast p).events = s.events ∧
    (s.stopFast p).rack = s.rack := by
  unfold State.stopFast
  simp

@[simp] theorem State.endRun_frame (reason : RunEndReason) (reasonByte : Byte) (s : State) :
    (s.endRun reason reasonByte).pending = s.pending ∧ (s.endRun reason reasonByte).setup = s.setup ∧
    (s.endRun reason reasonByte).clock = s.clock ∧ (s.endRun reason reasonByte).freeCount = s.freeCount ∧
    (s.endRun reason reasonByte).axes = s.axes ∧ (s.endRun reason reasonByte).estop = s.estop ∧
    (s.endRun reason reasonByte).lastFault = s.lastFault ∧ (s.endRun reason reasonByte).chg = s.chg ∧
    (s.endRun reason reasonByte).qual = s.qual ∧ (s.endRun reason reasonByte).soak = s.soak ∧
    (s.endRun reason reasonByte).join = s.join ∧ (s.endRun reason reasonByte).table = s.table ∧
    (s.endRun reason reasonByte).probes = s.probes ∧ (s.endRun reason reasonByte).mounted = s.mounted ∧
    (s.endRun reason reasonByte).head = s.head ∧ (s.endRun reason reasonByte).trig = s.trig ∧
    (s.endRun reason reasonByte).part = s.part ∧ (s.endRun reason reasonByte).thermal = s.thermal ∧
    (s.endRun reason reasonByte).rack = s.rack := by
  unfold State.endRun
  (repeat' split) <;> simp

@[simp] theorem State.dropChange_frame (s : State) :
    (s.dropChange).pending = s.pending ∧ (s.dropChange).setup = s.setup ∧ (s.dropChange).clock = s.clock ∧
    (s.dropChange).freeCount = s.freeCount ∧ (s.dropChange).detachDue = s.detachDue ∧ (s.dropChange).axes = s.axes ∧
    (s.dropChange).estop = s.estop ∧ (s.dropChange).lastFault = s.lastFault ∧ (s.dropChange).arm = s.arm ∧
    (s.dropChange).run = s.run ∧ (s.dropChange).qual = s.qual ∧ (s.dropChange).soak = s.soak ∧
    (s.dropChange).line = s.line ∧ (s.dropChange).join = s.join ∧ (s.dropChange).table = s.table ∧
    (s.dropChange).agent = s.agent ∧ (s.dropChange).probes = s.probes ∧ (s.dropChange).mounted = s.mounted ∧
    (s.dropChange).head = s.head ∧ (s.dropChange).trig = s.trig ∧ (s.dropChange).cap = s.cap ∧
    (s.dropChange).part = s.part ∧ (s.dropChange).thermal = s.thermal ∧ (s.dropChange).events = s.events ∧
    (s.dropChange).rack = s.rack := by
  unfold State.dropChange
  simp

@[simp] theorem State.changeEnded_frame (outcome : ChangeOutcome) (s : State) :
    (s.changeEnded outcome).pending = s.pending ∧ (s.changeEnded outcome).setup = s.setup ∧
    (s.changeEnded outcome).clock = s.clock ∧ (s.changeEnded outcome).freeCount = s.freeCount ∧
    (s.changeEnded outcome).detachDue = s.detachDue ∧ (s.changeEnded outcome).axes = s.axes ∧
    (s.changeEnded outcome).estop = s.estop ∧ (s.changeEnded outcome).lastFault = s.lastFault ∧
    (s.changeEnded outcome).arm = s.arm ∧ (s.changeEnded outcome).run = s.run ∧ (s.changeEnded outcome).chg = s.chg ∧
    (s.changeEnded outcome).qual = s.qual ∧ (s.changeEnded outcome).soak = s.soak ∧
    (s.changeEnded outcome).line = s.line ∧ (s.changeEnded outcome).join = s.join ∧
    (s.changeEnded outcome).table = s.table ∧ (s.changeEnded outcome).agent = s.agent ∧
    (s.changeEnded outcome).probes = s.probes ∧ (s.changeEnded outcome).mounted = s.mounted ∧
    (s.changeEnded outcome).head = s.head ∧ (s.changeEnded outcome).trig = s.trig ∧
    (s.changeEnded outcome).cap = s.cap ∧ (s.changeEnded outcome).part = s.part ∧
    (s.changeEnded outcome).thermal = s.thermal ∧ (s.changeEnded outcome).rack = s.rack := by
  unfold State.changeEnded
  simp

@[simp] theorem State.judgeHead_frame (outcome : ChangeOutcome) (s : State) :
    (s.judgeHead outcome).pending = s.pending ∧ (s.judgeHead outcome).setup = s.setup ∧
    (s.judgeHead outcome).clock = s.clock ∧ (s.judgeHead outcome).freeCount = s.freeCount ∧
    (s.judgeHead outcome).detachDue = s.detachDue ∧ (s.judgeHead outcome).axes = s.axes ∧
    (s.judgeHead outcome).estop = s.estop ∧ (s.judgeHead outcome).lastFault = s.lastFault ∧
    (s.judgeHead outcome).arm = s.arm ∧ (s.judgeHead outcome).run = s.run ∧ (s.judgeHead outcome).qual = s.qual ∧
    (s.judgeHead outcome).soak = s.soak ∧ (s.judgeHead outcome).line = s.line ∧ (s.judgeHead outcome).join = s.join ∧
    (s.judgeHead outcome).table = s.table ∧ (s.judgeHead outcome).agent = s.agent ∧
    (s.judgeHead outcome).probes = s.probes ∧ (s.judgeHead outcome).trig = s.trig ∧
    (s.judgeHead outcome).cap = s.cap ∧ (s.judgeHead outcome).part = s.part ∧
    (s.judgeHead outcome).thermal = s.thermal ∧ (s.judgeHead outcome).rack = s.rack := by
  unfold State.judgeHead
  (repeat' split) <;> simp

theorem State.judgeHeads_frame (ws : List (Nat × ChangeOutcome)) (s : State) :
    (ws.foldl (fun (s : State) (w : Nat × ChangeOutcome) => s.judgeHead w.2) s).pending = s.pending ∧
    (ws.foldl (fun (s : State) (w : Nat × ChangeOutcome) => s.judgeHead w.2) s).setup = s.setup ∧
    (ws.foldl (fun (s : State) (w : Nat × ChangeOutcome) => s.judgeHead w.2) s).clock = s.clock ∧
    (ws.foldl (fun (s : State) (w : Nat × ChangeOutcome) => s.judgeHead w.2) s).freeCount = s.freeCount ∧
    (ws.foldl (fun (s : State) (w : Nat × ChangeOutcome) => s.judgeHead w.2) s).detachDue = s.detachDue ∧
    (ws.foldl (fun (s : State) (w : Nat × ChangeOutcome) => s.judgeHead w.2) s).axes = s.axes ∧
    (ws.foldl (fun (s : State) (w : Nat × ChangeOutcome) => s.judgeHead w.2) s).estop = s.estop ∧
    (ws.foldl (fun (s : State) (w : Nat × ChangeOutcome) => s.judgeHead w.2) s).lastFault = s.lastFault ∧
    (ws.foldl (fun (s : State) (w : Nat × ChangeOutcome) => s.judgeHead w.2) s).arm = s.arm ∧
    (ws.foldl (fun (s : State) (w : Nat × ChangeOutcome) => s.judgeHead w.2) s).run = s.run ∧
    (ws.foldl (fun (s : State) (w : Nat × ChangeOutcome) => s.judgeHead w.2) s).qual = s.qual ∧
    (ws.foldl (fun (s : State) (w : Nat × ChangeOutcome) => s.judgeHead w.2) s).soak = s.soak ∧
    (ws.foldl (fun (s : State) (w : Nat × ChangeOutcome) => s.judgeHead w.2) s).line = s.line ∧
    (ws.foldl (fun (s : State) (w : Nat × ChangeOutcome) => s.judgeHead w.2) s).join = s.join ∧
    (ws.foldl (fun (s : State) (w : Nat × ChangeOutcome) => s.judgeHead w.2) s).table = s.table ∧
    (ws.foldl (fun (s : State) (w : Nat × ChangeOutcome) => s.judgeHead w.2) s).agent = s.agent ∧
    (ws.foldl (fun (s : State) (w : Nat × ChangeOutcome) => s.judgeHead w.2) s).probes = s.probes ∧
    (ws.foldl (fun (s : State) (w : Nat × ChangeOutcome) => s.judgeHead w.2) s).trig = s.trig ∧
    (ws.foldl (fun (s : State) (w : Nat × ChangeOutcome) => s.judgeHead w.2) s).cap = s.cap ∧
    (ws.foldl (fun (s : State) (w : Nat × ChangeOutcome) => s.judgeHead w.2) s).part = s.part ∧
    (ws.foldl (fun (s : State) (w : Nat × ChangeOutcome) => s.judgeHead w.2) s).thermal = s.thermal ∧
    (ws.foldl (fun (s : State) (w : Nat × ChangeOutcome) => s.judgeHead w.2) s).rack = s.rack := by
  induction ws generalizing s with
  | nil => simp
  | cons w ws ih => simpa using ih (s.judgeHead w.2)

@[simp] theorem State.closeWindows_frame (s : State) :
    (s.closeWindows).pending = s.pending ∧ (s.closeWindows).setup = s.setup ∧ (s.closeWindows).clock = s.clock ∧
    (s.closeWindows).freeCount = s.freeCount ∧ (s.closeWindows).detachDue = s.detachDue ∧
    (s.closeWindows).axes = s.axes ∧ (s.closeWindows).estop = s.estop ∧ (s.closeWindows).lastFault = s.lastFault ∧
    (s.closeWindows).arm = s.arm ∧ (s.closeWindows).run = s.run ∧ (s.closeWindows).qual = s.qual ∧
    (s.closeWindows).soak = s.soak ∧ (s.closeWindows).line = s.line ∧ (s.closeWindows).join = s.join ∧
    (s.closeWindows).table = s.table ∧ (s.closeWindows).agent = s.agent ∧ (s.closeWindows).probes = s.probes ∧
    (s.closeWindows).trig = s.trig ∧ (s.closeWindows).cap = s.cap ∧ (s.closeWindows).part = s.part ∧
    (s.closeWindows).thermal = s.thermal ∧ (s.closeWindows).rack = s.rack := by
  unfold State.closeWindows
  dsimp only
  exact State.judgeHeads_frame _ _

@[simp] theorem State.askPulse_frame (kind : PulseKind) (r : ChangeRecord) (s : State) :
    (s.askPulse kind r).pending = s.pending ∧ (s.askPulse kind r).setup = s.setup ∧
    (s.askPulse kind r).clock = s.clock ∧ (s.askPulse kind r).freeCount = s.freeCount ∧
    (s.askPulse kind r).detachDue = s.detachDue ∧ (s.askPulse kind r).axes = s.axes ∧
    (s.askPulse kind r).estop = s.estop ∧ (s.askPulse kind r).lastFault = s.lastFault ∧
    (s.askPulse kind r).arm = s.arm ∧ (s.askPulse kind r).run = s.run ∧ (s.askPulse kind r).qual = s.qual ∧
    (s.askPulse kind r).soak = s.soak ∧ (s.askPulse kind r).line = s.line ∧ (s.askPulse kind r).join = s.join ∧
    (s.askPulse kind r).table = s.table ∧ (s.askPulse kind r).agent = s.agent ∧
    (s.askPulse kind r).probes = s.probes ∧ (s.askPulse kind r).trig = s.trig ∧ (s.askPulse kind r).cap = s.cap ∧
    (s.askPulse kind r).part = s.part ∧ (s.askPulse kind r).thermal = s.thermal ∧ (s.askPulse kind r).rack = s.rack := by
  unfold State.askPulse
  simp

@[simp] theorem State.discardWaiting_frame (s : State) :
    (s.discardWaiting).pending = s.pending ∧ (s.discardWaiting).setup = s.setup ∧ (s.discardWaiting).clock = s.clock ∧
    (s.discardWaiting).freeCount = s.freeCount ∧ (s.discardWaiting).detachDue = s.detachDue ∧
    (s.discardWaiting).axes = s.axes ∧ (s.discardWaiting).estop = s.estop ∧
    (s.discardWaiting).lastFault = s.lastFault ∧ (s.discardWaiting).arm = s.arm ∧ (s.discardWaiting).run = s.run ∧
    (s.discardWaiting).qual = s.qual ∧ (s.discardWaiting).soak = s.soak ∧ (s.discardWaiting).line = s.line ∧
    (s.discardWaiting).join = s.join ∧ (s.discardWaiting).table = s.table ∧ (s.discardWaiting).agent = s.agent ∧
    (s.discardWaiting).probes = s.probes ∧ (s.discardWaiting).trig = s.trig ∧ (s.discardWaiting).cap = s.cap ∧
    (s.discardWaiting).part = s.part ∧ (s.discardWaiting).thermal = s.thermal ∧ (s.discardWaiting).rack = s.rack := by
  unfold State.discardWaiting
  simp

@[simp] theorem State.endChange_frame (outcome : ChangeOutcome) (r : ChangeRecord) (s : State) :
    (s.endChange outcome r).pending = s.pending ∧ (s.endChange outcome r).setup = s.setup ∧
    (s.endChange outcome r).clock = s.clock ∧ (s.endChange outcome r).freeCount = s.freeCount ∧
    (s.endChange outcome r).detachDue = s.detachDue ∧ (s.endChange outcome r).axes = s.axes ∧
    (s.endChange outcome r).estop = s.estop ∧ (s.endChange outcome r).lastFault = s.lastFault ∧
    (s.endChange outcome r).arm = s.arm ∧ (s.endChange outcome r).run = s.run ∧
    (s.endChange outcome r).qual = s.qual ∧ (s.endChange outcome r).soak = s.soak ∧
    (s.endChange outcome r).line = s.line ∧ (s.endChange outcome r).join = s.join ∧
    (s.endChange outcome r).table = s.table ∧ (s.endChange outcome r).agent = s.agent ∧
    (s.endChange outcome r).probes = s.probes ∧ (s.endChange outcome r).trig = s.trig ∧
    (s.endChange outcome r).cap = s.cap ∧ (s.endChange outcome r).part = s.part ∧
    (s.endChange outcome r).thermal = s.thermal ∧ (s.endChange outcome r).rack = s.rack := by
  unfold State.endChange
  (repeat' split) <;> simp

@[simp] theorem State.changeDone_frame (s : State) :
    (s.changeDone).pending = s.pending ∧ (s.changeDone).setup = s.setup ∧ (s.changeDone).clock = s.clock ∧
    (s.changeDone).freeCount = s.freeCount ∧ (s.changeDone).detachDue = s.detachDue ∧ (s.changeDone).axes = s.axes ∧
    (s.changeDone).estop = s.estop ∧ (s.changeDone).lastFault = s.lastFault ∧ (s.changeDone).arm = s.arm ∧
    (s.changeDone).run = s.run ∧ (s.changeDone).qual = s.qual ∧ (s.changeDone).soak = s.soak ∧
    (s.changeDone).line = s.line ∧ (s.changeDone).join = s.join ∧ (s.changeDone).table = s.table ∧
    (s.changeDone).agent = s.agent ∧ (s.changeDone).mounted = s.mounted ∧ (s.changeDone).head = s.head ∧
    (s.changeDone).trig = s.trig ∧ (s.changeDone).cap = s.cap ∧ (s.changeDone).part = s.part ∧
    (s.changeDone).thermal = s.thermal ∧ (s.changeDone).rack = s.rack := by
  unfold State.changeDone
  dsimp only
  (repeat' split) <;> simp

@[simp] theorem State.abortChange_frame (s : State) :
    (s.abortChange).pending = s.pending ∧ (s.abortChange).setup = s.setup ∧ (s.abortChange).clock = s.clock ∧
    (s.abortChange).freeCount = s.freeCount ∧ (s.abortChange).axes = s.axes ∧ (s.abortChange).estop = s.estop ∧
    (s.abortChange).lastFault = s.lastFault ∧ (s.abortChange).run = s.run ∧ (s.abortChange).qual = s.qual ∧
    (s.abortChange).soak = s.soak ∧ (s.abortChange).join = s.join ∧ (s.abortChange).table = s.table ∧
    (s.abortChange).agent = s.agent ∧ (s.abortChange).trig = s.trig ∧ (s.abortChange).cap = s.cap ∧
    (s.abortChange).part = s.part ∧ (s.abortChange).thermal = s.thermal ∧ (s.abortChange).rack = s.rack := by
  unfold State.abortChange
  dsimp only
  (repeat' split) <;> simp

@[simp] theorem State.failChange_frame (s : State) :
    (s.failChange).pending = s.pending ∧ (s.failChange).setup = s.setup ∧ (s.failChange).clock = s.clock ∧
    (s.failChange).freeCount = s.freeCount ∧ (s.failChange).axes = s.axes ∧ (s.failChange).estop = s.estop ∧
    (s.failChange).lastFault = s.lastFault ∧ (s.failChange).arm = s.arm ∧ (s.failChange).run = s.run ∧
    (s.failChange).qual = s.qual ∧ (s.failChange).soak = s.soak ∧ (s.failChange).join = s.join ∧
    (s.failChange).table = s.table ∧ (s.failChange).agent = s.agent ∧ (s.failChange).trig = s.trig ∧
    (s.failChange).cap = s.cap ∧ (s.failChange).part = s.part ∧ (s.failChange).thermal = s.thermal ∧
    (s.failChange).rack = s.rack := by
  unfold State.failChange
  (repeat' split) <;> simp

@[simp] theorem State.endQualification_frame (outcome : QualOutcome) (s : State) :
    (s.endQualification outcome).pending = s.pending ∧ (s.endQualification outcome).setup = s.setup ∧
    (s.endQualification outcome).clock = s.clock ∧ (s.endQualification outcome).freeCount = s.freeCount ∧
    (s.endQualification outcome).detachDue = s.detachDue ∧ (s.endQualification outcome).axes = s.axes ∧
    (s.endQualification outcome).estop = s.estop ∧ (s.endQualification outcome).lastFault = s.lastFault ∧
    (s.endQualification outcome).arm = s.arm ∧ (s.endQualification outcome).run = s.run ∧
    (s.endQualification outcome).chg = s.chg ∧ (s.endQualification outcome).soak = s.soak ∧
    (s.endQualification outcome).line = s.line ∧ (s.endQualification outcome).join = s.join ∧
    (s.endQualification outcome).table = s.table ∧ (s.endQualification outcome).agent = s.agent ∧
    (s.endQualification outcome).probes = s.probes ∧ (s.endQualification outcome).mounted = s.mounted ∧
    (s.endQualification outcome).head = s.head ∧ (s.endQualification outcome).trig = s.trig ∧
    (s.endQualification outcome).cap = s.cap ∧ (s.endQualification outcome).part = s.part ∧
    (s.endQualification outcome).thermal = s.thermal ∧ (s.endQualification outcome).rack = s.rack := by
  unfold State.endQualification
  (repeat' split) <;> simp

@[simp] theorem State.discardExcursions_frame (outcome : QualOutcome) (s : State) :
    (s.discardExcursions outcome).pending = s.pending ∧ (s.discardExcursions outcome).setup = s.setup ∧
    (s.discardExcursions outcome).clock = s.clock ∧ (s.discardExcursions outcome).freeCount = s.freeCount ∧
    (s.discardExcursions outcome).detachDue = s.detachDue ∧ (s.discardExcursions outcome).axes = s.axes ∧
    (s.discardExcursions outcome).estop = s.estop ∧ (s.discardExcursions outcome).lastFault = s.lastFault ∧
    (s.discardExcursions outcome).arm = s.arm ∧ (s.discardExcursions outcome).line = s.line ∧
    (s.discardExcursions outcome).join = s.join ∧ (s.discardExcursions outcome).table = s.table ∧
    (s.discardExcursions outcome).agent = s.agent ∧ (s.discardExcursions outcome).probes = s.probes ∧
    (s.discardExcursions outcome).mounted = s.mounted ∧ (s.discardExcursions outcome).head = s.head ∧
    (s.discardExcursions outcome).trig = s.trig ∧ (s.discardExcursions outcome).cap = s.cap ∧
    (s.discardExcursions outcome).part = s.part ∧ (s.discardExcursions outcome).thermal = s.thermal ∧
    (s.discardExcursions outcome).rack = s.rack := by
  unfold State.discardExcursions
  simp

@[simp] theorem State.releaseAfterExcursion_frame (had : Bool) (s : State) :
    (s.releaseAfterExcursion had).pending = s.pending ∧ (s.releaseAfterExcursion had).setup = s.setup ∧
    (s.releaseAfterExcursion had).clock = s.clock ∧ (s.releaseAfterExcursion had).freeCount = s.freeCount ∧
    (s.releaseAfterExcursion had).axes = s.axes ∧ (s.releaseAfterExcursion had).estop = s.estop ∧
    (s.releaseAfterExcursion had).lastFault = s.lastFault ∧ (s.releaseAfterExcursion had).arm = s.arm ∧
    (s.releaseAfterExcursion had).run = s.run ∧ (s.releaseAfterExcursion had).chg = s.chg ∧
    (s.releaseAfterExcursion had).qual = s.qual ∧ (s.releaseAfterExcursion had).soak = s.soak ∧
    (s.releaseAfterExcursion had).join = s.join ∧ (s.releaseAfterExcursion had).table = s.table ∧
    (s.releaseAfterExcursion had).agent = s.agent ∧ (s.releaseAfterExcursion had).probes = s.probes ∧
    (s.releaseAfterExcursion had).mounted = s.mounted ∧ (s.releaseAfterExcursion had).head = s.head ∧
    (s.releaseAfterExcursion had).trig = s.trig ∧ (s.releaseAfterExcursion had).cap = s.cap ∧
    (s.releaseAfterExcursion had).part = s.part ∧ (s.releaseAfterExcursion had).thermal = s.thermal ∧
    (s.releaseAfterExcursion had).events = s.events ∧ (s.releaseAfterExcursion had).rack = s.rack := by
  unfold State.releaseAfterExcursion
  (repeat' split) <;> simp

@[simp] theorem State.failAll_frame (s : State) :
    (s.failAll).pending = s.pending ∧ (s.failAll).setup = s.setup ∧ (s.failAll).clock = s.clock ∧
    (s.failAll).freeCount = s.freeCount ∧ (s.failAll).axes = s.axes ∧ (s.failAll).estop = s.estop ∧
    (s.failAll).lastFault = s.lastFault ∧ (s.failAll).join = s.join ∧ (s.failAll).table = s.table ∧
    (s.failAll).trig = s.trig ∧ (s.failAll).cap = s.cap ∧ (s.failAll).part = s.part ∧
    (s.failAll).thermal = s.thermal ∧ (s.failAll).rack = s.rack := by
  unfold State.failAll
  simp

@[simp] theorem State.faultOff_frame (r : FaultReport) (s : State) :
    (s.faultOff r).pending = s.pending ∧ (s.faultOff r).setup = s.setup ∧ (s.faultOff r).clock = s.clock ∧
    (s.faultOff r).freeCount = s.freeCount ∧ (s.faultOff r).estop = s.estop ∧ (s.faultOff r).join = s.join ∧
    (s.faultOff r).table = s.table ∧ (s.faultOff r).part = s.part ∧ (s.faultOff r).thermal = s.thermal ∧
    (s.faultOff r).rack = s.rack := by
  unfold State.faultOff
  simp

@[simp] theorem State.faultStill_frame (r : FaultReport) (s : State) :
    (s.faultStill r).pending = s.pending ∧ (s.faultStill r).setup = s.setup ∧ (s.faultStill r).clock = s.clock ∧
    (s.faultStill r).freeCount = s.freeCount ∧ (s.faultStill r).axes = s.axes ∧ (s.faultStill r).estop = s.estop ∧
    (s.faultStill r).join = s.join ∧ (s.faultStill r).table = s.table ∧ (s.faultStill r).part = s.part ∧
    (s.faultStill r).thermal = s.thermal ∧ (s.faultStill r).rack = s.rack := by
  unfold State.faultStill
  simp

@[simp] theorem State.faultFast_frame (r : FaultReport) (position : Vec3 Lu) (s : State) :
    (s.faultFast r position).pending = s.pending ∧ (s.faultFast r position).setup = s.setup ∧
    (s.faultFast r position).clock = s.clock ∧ (s.faultFast r position).freeCount = s.freeCount ∧
    (s.faultFast r position).axes = s.axes ∧ (s.faultFast r position).estop = s.estop ∧
    (s.faultFast r position).join = s.join ∧ (s.faultFast r position).table = s.table ∧
    (s.faultFast r position).part = s.part ∧ (s.faultFast r position).thermal = s.thermal ∧
    (s.faultFast r position).rack = s.rack := by
  unfold State.faultFast
  dsimp only
  (repeat' split) <;> simp

@[simp] theorem State.flushUnrun_frame (s : State) :
    (s.flushUnrun).pending = s.pending ∧ (s.flushUnrun).setup = s.setup ∧ (s.flushUnrun).clock = s.clock ∧
    (s.flushUnrun).freeCount = s.freeCount ∧ (s.flushUnrun).detachDue = s.detachDue ∧ (s.flushUnrun).axes = s.axes ∧
    (s.flushUnrun).estop = s.estop ∧ (s.flushUnrun).lastFault = s.lastFault ∧ (s.flushUnrun).arm = s.arm ∧
    (s.flushUnrun).chg = s.chg ∧ (s.flushUnrun).qual = s.qual ∧ (s.flushUnrun).soak = s.soak ∧
    (s.flushUnrun).line = s.line ∧ (s.flushUnrun).join = s.join ∧ (s.flushUnrun).table = s.table ∧
    (s.flushUnrun).agent = s.agent ∧ (s.flushUnrun).probes = s.probes ∧ (s.flushUnrun).mounted = s.mounted ∧
    (s.flushUnrun).head = s.head ∧ (s.flushUnrun).trig = s.trig ∧ (s.flushUnrun).cap = s.cap ∧
    (s.flushUnrun).part = s.part ∧ (s.flushUnrun).thermal = s.thermal ∧ (s.flushUnrun).events = s.events ∧
    (s.flushUnrun).rack = s.rack := by
  unfold State.flushUnrun
  simp

@[simp] theorem State.abortAll_frame (s : State) :
    (s.abortAll).pending = s.pending ∧ (s.abortAll).setup = s.setup ∧ (s.abortAll).clock = s.clock ∧
    (s.abortAll).freeCount = s.freeCount ∧ (s.abortAll).axes = s.axes ∧ (s.abortAll).estop = s.estop ∧
    (s.abortAll).lastFault = s.lastFault ∧ (s.abortAll).join = s.join ∧ (s.abortAll).table = s.table ∧
    (s.abortAll).trig = s.trig ∧ (s.abortAll).cap = s.cap ∧ (s.abortAll).part = s.part ∧
    (s.abortAll).thermal = s.thermal ∧ (s.abortAll).rack = s.rack := by
  unfold State.abortAll
  simp

@[simp] theorem State.bringToRest_frame (after : AfterStop) (s : State) :
    (s.bringToRest after).pending = s.pending ∧ (s.bringToRest after).setup = s.setup ∧
    (s.bringToRest after).clock = s.clock ∧ (s.bringToRest after).freeCount = s.freeCount ∧
    (s.bringToRest after).detachDue = s.detachDue ∧ (s.bringToRest after).axes = s.axes ∧
    (s.bringToRest after).estop = s.estop ∧ (s.bringToRest after).lastFault = s.lastFault ∧
    (s.bringToRest after).run = s.run ∧ (s.bringToRest after).chg = s.chg ∧ (s.bringToRest after).qual = s.qual ∧
    (s.bringToRest after).soak = s.soak ∧ (s.bringToRest after).line = s.line ∧ (s.bringToRest after).join = s.join ∧
    (s.bringToRest after).table = s.table ∧ (s.bringToRest after).agent = s.agent ∧
    (s.bringToRest after).probes = s.probes ∧ (s.bringToRest after).mounted = s.mounted ∧
    (s.bringToRest after).head = s.head ∧ (s.bringToRest after).cap = s.cap ∧ (s.bringToRest after).part = s.part ∧
    (s.bringToRest after).thermal = s.thermal ∧ (s.bringToRest after).events = s.events ∧
    (s.bringToRest after).rack = s.rack := by
  unfold State.bringToRest
  split
  · and_intros <;> rfl
  · simp

@[simp] theorem State.stopAll_frame (reason : RunEndReason) (reasonByte : Byte) (s : State) :
    (s.stopAll reason reasonByte).pending = s.pending ∧ (s.stopAll reason reasonByte).setup = s.setup ∧
    (s.stopAll reason reasonByte).clock = s.clock ∧ (s.stopAll reason reasonByte).freeCount = s.freeCount ∧
    (s.stopAll reason reasonByte).axes = s.axes ∧ (s.stopAll reason reasonByte).estop = s.estop ∧
    (s.stopAll reason reasonByte).lastFault = s.lastFault ∧ (s.stopAll reason reasonByte).join = s.join ∧
    (s.stopAll reason reasonByte).table = s.table ∧ (s.stopAll reason reasonByte).part = s.part ∧
    (s.stopAll reason reasonByte).thermal = s.thermal ∧ (s.stopAll reason reasonByte).rack = s.rack := by
  unfold State.stopAll
  dsimp only
  (repeat' split) <;> simp

@[simp] theorem State.stopTaken_frame (reason : RunEndReason) (reasonByte : Byte) (s : State) :
    (s.stopTaken reason reasonByte).pending = s.pending ∧ (s.stopTaken reason reasonByte).setup = s.setup ∧
    (s.stopTaken reason reasonByte).clock = s.clock ∧ (s.stopTaken reason reasonByte).freeCount = s.freeCount ∧
    (s.stopTaken reason reasonByte).axes = s.axes ∧ (s.stopTaken reason reasonByte).estop = s.estop ∧
    (s.stopTaken reason reasonByte).lastFault = s.lastFault ∧ (s.stopTaken reason reasonByte).join = s.join ∧
    (s.stopTaken reason reasonByte).table = s.table ∧ (s.stopTaken reason reasonByte).part = s.part ∧
    (s.stopTaken reason reasonByte).thermal = s.thermal ∧ (s.stopTaken reason reasonByte).rack = s.rack := by
  unfold State.stopTaken
  split <;> simp

@[simp] theorem State.cutDrives_frame (reason : RunEndReason) (s : State) :
    (s.cutDrives reason).pending = s.pending ∧ (s.cutDrives reason).setup = s.setup ∧
    (s.cutDrives reason).clock = s.clock ∧ (s.cutDrives reason).freeCount = s.freeCount ∧
    (s.cutDrives reason).estop = s.estop ∧ (s.cutDrives reason).lastFault = s.lastFault ∧
    (s.cutDrives reason).join = s.join ∧ (s.cutDrives reason).table = s.table ∧ (s.cutDrives reason).part = s.part ∧
    (s.cutDrives reason).thermal = s.thermal ∧ (s.cutDrives reason).rack = s.rack := by
  unfold State.cutDrives
  simp

@[simp] theorem State.setTodo_frame (t : Start) (s : State) :
    (s.setTodo t).pending = s.pending ∧ (s.setTodo t).setup = s.setup ∧ (s.setTodo t).clock = s.clock ∧
    (s.setTodo t).freeCount = s.freeCount ∧ (s.setTodo t).detachDue = s.detachDue ∧ (s.setTodo t).axes = s.axes ∧
    (s.setTodo t).estop = s.estop ∧ (s.setTodo t).lastFault = s.lastFault ∧ (s.setTodo t).run = s.run ∧
    (s.setTodo t).chg = s.chg ∧ (s.setTodo t).qual = s.qual ∧ (s.setTodo t).soak = s.soak ∧
    (s.setTodo t).line = s.line ∧ (s.setTodo t).join = s.join ∧ (s.setTodo t).table = s.table ∧
    (s.setTodo t).agent = s.agent ∧ (s.setTodo t).probes = s.probes ∧ (s.setTodo t).mounted = s.mounted ∧
    (s.setTodo t).head = s.head ∧ (s.setTodo t).trig = s.trig ∧ (s.setTodo t).cap = s.cap ∧
    (s.setTodo t).part = s.part ∧ (s.setTodo t).thermal = s.thermal ∧ (s.setTodo t).events = s.events ∧
    (s.setTodo t).rack = s.rack := by
  unfold State.setTodo
  simp

@[simp] theorem State.formMotion_frame (m : Motion) (s : State) :
    (s.formMotion m).pending = s.pending ∧ (s.formMotion m).setup = s.setup ∧ (s.formMotion m).clock = s.clock ∧
    (s.formMotion m).freeCount = s.freeCount ∧ (s.formMotion m).detachDue = s.detachDue ∧
    (s.formMotion m).axes = s.axes ∧ (s.formMotion m).estop = s.estop ∧ (s.formMotion m).lastFault = s.lastFault ∧
    (s.formMotion m).run = s.run ∧ (s.formMotion m).chg = s.chg ∧ (s.formMotion m).qual = s.qual ∧
    (s.formMotion m).soak = s.soak ∧ (s.formMotion m).line = s.line ∧ (s.formMotion m).join = s.join ∧
    (s.formMotion m).table = s.table ∧ (s.formMotion m).agent = s.agent ∧ (s.formMotion m).probes = s.probes ∧
    (s.formMotion m).mounted = s.mounted ∧ (s.formMotion m).head = s.head ∧ (s.formMotion m).cap = s.cap ∧
    (s.formMotion m).part = s.part ∧ (s.formMotion m).thermal = s.thermal ∧ (s.formMotion m).events = s.events ∧
    (s.formMotion m).rack = s.rack := by
  unfold State.formMotion
  simp

@[simp] theorem State.standInPlace_frame (s : State) :
    (s.standInPlace).pending = s.pending ∧ (s.standInPlace).setup = s.setup ∧ (s.standInPlace).clock = s.clock ∧
    (s.standInPlace).freeCount = s.freeCount ∧ (s.standInPlace).detachDue = s.detachDue ∧
    (s.standInPlace).axes = s.axes ∧ (s.standInPlace).estop = s.estop ∧ (s.standInPlace).lastFault = s.lastFault ∧
    (s.standInPlace).run = s.run ∧ (s.standInPlace).chg = s.chg ∧ (s.standInPlace).qual = s.qual ∧
    (s.standInPlace).soak = s.soak ∧ (s.standInPlace).line = s.line ∧ (s.standInPlace).join = s.join ∧
    (s.standInPlace).table = s.table ∧ (s.standInPlace).agent = s.agent ∧ (s.standInPlace).probes = s.probes ∧
    (s.standInPlace).mounted = s.mounted ∧ (s.standInPlace).head = s.head ∧ (s.standInPlace).cap = s.cap ∧
    (s.standInPlace).part = s.part ∧ (s.standInPlace).thermal = s.thermal ∧ (s.standInPlace).events = s.events ∧
    (s.standInPlace).rack = s.rack := by
  unfold State.standInPlace
  simp

@[simp] theorem State.reachTarget_frame (s : State) :
    (s.reachTarget).pending = s.pending ∧ (s.reachTarget).setup = s.setup ∧ (s.reachTarget).clock = s.clock ∧
    (s.reachTarget).freeCount = s.freeCount ∧ (s.reachTarget).detachDue = s.detachDue ∧
    (s.reachTarget).estop = s.estop ∧ (s.reachTarget).lastFault = s.lastFault ∧ (s.reachTarget).arm = s.arm ∧
    (s.reachTarget).run = s.run ∧ (s.reachTarget).chg = s.chg ∧ (s.reachTarget).qual = s.qual ∧
    (s.reachTarget).soak = s.soak ∧ (s.reachTarget).line = s.line ∧ (s.reachTarget).join = s.join ∧
    (s.reachTarget).table = s.table ∧ (s.reachTarget).agent = s.agent ∧ (s.reachTarget).probes = s.probes ∧
    (s.reachTarget).mounted = s.mounted ∧ (s.reachTarget).head = s.head ∧ (s.reachTarget).trig = s.trig ∧
    (s.reachTarget).cap = s.cap ∧ (s.reachTarget).part = s.part ∧ (s.reachTarget).thermal = s.thermal ∧
    (s.reachTarget).events = s.events ∧ (s.reachTarget).rack = s.rack := by
  unfold State.reachTarget
  (repeat' split) <;> simp

@[simp] theorem State.lookAhead_frame (s : State) :
    (s.lookAhead).pending = s.pending ∧ (s.lookAhead).setup = s.setup ∧ (s.lookAhead).clock = s.clock ∧
    (s.lookAhead).freeCount = s.freeCount ∧ (s.lookAhead).axes = s.axes ∧ (s.lookAhead).estop = s.estop ∧
    (s.lookAhead).lastFault = s.lastFault ∧ (s.lookAhead).arm = s.arm ∧ (s.lookAhead).run = s.run ∧
    (s.lookAhead).chg = s.chg ∧ (s.lookAhead).qual = s.qual ∧ (s.lookAhead).soak = s.soak ∧
    (s.lookAhead).join = s.join ∧ (s.lookAhead).table = s.table ∧ (s.lookAhead).probes = s.probes ∧
    (s.lookAhead).mounted = s.mounted ∧ (s.lookAhead).head = s.head ∧ (s.lookAhead).trig = s.trig ∧
    (s.lookAhead).cap = s.cap ∧ (s.lookAhead).part = s.part ∧ (s.lookAhead).thermal = s.thermal ∧
    (s.lookAhead).events = s.events ∧ (s.lookAhead).rack = s.rack := by
  unfold State.lookAhead
  (repeat' split) <;> simp

@[simp] theorem State.push_frame (kind : ExcursionKind) (need : Option ZoneSet) (serves : Bool) (s : State) :
    (s.push kind need serves).pending = s.pending ∧ (s.push kind need serves).setup = s.setup ∧
    (s.push kind need serves).clock = s.clock ∧ (s.push kind need serves).freeCount = s.freeCount ∧
    (s.push kind need serves).detachDue = s.detachDue ∧ (s.push kind need serves).axes = s.axes ∧
    (s.push kind need serves).estop = s.estop ∧ (s.push kind need serves).lastFault = s.lastFault ∧
    (s.push kind need serves).arm = s.arm ∧ (s.push kind need serves).chg = s.chg ∧
    (s.push kind need serves).qual = s.qual ∧ (s.push kind need serves).soak = s.soak ∧
    (s.push kind need serves).line = s.line ∧ (s.push kind need serves).join = s.join ∧
    (s.push kind need serves).table = s.table ∧ (s.push kind need serves).agent = s.agent ∧
    (s.push kind need serves).probes = s.probes ∧ (s.push kind need serves).mounted = s.mounted ∧
    (s.push kind need serves).head = s.head ∧ (s.push kind need serves).trig = s.trig ∧
    (s.push kind need serves).cap = s.cap ∧ (s.push kind need serves).part = s.part ∧
    (s.push kind need serves).thermal = s.thermal ∧ (s.push kind need serves).events = s.events ∧
    (s.push kind need serves).rack = s.rack := by
  unfold State.push
  split <;> simp

@[simp] theorem State.completeSegment_frame (outcome : SegOutcome) (endSet : ZoneSet) (hold : Bool) (s : State) :
    (s.completeSegment outcome endSet hold).pending = s.pending ∧
    (s.completeSegment outcome endSet hold).setup = s.setup ∧
    (s.completeSegment outcome endSet hold).clock = s.clock ∧
    (s.completeSegment outcome endSet hold).freeCount = s.freeCount ∧
    (s.completeSegment outcome endSet hold).axes = s.axes ∧ (s.completeSegment outcome endSet hold).estop = s.estop ∧
    (s.completeSegment outcome endSet hold).lastFault = s.lastFault ∧
    (s.completeSegment outcome endSet hold).chg = s.chg ∧ (s.completeSegment outcome endSet hold).qual = s.qual ∧
    (s.completeSegment outcome endSet hold).soak = s.soak ∧ (s.completeSegment outcome endSet hold).join = s.join ∧
    (s.completeSegment outcome endSet hold).table = s.table ∧
    (s.completeSegment outcome endSet hold).probes = s.probes ∧
    (s.completeSegment outcome endSet hold).mounted = s.mounted ∧
    (s.completeSegment outcome endSet hold).head = s.head ∧ (s.completeSegment outcome endSet hold).part = s.part ∧
    (s.completeSegment outcome endSet hold).thermal = s.thermal ∧
    (s.completeSegment outcome endSet hold).rack = s.rack := by
  unfold State.completeSegment
  dsimp only
  (repeat' split) <;> simp

@[simp] theorem State.updateChange_frame (f : ChangeRecord → ChangeRecord) (s : State) :
    (s.updateChange f).pending = s.pending ∧ (s.updateChange f).setup = s.setup ∧ (s.updateChange f).clock = s.clock ∧
    (s.updateChange f).freeCount = s.freeCount ∧ (s.updateChange f).detachDue = s.detachDue ∧
    (s.updateChange f).axes = s.axes ∧ (s.updateChange f).estop = s.estop ∧
    (s.updateChange f).lastFault = s.lastFault ∧ (s.updateChange f).arm = s.arm ∧ (s.updateChange f).run = s.run ∧
    (s.updateChange f).qual = s.qual ∧ (s.updateChange f).soak = s.soak ∧ (s.updateChange f).line = s.line ∧
    (s.updateChange f).join = s.join ∧ (s.updateChange f).table = s.table ∧ (s.updateChange f).agent = s.agent ∧
    (s.updateChange f).probes = s.probes ∧ (s.updateChange f).mounted = s.mounted ∧ (s.updateChange f).head = s.head ∧
    (s.updateChange f).trig = s.trig ∧ (s.updateChange f).cap = s.cap ∧ (s.updateChange f).part = s.part ∧
    (s.updateChange f).thermal = s.thermal ∧ (s.updateChange f).events = s.events ∧ (s.updateChange f).rack = s.rack := by
  unfold State.updateChange
  simp

@[simp] theorem State.refill_frame (s : State) :
    (s.refill).pending = s.pending ∧ (s.refill).setup = s.setup ∧ (s.refill).clock = s.clock ∧
    (s.refill).freeCount = s.freeCount ∧ (s.refill).detachDue = s.detachDue ∧ (s.refill).axes = s.axes ∧
    (s.refill).estop = s.estop ∧ (s.refill).lastFault = s.lastFault ∧ (s.refill).arm = s.arm ∧
    (s.refill).run = s.run ∧ (s.refill).chg = s.chg ∧ (s.refill).qual = s.qual ∧ (s.refill).soak = s.soak ∧
    (s.refill).line = s.line ∧ (s.refill).join = s.join ∧ (s.refill).table = s.table ∧ (s.refill).agent = s.agent ∧
    (s.refill).probes = s.probes ∧ (s.refill).mounted = s.mounted ∧ (s.refill).head = s.head ∧
    (s.refill).trig = s.trig ∧ (s.refill).cap = s.cap ∧ (s.refill).part = s.part ∧ (s.refill).thermal = s.thermal ∧
    (s.refill).rack = s.rack := by
  unfold State.refill
  (repeat' split) <;> simp

@[simp] theorem State.reply_frame (dest : Station) (kind : Nat) (result : Result) (data : List ViewField) (s : State) :
    (s.reply dest kind result data).pending = s.pending ∧ (s.reply dest kind result data).setup = s.setup ∧
    (s.reply dest kind result data).clock = s.clock ∧ (s.reply dest kind result data).freeCount = s.freeCount ∧
    (s.reply dest kind result data).detachDue = s.detachDue ∧ (s.reply dest kind result data).axes = s.axes ∧
    (s.reply dest kind result data).estop = s.estop ∧ (s.reply dest kind result data).lastFault = s.lastFault ∧
    (s.reply dest kind result data).arm = s.arm ∧ (s.reply dest kind result data).run = s.run ∧
    (s.reply dest kind result data).chg = s.chg ∧ (s.reply dest kind result data).qual = s.qual ∧
    (s.reply dest kind result data).soak = s.soak ∧ (s.reply dest kind result data).join = s.join ∧
    (s.reply dest kind result data).table = s.table ∧ (s.reply dest kind result data).agent = s.agent ∧
    (s.reply dest kind result data).probes = s.probes ∧ (s.reply dest kind result data).mounted = s.mounted ∧
    (s.reply dest kind result data).head = s.head ∧ (s.reply dest kind result data).trig = s.trig ∧
    (s.reply dest kind result data).cap = s.cap ∧ (s.reply dest kind result data).part = s.part ∧
    (s.reply dest kind result data).thermal = s.thermal ∧ (s.reply dest kind result data).events = s.events ∧
    (s.reply dest kind result data).rack = s.rack := by
  unfold State.reply
  simp

@[simp] theorem State.setOwner_frame (sender : Station) (s : State) :
    (s.setOwner sender).pending = s.pending ∧ (s.setOwner sender).setup = s.setup ∧
    (s.setOwner sender).clock = s.clock ∧ (s.setOwner sender).freeCount = s.freeCount ∧
    (s.setOwner sender).detachDue = s.detachDue ∧ (s.setOwner sender).axes = s.axes ∧
    (s.setOwner sender).estop = s.estop ∧ (s.setOwner sender).lastFault = s.lastFault ∧
    (s.setOwner sender).arm = s.arm ∧ (s.setOwner sender).chg = s.chg ∧ (s.setOwner sender).qual = s.qual ∧
    (s.setOwner sender).soak = s.soak ∧ (s.setOwner sender).line = s.line ∧ (s.setOwner sender).join = s.join ∧
    (s.setOwner sender).table = s.table ∧ (s.setOwner sender).agent = s.agent ∧
    (s.setOwner sender).probes = s.probes ∧ (s.setOwner sender).mounted = s.mounted ∧
    (s.setOwner sender).head = s.head ∧ (s.setOwner sender).trig = s.trig ∧ (s.setOwner sender).cap = s.cap ∧
    (s.setOwner sender).part = s.part ∧ (s.setOwner sender).thermal = s.thermal ∧ (s.setOwner sender).rack = s.rack := by
  unfold State.setOwner
  simp

@[simp] theorem State.holdRun_frame (s : State) :
    (s.holdRun).pending = s.pending ∧ (s.holdRun).setup = s.setup ∧ (s.holdRun).clock = s.clock ∧
    (s.holdRun).freeCount = s.freeCount ∧ (s.holdRun).detachDue = s.detachDue ∧ (s.holdRun).axes = s.axes ∧
    (s.holdRun).estop = s.estop ∧ (s.holdRun).lastFault = s.lastFault ∧ (s.holdRun).arm = s.arm ∧
    (s.holdRun).chg = s.chg ∧ (s.holdRun).qual = s.qual ∧ (s.holdRun).soak = s.soak ∧ (s.holdRun).line = s.line ∧
    (s.holdRun).join = s.join ∧ (s.holdRun).table = s.table ∧ (s.holdRun).agent = s.agent ∧
    (s.holdRun).probes = s.probes ∧ (s.holdRun).mounted = s.mounted ∧ (s.holdRun).head = s.head ∧
    (s.holdRun).trig = s.trig ∧ (s.holdRun).cap = s.cap ∧ (s.holdRun).part = s.part ∧
    (s.holdRun).thermal = s.thermal ∧ (s.holdRun).events = s.events ∧ (s.holdRun).rack = s.rack := by
  unfold State.holdRun
  simp

@[simp] theorem State.claimTold_frame (r : Option Requester) (s : State) :
    (s.claimTold r).pending = s.pending ∧ (s.claimTold r).setup = s.setup ∧ (s.claimTold r).clock = s.clock ∧
    (s.claimTold r).freeCount = s.freeCount ∧ (s.claimTold r).detachDue = s.detachDue ∧
    (s.claimTold r).axes = s.axes ∧ (s.claimTold r).estop = s.estop ∧ (s.claimTold r).lastFault = s.lastFault ∧
    (s.claimTold r).run = s.run ∧ (s.claimTold r).chg = s.chg ∧ (s.claimTold r).qual = s.qual ∧
    (s.claimTold r).soak = s.soak ∧ (s.claimTold r).line = s.line ∧ (s.claimTold r).join = s.join ∧
    (s.claimTold r).table = s.table ∧ (s.claimTold r).agent = s.agent ∧ (s.claimTold r).probes = s.probes ∧
    (s.claimTold r).mounted = s.mounted ∧ (s.claimTold r).head = s.head ∧ (s.claimTold r).trig = s.trig ∧
    (s.claimTold r).cap = s.cap ∧ (s.claimTold r).part = s.part ∧ (s.claimTold r).thermal = s.thermal ∧
    (s.claimTold r).events = s.events ∧ (s.claimTold r).rack = s.rack := by
  unfold State.claimTold
  (repeat' split) <;> simp

@[simp] theorem State.setParts_frame (parts : List M2Part) (s : State) :
    (s.setParts parts).pending = s.pending ∧ (s.setParts parts).setup = s.setup ∧ (s.setParts parts).clock = s.clock ∧
    (s.setParts parts).freeCount = s.freeCount ∧ (s.setParts parts).detachDue = s.detachDue ∧
    (s.setParts parts).axes = s.axes ∧ (s.setParts parts).estop = s.estop ∧
    (s.setParts parts).lastFault = s.lastFault ∧ (s.setParts parts).arm = s.arm ∧ (s.setParts parts).run = s.run ∧
    (s.setParts parts).chg = s.chg ∧ (s.setParts parts).qual = s.qual ∧ (s.setParts parts).soak = s.soak ∧
    (s.setParts parts).join = s.join ∧ (s.setParts parts).table = s.table ∧ (s.setParts parts).agent = s.agent ∧
    (s.setParts parts).probes = s.probes ∧ (s.setParts parts).mounted = s.mounted ∧ (s.setParts parts).head = s.head ∧
    (s.setParts parts).trig = s.trig ∧ (s.setParts parts).cap = s.cap ∧ (s.setParts parts).part = s.part ∧
    (s.setParts parts).thermal = s.thermal ∧ (s.setParts parts).events = s.events ∧ (s.setParts parts).rack = s.rack := by
  unfold State.setParts
  simp

@[simp] theorem State.enterListening_frame (s : State) :
    (s.enterListening).pending = s.pending ∧ (s.enterListening).setup = s.setup ∧ (s.enterListening).clock = s.clock ∧
    (s.enterListening).freeCount = s.freeCount ∧ (s.enterListening).detachDue = s.detachDue ∧
    (s.enterListening).axes = s.axes ∧ (s.enterListening).estop = s.estop ∧
    (s.enterListening).lastFault = s.lastFault ∧ (s.enterListening).arm = s.arm ∧ (s.enterListening).run = s.run ∧
    (s.enterListening).chg = s.chg ∧ (s.enterListening).qual = s.qual ∧ (s.enterListening).soak = s.soak ∧
    (s.enterListening).line = s.line ∧ (s.enterListening).table = s.table ∧ (s.enterListening).agent = s.agent ∧
    (s.enterListening).probes = s.probes ∧ (s.enterListening).mounted = s.mounted ∧ (s.enterListening).head = s.head ∧
    (s.enterListening).trig = s.trig ∧ (s.enterListening).cap = s.cap ∧ (s.enterListening).part = s.part ∧
    (s.enterListening).thermal = s.thermal ∧ (s.enterListening).events = s.events ∧ (s.enterListening).rack = s.rack := by
  unfold State.enterListening
  (repeat' split) <;> simp

@[simp] theorem State.heard_frame (p : Station) (opensWindow : Bool) (s : State) :
    (s.heard p opensWindow).pending = s.pending ∧ (s.heard p opensWindow).setup = s.setup ∧
    (s.heard p opensWindow).clock = s.clock ∧ (s.heard p opensWindow).freeCount = s.freeCount ∧
    (s.heard p opensWindow).detachDue = s.detachDue ∧ (s.heard p opensWindow).axes = s.axes ∧
    (s.heard p opensWindow).estop = s.estop ∧ (s.heard p opensWindow).lastFault = s.lastFault ∧
    (s.heard p opensWindow).arm = s.arm ∧ (s.heard p opensWindow).run = s.run ∧ (s.heard p opensWindow).chg = s.chg ∧
    (s.heard p opensWindow).qual = s.qual ∧ (s.heard p opensWindow).soak = s.soak ∧
    (s.heard p opensWindow).table = s.table ∧ (s.heard p opensWindow).agent = s.agent ∧
    (s.heard p opensWindow).probes = s.probes ∧ (s.heard p opensWindow).mounted = s.mounted ∧
    (s.heard p opensWindow).head = s.head ∧ (s.heard p opensWindow).trig = s.trig ∧
    (s.heard p opensWindow).cap = s.cap ∧ (s.heard p opensWindow).part = s.part ∧
    (s.heard p opensWindow).thermal = s.thermal ∧ (s.heard p opensWindow).events = s.events ∧
    (s.heard p opensWindow).rack = s.rack := by
  unfold State.heard
  (repeat' split) <;> simp

end Sys2Proof.Machine
end

