-- ==== Sys2Proof/Laws/Motion.lean ====
section
/-! SUPPORT. What every end and start of a motion, a change, an excursion or a run leaves alone: the queue, start-up, the
clock, the ESTOP input, the join unit, the share table, the part data, the thermal unit and the rack presences. -/

namespace Sys2Proof.Machine

open Sys2Proof

/-- Without a motion the false-trigger count is 0 (R107). -/
@[simp] theorem State.falseTriggers_still (s : State) (h : s.arm.motion = none) : s.falseTriggers = 0 := by
  simp only [State.falseTriggers, h, Option.elim_none]

/-- With a motion the count is the motion's own (R102). -/
@[simp] theorem State.falseTriggers_moving (s : State) (m : Motion) (h : s.arm.motion = some m) :
    s.falseTriggers = m.falseTriggers := by
  simp only [State.falseTriggers, h, Option.elim_some]

@[simp] theorem State.startStraight_frame (act : MotionAct) (origin : Origin) (target : Vec3 Lu) (feed : BitVec 16) (required : ZoneSet) (s : State) :
    (s.startStraight act origin target feed required).pending = s.pending ∧
    (s.startStraight act origin target feed required).setup = s.setup ∧
    (s.startStraight act origin target feed required).clock = s.clock ∧
    (s.startStraight act origin target feed required).estop = s.estop ∧
    (s.startStraight act origin target feed required).join = s.join ∧
    (s.startStraight act origin target feed required).table = s.table ∧
    (s.startStraight act origin target feed required).part = s.part ∧
    (s.startStraight act origin target feed required).thermal = s.thermal ∧
    (s.startStraight act origin target feed required).rack = s.rack := by
  unfold State.startStraight
  (repeat' split) <;> simp

@[simp] theorem State.pushOut_frame (kind : ExcursionKind) (need : Option ZoneSet) (serves : Bool) (s : State) :
    (s.pushOut kind need serves).pending = s.pending ∧ (s.pushOut kind need serves).setup = s.setup ∧
    (s.pushOut kind need serves).clock = s.clock ∧ (s.pushOut kind need serves).estop = s.estop ∧
    (s.pushOut kind need serves).join = s.join ∧ (s.pushOut kind need serves).table = s.table ∧
    (s.pushOut kind need serves).part = s.part ∧ (s.pushOut kind need serves).thermal = s.thermal ∧
    (s.pushOut kind need serves).rack = s.rack := by
  unfold State.pushOut
  simp

@[simp] theorem State.pushChange_frame (target : ProbeId) (serves : Bool) (s : State) :
    (s.pushChange target serves).pending = s.pending ∧ (s.pushChange target serves).setup = s.setup ∧
    (s.pushChange target serves).clock = s.clock ∧ (s.pushChange target serves).estop = s.estop ∧
    (s.pushChange target serves).join = s.join ∧ (s.pushChange target serves).table = s.table ∧
    (s.pushChange target serves).part = s.part ∧ (s.pushChange target serves).thermal = s.thermal ∧
    (s.pushChange target serves).rack = s.rack := by
  unfold State.pushChange
  simp

@[simp] theorem State.goToTouch_frame (q : Qualification) (touch : Nat) (s : State) :
    (s.goToTouch q touch).pending = s.pending ∧ (s.goToTouch q touch).setup = s.setup ∧
    (s.goToTouch q touch).clock = s.clock ∧ (s.goToTouch q touch).estop = s.estop ∧
    (s.goToTouch q touch).join = s.join ∧ (s.goToTouch q touch).table = s.table ∧
    (s.goToTouch q touch).part = s.part ∧ (s.goToTouch q touch).thermal = s.thermal ∧
    (s.goToTouch q touch).rack = s.rack := by
  unfold State.goToTouch
  (repeat' split) <;> simp

@[simp] theorem State.beginTouches_frame (s : State) :
    (s.beginTouches).pending = s.pending ∧ (s.beginTouches).setup = s.setup ∧ (s.beginTouches).clock = s.clock ∧
    (s.beginTouches).estop = s.estop ∧ (s.beginTouches).join = s.join ∧ (s.beginTouches).table = s.table ∧
    (s.beginTouches).part = s.part ∧ (s.beginTouches).thermal = s.thermal ∧ (s.beginTouches).rack = s.rack := by
  unfold State.beginTouches
  (repeat' split) <;> simp

@[simp] theorem State.pop_frame (s : State) :
    (s.pop).pending = s.pending ∧ (s.pop).setup = s.setup ∧ (s.pop).clock = s.clock ∧ (s.pop).estop = s.estop ∧
    (s.pop).join = s.join ∧ (s.pop).table = s.table ∧ (s.pop).part = s.part ∧ (s.pop).thermal = s.thermal ∧
    (s.pop).rack = s.rack := by
  unfold State.pop
  dsimp only
  (repeat' split) <;> simp

@[simp] theorem State.afterChange_frame (s : State) :
    (s.afterChange).pending = s.pending ∧ (s.afterChange).setup = s.setup ∧ (s.afterChange).clock = s.clock ∧
    (s.afterChange).estop = s.estop ∧ (s.afterChange).join = s.join ∧ (s.afterChange).table = s.table ∧
    (s.afterChange).part = s.part ∧ (s.afterChange).thermal = s.thermal ∧ (s.afterChange).rack = s.rack := by
  unfold State.afterChange
  (repeat' split) <;> simp

@[simp] theorem State.claimSlots_frame (pick : Fin 8) (drop : Option (Fin 8)) (s : State) :
    (s.claimSlots pick drop).pending = s.pending ∧ (s.claimSlots pick drop).setup = s.setup ∧
    (s.claimSlots pick drop).clock = s.clock ∧ (s.claimSlots pick drop).estop = s.estop ∧
    (s.claimSlots pick drop).join = s.join ∧ (s.claimSlots pick drop).table = s.table ∧
    (s.claimSlots pick drop).part = s.part ∧ (s.claimSlots pick drop).thermal = s.thermal ∧
    (s.claimSlots pick drop).rack = s.rack := by
  unfold State.claimSlots
  simp

@[simp] theorem State.chooseSlots_frame (r : ChangeRecord) (s : State) :
    (s.chooseSlots r).pending = s.pending ∧ (s.chooseSlots r).setup = s.setup ∧ (s.chooseSlots r).clock = s.clock ∧
    (s.chooseSlots r).estop = s.estop ∧ (s.chooseSlots r).join = s.join ∧ (s.chooseSlots r).table = s.table ∧
    (s.chooseSlots r).part = s.part ∧ (s.chooseSlots r).thermal = s.thermal ∧ (s.chooseSlots r).rack = s.rack := by
  unfold State.chooseSlots
  (repeat' split) <;> simp

@[simp] theorem State.beginChange_frame (s : State) :
    (s.beginChange).pending = s.pending ∧ (s.beginChange).setup = s.setup ∧ (s.beginChange).clock = s.clock ∧
    (s.beginChange).estop = s.estop ∧ (s.beginChange).join = s.join ∧ (s.beginChange).table = s.table ∧
    (s.beginChange).part = s.part ∧ (s.beginChange).thermal = s.thermal ∧ (s.beginChange).rack = s.rack := by
  unfold State.beginChange
  (repeat' split) <;> simp

@[simp] theorem State.changeHeld_frame (s : State) :
    (s.changeHeld).pending = s.pending ∧ (s.changeHeld).setup = s.setup ∧ (s.changeHeld).clock = s.clock ∧
    (s.changeHeld).estop = s.estop ∧ (s.changeHeld).join = s.join ∧ (s.changeHeld).table = s.table ∧
    (s.changeHeld).part = s.part ∧ (s.changeHeld).thermal = s.thermal ∧ (s.changeHeld).rack = s.rack := by
  unfold State.changeHeld
  (repeat' split) <;> simp

@[simp] theorem State.startChangeMove_frame (m : ChangeMove) (s : State) :
    (s.startChangeMove m).pending = s.pending ∧ (s.startChangeMove m).setup = s.setup ∧
    (s.startChangeMove m).clock = s.clock ∧ (s.startChangeMove m).estop = s.estop ∧
    (s.startChangeMove m).join = s.join ∧ (s.startChangeMove m).table = s.table ∧
    (s.startChangeMove m).part = s.part ∧ (s.startChangeMove m).thermal = s.thermal ∧
    (s.startChangeMove m).rack = s.rack := by
  unfold State.startChangeMove
  (repeat' split) <;> simp

@[simp] theorem State.queueSlotSet_frame (slot : Option (Fin 8)) (contents : Contents) (s : State) :
    (s.queueSlotSet slot contents).pending = s.pending ∧ (s.queueSlotSet slot contents).setup = s.setup ∧
    (s.queueSlotSet slot contents).clock = s.clock ∧ (s.queueSlotSet slot contents).estop = s.estop ∧
    (s.queueSlotSet slot contents).join = s.join ∧ (s.queueSlotSet slot contents).table = s.table ∧
    (s.queueSlotSet slot contents).part = s.part ∧ (s.queueSlotSet slot contents).thermal = s.thermal ∧
    (s.queueSlotSet slot contents).rack = s.rack := by
  unfold State.queueSlotSet
  (repeat' split) <;> simp

@[simp] theorem State.pulseStep_frame (step : ChangeStep) (kind : PulseKind) (s : State) :
    (s.pulseStep step kind).pending = s.pending ∧ (s.pulseStep step kind).setup = s.setup ∧
    (s.pulseStep step kind).clock = s.clock ∧ (s.pulseStep step kind).estop = s.estop ∧
    (s.pulseStep step kind).join = s.join ∧ (s.pulseStep step kind).table = s.table ∧
    (s.pulseStep step kind).part = s.part ∧ (s.pulseStep step kind).thermal = s.thermal ∧
    (s.pulseStep step kind).rack = s.rack := by
  unfold State.pulseStep
  dsimp only
  (repeat' split) <;> simp

@[simp] theorem State.leaveDock_frame (m : ChangeMove) (s : State) :
    (s.leaveDock m).pending = s.pending ∧ (s.leaveDock m).setup = s.setup ∧ (s.leaveDock m).clock = s.clock ∧
    (s.leaveDock m).estop = s.estop ∧ (s.leaveDock m).join = s.join ∧ (s.leaveDock m).table = s.table ∧
    (s.leaveDock m).part = s.part ∧ (s.leaveDock m).thermal = s.thermal ∧ (s.leaveDock m).rack = s.rack := by
  unfold State.leaveDock
  simp

@[simp] theorem State.headEmptied_frame (r : ChangeRecord) (s : State) :
    (s.headEmptied r).pending = s.pending ∧ (s.headEmptied r).setup = s.setup ∧ (s.headEmptied r).clock = s.clock ∧
    (s.headEmptied r).estop = s.estop ∧ (s.headEmptied r).join = s.join ∧ (s.headEmptied r).table = s.table ∧
    (s.headEmptied r).part = s.part ∧ (s.headEmptied r).thermal = s.thermal ∧ (s.headEmptied r).rack = s.rack := by
  unfold State.headEmptied
  dsimp only
  (repeat' split) <;> simp

@[simp] theorem State.unlockEnded_frame (r : ChangeRecord) (s : State) :
    (s.unlockEnded r).pending = s.pending ∧ (s.unlockEnded r).setup = s.setup ∧ (s.unlockEnded r).clock = s.clock ∧
    (s.unlockEnded r).estop = s.estop ∧ (s.unlockEnded r).join = s.join ∧ (s.unlockEnded r).table = s.table ∧
    (s.unlockEnded r).part = s.part ∧ (s.unlockEnded r).thermal = s.thermal ∧ (s.unlockEnded r).rack = s.rack := by
  unfold State.unlockEnded
  (repeat' split) <;> simp

@[simp] theorem State.headSeated_frame (r : ChangeRecord) (s : State) :
    (s.headSeated r).pending = s.pending ∧ (s.headSeated r).setup = s.setup ∧ (s.headSeated r).clock = s.clock ∧
    (s.headSeated r).estop = s.estop ∧ (s.headSeated r).join = s.join ∧ (s.headSeated r).table = s.table ∧
    (s.headSeated r).part = s.part ∧ (s.headSeated r).thermal = s.thermal ∧ (s.headSeated r).rack = s.rack := by
  unfold State.headSeated
  (repeat' split) <;> simp

@[simp] theorem State.lockEnded_frame (r : ChangeRecord) (s : State) :
    (s.lockEnded r).pending = s.pending ∧ (s.lockEnded r).setup = s.setup ∧ (s.lockEnded r).clock = s.clock ∧
    (s.lockEnded r).estop = s.estop ∧ (s.lockEnded r).join = s.join ∧ (s.lockEnded r).table = s.table ∧
    (s.lockEnded r).part = s.part ∧ (s.lockEnded r).thermal = s.thermal ∧ (s.lockEnded r).rack = s.rack := by
  unfold State.lockEnded
  (repeat' split) <;> simp

@[simp] theorem State.pulseEnded_frame (s : State) :
    (s.pulseEnded).pending = s.pending ∧ (s.pulseEnded).setup = s.setup ∧ (s.pulseEnded).clock = s.clock ∧
    (s.pulseEnded).estop = s.estop ∧ (s.pulseEnded).join = s.join ∧ (s.pulseEnded).table = s.table ∧
    (s.pulseEnded).part = s.part ∧ (s.pulseEnded).thermal = s.thermal ∧ (s.pulseEnded).rack = s.rack := by
  unfold State.pulseEnded
  (repeat' split) <;> simp

@[simp] theorem State.unlockStuck_frame (r : ChangeRecord) (s : State) :
    (s.unlockStuck r).pending = s.pending ∧ (s.unlockStuck r).setup = s.setup ∧ (s.unlockStuck r).clock = s.clock ∧
    (s.unlockStuck r).estop = s.estop ∧ (s.unlockStuck r).join = s.join ∧ (s.unlockStuck r).table = s.table ∧
    (s.unlockStuck r).part = s.part ∧ (s.unlockStuck r).thermal = s.thermal ∧ (s.unlockStuck r).rack = s.rack := by
  unfold State.unlockStuck
  simp

@[simp] theorem State.lockEmpty_frame (r : ChangeRecord) (s : State) :
    (s.lockEmpty r).pending = s.pending ∧ (s.lockEmpty r).setup = s.setup ∧ (s.lockEmpty r).clock = s.clock ∧
    (s.lockEmpty r).estop = s.estop ∧ (s.lockEmpty r).join = s.join ∧ (s.lockEmpty r).table = s.table ∧
    (s.lockEmpty r).part = s.part ∧ (s.lockEmpty r).thermal = s.thermal ∧ (s.lockEmpty r).rack = s.rack := by
  unfold State.lockEmpty
  simp

@[simp] theorem State.identified_frame (r : ChangeRecord) (result : ReadResult) (s : State) :
    (s.identified r result).pending = s.pending ∧ (s.identified r result).setup = s.setup ∧
    (s.identified r result).clock = s.clock ∧ (s.identified r result).estop = s.estop ∧
    (s.identified r result).join = s.join ∧ (s.identified r result).table = s.table ∧
    (s.identified r result).part = s.part ∧ (s.identified r result).thermal = s.thermal ∧
    (s.identified r result).rack = s.rack := by
  unfold State.identified
  (repeat' split) <;> simp

@[simp] theorem State.raiseFailing_frame (r : ChangeRecord) (f : FaultCode) (s : State) :
    (s.raiseFailing r f).pending = s.pending ∧ (s.raiseFailing r f).setup = s.setup ∧
    (s.raiseFailing r f).clock = s.clock ∧ (s.raiseFailing r f).estop = s.estop ∧ (s.raiseFailing r f).join = s.join ∧
    (s.raiseFailing r f).table = s.table ∧ (s.raiseFailing r f).part = s.part ∧
    (s.raiseFailing r f).thermal = s.thermal ∧ (s.raiseFailing r f).rack = s.rack := by
  unfold State.raiseFailing
  (repeat' split) <;> simp

@[simp] theorem State.judgeIdentity_frame (r : ChangeRecord) (s : State) :
    (s.judgeIdentity r).pending = s.pending ∧ (s.judgeIdentity r).setup = s.setup ∧
    (s.judgeIdentity r).clock = s.clock ∧ (s.judgeIdentity r).estop = s.estop ∧ (s.judgeIdentity r).join = s.join ∧
    (s.judgeIdentity r).table = s.table ∧ (s.judgeIdentity r).part = s.part ∧
    (s.judgeIdentity r).thermal = s.thermal ∧ (s.judgeIdentity r).rack = s.rack := by
  unfold State.judgeIdentity
  (repeat' split) <;> simp

@[simp] theorem State.changeArrived_frame (m : ChangeMove) (r : ChangeRecord) (s : State) :
    (s.changeArrived m r).pending = s.pending ∧ (s.changeArrived m r).setup = s.setup ∧
    (s.changeArrived m r).clock = s.clock ∧ (s.changeArrived m r).estop = s.estop ∧
    (s.changeArrived m r).join = s.join ∧ (s.changeArrived m r).table = s.table ∧
    (s.changeArrived m r).part = s.part ∧ (s.changeArrived m r).thermal = s.thermal ∧
    (s.changeArrived m r).rack = s.rack := by
  unfold State.changeArrived
  (repeat' split) <;> simp

@[simp] theorem State.finishChange_frame (s : State) :
    (s.finishChange).pending = s.pending ∧ (s.finishChange).setup = s.setup ∧ (s.finishChange).clock = s.clock ∧
    (s.finishChange).estop = s.estop ∧ (s.finishChange).join = s.join ∧ (s.finishChange).table = s.table ∧
    (s.finishChange).part = s.part ∧ (s.finishChange).thermal = s.thermal ∧ (s.finishChange).rack = s.rack := by
  unfold State.finishChange
  dsimp only
  split <;> simp

@[simp] theorem State.changeReleased_frame (items : ItemSet) (s : State) :
    (s.changeReleased items).pending = s.pending ∧ (s.changeReleased items).setup = s.setup ∧
    (s.changeReleased items).clock = s.clock ∧ (s.changeReleased items).estop = s.estop ∧
    (s.changeReleased items).join = s.join ∧ (s.changeReleased items).table = s.table ∧
    (s.changeReleased items).part = s.part ∧ (s.changeReleased items).thermal = s.thermal ∧
    (s.changeReleased items).rack = s.rack := by
  unfold State.changeReleased
  (repeat' split) <;> simp

@[simp] theorem State.waitForItems_frame (s : State) :
    (s.waitForItems).pending = s.pending ∧ (s.waitForItems).setup = s.setup ∧ (s.waitForItems).clock = s.clock ∧
    (s.waitForItems).freeCount = s.freeCount ∧ (s.waitForItems).detachDue = s.detachDue ∧
    (s.waitForItems).axes = s.axes ∧ (s.waitForItems).estop = s.estop ∧ (s.waitForItems).lastFault = s.lastFault ∧
    (s.waitForItems).run = s.run ∧ (s.waitForItems).chg = s.chg ∧ (s.waitForItems).qual = s.qual ∧
    (s.waitForItems).soak = s.soak ∧ (s.waitForItems).line = s.line ∧ (s.waitForItems).join = s.join ∧
    (s.waitForItems).table = s.table ∧ (s.waitForItems).agent = s.agent ∧ (s.waitForItems).probes = s.probes ∧
    (s.waitForItems).mounted = s.mounted ∧ (s.waitForItems).head = s.head ∧ (s.waitForItems).trig = s.trig ∧
    (s.waitForItems).cap = s.cap ∧ (s.waitForItems).part = s.part ∧ (s.waitForItems).thermal = s.thermal ∧
    (s.waitForItems).events = s.events ∧ (s.waitForItems).rack = s.rack := by
  unfold State.waitForItems
  simp

@[simp] theorem State.gateItems_frame (t : Start) (s : State) :
    (s.gateItems t).1.pending = s.pending ∧ (s.gateItems t).1.setup = s.setup ∧ (s.gateItems t).1.clock = s.clock ∧
    (s.gateItems t).1.estop = s.estop ∧ (s.gateItems t).1.join = s.join ∧ (s.gateItems t).1.table = s.table ∧
    (s.gateItems t).1.part = s.part ∧ (s.gateItems t).1.thermal = s.thermal ∧ (s.gateItems t).1.rack = s.rack := by
  unfold State.gateItems
  dsimp only
  (repeat' split) <;> simp

@[simp] theorem State.markProbing_frame (probing : Bool) (s : State) :
    (s.markProbing probing).pending = s.pending ∧ (s.markProbing probing).setup = s.setup ∧
    (s.markProbing probing).clock = s.clock ∧ (s.markProbing probing).freeCount = s.freeCount ∧
    (s.markProbing probing).detachDue = s.detachDue ∧ (s.markProbing probing).axes = s.axes ∧
    (s.markProbing probing).estop = s.estop ∧ (s.markProbing probing).lastFault = s.lastFault ∧
    (s.markProbing probing).run = s.run ∧ (s.markProbing probing).chg = s.chg ∧
    (s.markProbing probing).qual = s.qual ∧ (s.markProbing probing).soak = s.soak ∧
    (s.markProbing probing).line = s.line ∧ (s.markProbing probing).join = s.join ∧
    (s.markProbing probing).table = s.table ∧ (s.markProbing probing).agent = s.agent ∧
    (s.markProbing probing).probes = s.probes ∧ (s.markProbing probing).mounted = s.mounted ∧
    (s.markProbing probing).head = s.head ∧ (s.markProbing probing).trig = s.trig ∧
    (s.markProbing probing).cap = s.cap ∧ (s.markProbing probing).part = s.part ∧
    (s.markProbing probing).thermal = s.thermal ∧ (s.markProbing probing).events = s.events ∧
    (s.markProbing probing).rack = s.rack := by
  unfold State.markProbing
  simp

@[simp] theorem State.moveAlong_frame (m : Motion) (more : Nat) (s : State) :
    (s.moveAlong m more).pending = s.pending ∧ (s.moveAlong m more).setup = s.setup ∧
    (s.moveAlong m more).clock = s.clock ∧ (s.moveAlong m more).freeCount = s.freeCount ∧
    (s.moveAlong m more).detachDue = s.detachDue ∧ (s.moveAlong m more).estop = s.estop ∧
    (s.moveAlong m more).lastFault = s.lastFault ∧ (s.moveAlong m more).run = s.run ∧
    (s.moveAlong m more).chg = s.chg ∧ (s.moveAlong m more).qual = s.qual ∧ (s.moveAlong m more).soak = s.soak ∧
    (s.moveAlong m more).line = s.line ∧ (s.moveAlong m more).join = s.join ∧ (s.moveAlong m more).table = s.table ∧
    (s.moveAlong m more).agent = s.agent ∧ (s.moveAlong m more).probes = s.probes ∧
    (s.moveAlong m more).mounted = s.mounted ∧ (s.moveAlong m more).head = s.head ∧
    (s.moveAlong m more).trig = s.trig ∧ (s.moveAlong m more).cap = s.cap ∧ (s.moveAlong m more).part = s.part ∧
    (s.moveAlong m more).thermal = s.thermal ∧ (s.moveAlong m more).events = s.events ∧
    (s.moveAlong m more).rack = s.rack := by
  unfold State.moveAlong
  dsimp only
  (repeat' split) <;> simp

/-- The setpoints' advance leaves alone all but the setpoints, with the positions of shadow mode, and the motion. -/
@[simp] theorem State.advanceSetpoints_frame (m : Motion) (s : State) :
    (s.advanceSetpoints m).pending = s.pending ∧ (s.advanceSetpoints m).setup = s.setup ∧
    (s.advanceSetpoints m).clock = s.clock ∧ (s.advanceSetpoints m).freeCount = s.freeCount ∧
    (s.advanceSetpoints m).detachDue = s.detachDue ∧ (s.advanceSetpoints m).estop = s.estop ∧
    (s.advanceSetpoints m).lastFault = s.lastFault ∧ (s.advanceSetpoints m).run = s.run ∧
    (s.advanceSetpoints m).chg = s.chg ∧ (s.advanceSetpoints m).qual = s.qual ∧ (s.advanceSetpoints m).soak = s.soak ∧
    (s.advanceSetpoints m).line = s.line ∧ (s.advanceSetpoints m).join = s.join ∧
    (s.advanceSetpoints m).table = s.table ∧ (s.advanceSetpoints m).agent = s.agent ∧
    (s.advanceSetpoints m).probes = s.probes ∧ (s.advanceSetpoints m).mounted = s.mounted ∧
    (s.advanceSetpoints m).head = s.head ∧ (s.advanceSetpoints m).trig = s.trig ∧ (s.advanceSetpoints m).cap = s.cap ∧
    (s.advanceSetpoints m).part = s.part ∧ (s.advanceSetpoints m).thermal = s.thermal ∧
    (s.advanceSetpoints m).events = s.events ∧ (s.advanceSetpoints m).rack = s.rack := by
  unfold State.advanceSetpoints
  simp

/-- While the setpoints slow, they go no farther in a millisecond than in the one before (R32). -/
theorem State.advanceOf_le (m : Motion) (s : State) (h : s.slowing m = true) : s.advanceOf m ≤ m.speed := by
  unfold State.advanceOf
  rw [if_pos h]
  exact Nat.min_le_left _ _

/-- A motion that is not slowing goes at its feed (R3). -/
theorem State.advanceOf_feed (m : Motion) (s : State) (h : s.slowing m = false) : s.advanceOf m = m.feedSpeed := by
  unfold State.advanceOf
  simp [h]

/-- The last advance of a stop is the speed of the next millisecond (R32). -/
theorem Motion.slowTo_speed (advance : Nat) (m : Motion) : (m.slowTo true advance).speed = advance := rfl

@[simp] theorem State.startTravel_frame (probing : Bool) (t : TravelSpec) (s : State) :
    (s.startTravel probing t).pending = s.pending ∧ (s.startTravel probing t).setup = s.setup ∧ (s.startTravel probing t).clock = s.clock ∧
    (s.startTravel probing t).estop = s.estop ∧ (s.startTravel probing t).join = s.join ∧ (s.startTravel probing t).table = s.table ∧
    (s.startTravel probing t).part = s.part ∧ (s.startTravel probing t).thermal = s.thermal ∧ (s.startTravel probing t).rack = s.rack := by
  unfold State.startTravel
  dsimp only
  (repeat' split) <;> simp

@[simp] theorem State.probePastRing_frame (s : State) :
    (s.probePastRing).pending = s.pending ∧ (s.probePastRing).setup = s.setup ∧ (s.probePastRing).clock = s.clock ∧
    (s.probePastRing).estop = s.estop ∧ (s.probePastRing).join = s.join ∧ (s.probePastRing).table = s.table ∧
    (s.probePastRing).part = s.part ∧ (s.probePastRing).thermal = s.thermal ∧ (s.probePastRing).rack = s.rack := by
  unfold State.probePastRing
  (repeat' split) <;> simp

@[simp] theorem State.startProbe_frame (t : TravelSpec) (s : State) :
    (s.startProbe t).pending = s.pending ∧ (s.startProbe t).setup = s.setup ∧ (s.startProbe t).clock = s.clock ∧
    (s.startProbe t).estop = s.estop ∧ (s.startProbe t).join = s.join ∧ (s.startProbe t).table = s.table ∧
    (s.startProbe t).part = s.part ∧ (s.startProbe t).thermal = s.thermal ∧ (s.startProbe t).rack = s.rack := by
  unfold State.startProbe State.gateRing
  dsimp only
  (repeat' split) <;> simp

@[simp] theorem State.startSegment_frame (s : State) :
    (s.startSegment).pending = s.pending ∧ (s.startSegment).setup = s.setup ∧ (s.startSegment).clock = s.clock ∧
    (s.startSegment).estop = s.estop ∧ (s.startSegment).join = s.join ∧ (s.startSegment).table = s.table ∧
    (s.startSegment).part = s.part ∧ (s.startSegment).thermal = s.thermal ∧ (s.startSegment).rack = s.rack := by
  unfold State.startSegment State.withReferences
  (repeat' split) <;> simp

@[simp] theorem State.startDwell_frame (left : BitVec 16) (s : State) :
    (s.startDwell left).pending = s.pending ∧ (s.startDwell left).setup = s.setup ∧
    (s.startDwell left).clock = s.clock ∧ (s.startDwell left).estop = s.estop ∧ (s.startDwell left).join = s.join ∧
    (s.startDwell left).table = s.table ∧ (s.startDwell left).part = s.part ∧
    (s.startDwell left).thermal = s.thermal ∧ (s.startDwell left).rack = s.rack := by
  unfold State.startDwell
  simp

@[simp] theorem State.startBackOff_frame (target : Vec3 Lu) (thenHeld : Bool) (s : State) :
    (s.startBackOff target thenHeld).pending = s.pending ∧ (s.startBackOff target thenHeld).setup = s.setup ∧
    (s.startBackOff target thenHeld).clock = s.clock ∧ (s.startBackOff target thenHeld).estop = s.estop ∧
    (s.startBackOff target thenHeld).join = s.join ∧ (s.startBackOff target thenHeld).table = s.table ∧
    (s.startBackOff target thenHeld).part = s.part ∧ (s.startBackOff target thenHeld).thermal = s.thermal ∧
    (s.startBackOff target thenHeld).rack = s.rack := by
  unfold State.startBackOff
  (repeat' split) <;> simp

@[simp] theorem State.nextSeek_frame (s : State) :
    (s.nextSeek).pending = s.pending ∧ (s.nextSeek).setup = s.setup ∧ (s.nextSeek).clock = s.clock ∧
    (s.nextSeek).estop = s.estop ∧ (s.nextSeek).join = s.join ∧ (s.nextSeek).table = s.table ∧
    (s.nextSeek).part = s.part ∧ (s.nextSeek).thermal = s.thermal ∧ (s.nextSeek).rack = s.rack := by
  unfold State.nextSeek
  dsimp only
  (repeat' split) <;> simp

@[simp] theorem State.startHome_frame (s : State) :
    (s.startHome).pending = s.pending ∧ (s.startHome).setup = s.setup ∧ (s.startHome).clock = s.clock ∧
    (s.startHome).estop = s.estop ∧ (s.startHome).join = s.join ∧ (s.startHome).table = s.table ∧
    (s.startHome).part = s.part ∧ (s.startHome).thermal = s.thermal ∧ (s.startHome).rack = s.rack := by
  unfold State.startHome
  (repeat' split) <;> simp

@[simp] theorem State.startMoveOut_frame (s : State) :
    (s.startMoveOut).pending = s.pending ∧ (s.startMoveOut).setup = s.setup ∧ (s.startMoveOut).clock = s.clock ∧
    (s.startMoveOut).estop = s.estop ∧ (s.startMoveOut).join = s.join ∧ (s.startMoveOut).table = s.table ∧
    (s.startMoveOut).part = s.part ∧ (s.startMoveOut).thermal = s.thermal ∧ (s.startMoveOut).rack = s.rack := by
  unfold State.startMoveOut State.withReferences
  (repeat' split) <;> simp

@[simp] theorem State.startReturnMove_frame (s : State) :
    (s.startReturnMove).pending = s.pending ∧ (s.startReturnMove).setup = s.setup ∧
    (s.startReturnMove).clock = s.clock ∧ (s.startReturnMove).estop = s.estop ∧ (s.startReturnMove).join = s.join ∧
    (s.startReturnMove).table = s.table ∧ (s.startReturnMove).part = s.part ∧
    (s.startReturnMove).thermal = s.thermal ∧ (s.startReturnMove).rack = s.rack := by
  unfold State.startReturnMove
  (repeat' split) <;> simp

@[simp] theorem State.startReturn_frame (s : State) :
    (s.startReturn).pending = s.pending ∧ (s.startReturn).setup = s.setup ∧ (s.startReturn).clock = s.clock ∧
    (s.startReturn).estop = s.estop ∧ (s.startReturn).join = s.join ∧ (s.startReturn).table = s.table ∧
    (s.startReturn).part = s.part ∧ (s.startReturn).thermal = s.thermal ∧ (s.startReturn).rack = s.rack := by
  unfold State.startReturn
  (repeat' split) <;> simp

@[simp] theorem State.startLeg_frame (s : State) :
    (s.startLeg).pending = s.pending ∧ (s.startLeg).setup = s.setup ∧ (s.startLeg).clock = s.clock ∧
    (s.startLeg).estop = s.estop ∧ (s.startLeg).join = s.join ∧ (s.startLeg).table = s.table ∧
    (s.startLeg).part = s.part ∧ (s.startLeg).thermal = s.thermal ∧ (s.startLeg).rack = s.rack := by
  unfold State.startLeg
  (repeat' split) <;> simp

@[simp] theorem State.touchPastRing_frame (s : State) :
    (s.touchPastRing).pending = s.pending ∧ (s.touchPastRing).setup = s.setup ∧ (s.touchPastRing).clock = s.clock ∧
    (s.touchPastRing).estop = s.estop ∧ (s.touchPastRing).join = s.join ∧ (s.touchPastRing).table = s.table ∧
    (s.touchPastRing).part = s.part ∧ (s.touchPastRing).thermal = s.thermal ∧ (s.touchPastRing).rack = s.rack := by
  unfold State.touchPastRing
  (repeat' split) <;> simp

@[simp] theorem State.startTouch_frame (s : State) :
    (s.startTouch).pending = s.pending ∧ (s.startTouch).setup = s.setup ∧ (s.startTouch).clock = s.clock ∧
    (s.startTouch).estop = s.estop ∧ (s.startTouch).join = s.join ∧ (s.startTouch).table = s.table ∧
    (s.startTouch).part = s.part ∧ (s.startTouch).thermal = s.thermal ∧ (s.startTouch).rack = s.rack := by
  unfold State.startTouch State.gateRing
  dsimp only
  (repeat' split) <;> simp

@[simp] theorem State.startTouchBack_frame (s : State) :
    (s.startTouchBack).pending = s.pending ∧ (s.startTouchBack).setup = s.setup ∧ (s.startTouchBack).clock = s.clock ∧
    (s.startTouchBack).estop = s.estop ∧ (s.startTouchBack).join = s.join ∧ (s.startTouchBack).table = s.table ∧
    (s.startTouchBack).part = s.part ∧ (s.startTouchBack).thermal = s.thermal ∧ (s.startTouchBack).rack = s.rack := by
  unfold State.startTouchBack
  (repeat' split) <;> simp

@[simp] theorem State.startPastGate_frame (t : Start) (s : State) :
    (s.startPastGate t).pending = s.pending ∧ (s.startPastGate t).setup = s.setup ∧
    (s.startPastGate t).clock = s.clock ∧ (s.startPastGate t).estop = s.estop ∧ (s.startPastGate t).join = s.join ∧
    (s.startPastGate t).table = s.table ∧ (s.startPastGate t).part = s.part ∧
    (s.startPastGate t).thermal = s.thermal ∧ (s.startPastGate t).rack = s.rack := by
  unfold State.startPastGate
  (repeat' split) <;> simp

@[simp] theorem State.begin__frame (t : Start) (s : State) :
    (s.begin_ t).pending = s.pending ∧ (s.begin_ t).setup = s.setup ∧ (s.begin_ t).clock = s.clock ∧
    (s.begin_ t).estop = s.estop ∧ (s.begin_ t).join = s.join ∧ (s.begin_ t).table = s.table ∧
    (s.begin_ t).part = s.part ∧ (s.begin_ t).thermal = s.thermal ∧ (s.begin_ t).rack = s.rack := by
  unfold State.begin_
  dsimp only
  (repeat' split) <;> simp

@[simp] theorem State.take_frame (seg : Segment) (rest : List Segment) (s : State) :
    (s.take seg rest).pending = s.pending ∧ (s.take seg rest).setup = s.setup ∧ (s.take seg rest).clock = s.clock ∧
    (s.take seg rest).estop = s.estop ∧ (s.take seg rest).join = s.join ∧ (s.take seg rest).table = s.table ∧
    (s.take seg rest).part = s.part ∧ (s.take seg rest).thermal = s.thermal ∧ (s.take seg rest).rack = s.rack := by
  unfold State.take
  (repeat' split) <;> simp

@[simp] theorem State.resumeExcursion_frame (s : State) :
    (s.resumeExcursion).pending = s.pending ∧ (s.resumeExcursion).setup = s.setup ∧
    (s.resumeExcursion).clock = s.clock ∧ (s.resumeExcursion).estop = s.estop ∧ (s.resumeExcursion).join = s.join ∧
    (s.resumeExcursion).table = s.table ∧ (s.resumeExcursion).part = s.part ∧
    (s.resumeExcursion).thermal = s.thermal ∧ (s.resumeExcursion).rack = s.rack := by
  unfold State.resumeExcursion
  simp

end Sys2Proof.Machine
end

