-- ==== Sys2Proof/Laws/Finish.lean ====
section
/-! SUPPORT. What the arm's going on and a detach can do at the end of a command (R26, R92): the fields they leave alone, and
when they do nothing. -/

namespace Sys2Proof.Machine

open Sys2Proof

/-- One start leaves alone what every start does. -/
theorem State.advance_frame {s t : State} (h : s.advance = some t) :
    t.pending = s.pending ∧ t.setup = s.setup ∧ t.clock = s.clock ∧ t.estop = s.estop ∧ t.join = s.join ∧
    t.table = s.table ∧ t.part = s.part ∧ t.thermal = s.thermal ∧ t.rack = s.rack := by
  unfold State.advance at h
  repeat' split at h
  all_goals first
    | (obtain rfl := (Option.some.inj h).symm; simp)
    | simp at h

/-- The arm's going on, any number of starts long, leaves alone what every start does. -/
@[simp] theorem State.goOn_frame (n : Nat) (s : State) :
    (s.goOn n).pending = s.pending ∧ (s.goOn n).setup = s.setup ∧ (s.goOn n).clock = s.clock ∧
    (s.goOn n).estop = s.estop ∧ (s.goOn n).join = s.join ∧ (s.goOn n).table = s.table ∧
    (s.goOn n).part = s.part ∧ (s.goOn n).thermal = s.thermal ∧ (s.goOn n).rack = s.rack := by
  induction n generalizing s with
  | zero => simp [State.goOn]
  | succ n ih =>
    cases h : s.advance with
    | none => simp [State.goOn, h]
    | some t =>
      have f := State.advance_frame h
      have g := ih t
      simp only [State.goOn, h]
      simp [g, f]

/-- The same for the going on after a command. -/
@[simp] theorem State.settle_frame (s : State) :
    s.settle.pending = s.pending ∧ s.settle.setup = s.setup ∧ s.settle.clock = s.clock ∧ s.settle.estop = s.estop ∧
    s.settle.join = s.join ∧ s.settle.table = s.table ∧ s.settle.part = s.part ∧ s.settle.thermal = s.thermal ∧
    s.settle.rack = s.rack := by
  simp [State.settle]

/-- An arm with nothing to start does nothing. -/
theorem State.settle_of_advance_none {s : State} (h : s.advance = none) : s.settle = s := by
  simp [State.settle, State.goOn, h]

/-- With nothing to start and no detach due, a command ends with its own effects. -/
theorem State.finish_of_advance_none {s : State} (h : s.advance = none) (d : s.detachDue = none) : s.finish = s := by
  simp [State.finish, State.settle_of_advance_none h, d]

/-- Only a standing arm starts anything. -/
theorem State.advance_none_of_moving {s : State} (h : s.arm.st ≠ .still) : s.advance = none := by
  unfold State.advance
  (repeat' split) <;> first | rfl | contradiction

/-- With a detach due the arm starts nothing (R92). -/
theorem State.advance_none_of_detach {s : State} (h : s.detachDue.isSome = true) : s.advance = none := by
  simp [State.advance, h]

/-- A standing arm with nothing waiting and no segment to take starts nothing. -/
theorem State.advance_none_of_idle {s : State} (t : s.arm.todo = none) (o : s.chg.parked = false)
    (q : s.run.queue = [] ∨ s.run.st ≠ .active) : s.advance = none := by
  unfold State.advance State.mayTake
  rcases q with q | q <;> (repeat' split) <;> simp_all

/-- What a detach leaves alone (R92). -/
@[simp] theorem State.detach_frame (cause : DetachCause) (s : State) :
    (s.detach cause).pending = s.pending ∧ (s.detach cause).setup = s.setup ∧ (s.detach cause).clock = s.clock ∧
    (s.detach cause).estop = s.estop ∧ (s.detach cause).part = s.part ∧ (s.detach cause).rack = s.rack := by
  unfold State.detach
  dsimp only
  (repeat' split) <;> simp [State.enterQuiet]

/-- A detach of a station in a cell discards the table (R92). -/
theorem State.detach_table {s : State} (cause : DetachCause) (h : s.join.st = .joining ∨ s.join.st = .attached) :
    (s.detach cause).table = none := by
  unfold State.detach
  dsimp only
  rcases h with h | h <;> (repeat' split) <;> simp_all [State.enterQuiet]

@[simp] theorem State.substituteReadings_frame (gone : StationSet) (s : State) :
    (s.substituteReadings gone).pending = s.pending ∧ (s.substituteReadings gone).setup = s.setup ∧
    (s.substituteReadings gone).clock = s.clock ∧ (s.substituteReadings gone).freeCount = s.freeCount ∧
    (s.substituteReadings gone).detachDue = s.detachDue ∧ (s.substituteReadings gone).axes = s.axes ∧
    (s.substituteReadings gone).estop = s.estop ∧ (s.substituteReadings gone).lastFault = s.lastFault ∧
    (s.substituteReadings gone).arm = s.arm ∧ (s.substituteReadings gone).run = s.run ∧
    (s.substituteReadings gone).chg = s.chg ∧ (s.substituteReadings gone).qual = s.qual ∧
    (s.substituteReadings gone).soak = s.soak ∧ (s.substituteReadings gone).line = s.line ∧
    (s.substituteReadings gone).join = s.join ∧ (s.substituteReadings gone).table = s.table ∧
    (s.substituteReadings gone).agent = s.agent ∧ (s.substituteReadings gone).probes = s.probes ∧
    (s.substituteReadings gone).mounted = s.mounted ∧ (s.substituteReadings gone).head = s.head ∧
    (s.substituteReadings gone).trig = s.trig ∧ (s.substituteReadings gone).cap = s.cap ∧
    (s.substituteReadings gone).part = s.part ∧ (s.substituteReadings gone).events = s.events ∧
    (s.substituteReadings gone).rack = s.rack := by
  unfold State.substituteReadings
  simp

/-- What the end of every command leaves alone. -/
@[simp] theorem State.finish_frame (s : State) :
    s.finish.pending = s.pending ∧ s.finish.setup = s.setup ∧ s.finish.clock = s.clock ∧ s.finish.estop = s.estop ∧
    s.finish.part = s.part ∧ s.finish.rack = s.rack := by
  unfold State.finish
  dsimp only
  split <;> simp

end Sys2Proof.Machine
end

