-- ==== Sys2Proof/Laws/Command.lean ====
section
/-! SUPPORT. What the command path does with a command (R167): the five ways it can end. -/

namespace Sys2Proof.Machine

open Sys2Proof

/-- Hearing a frame does not move what the tests of a command look at. -/
@[simp] theorem State.heard_tests (p : Station) (w : Bool) (s : State) :
    (s.heard p w).line.m3 = s.line.m3 ∧ (s.heard p w).line.active = s.line.active ∧
    (s.heard p w).line.m1 = s.line.m1 ∧ (s.heard p w).line.tx = s.line.tx ∧
    (s.heard p w).line.awaiting = s.line.awaiting ∧ (s.heard p w).line.points = s.line.points ∧
    (s.heard p w).join.st = s.join.st ∧ (s.heard p w).join.leaveWait = s.join.leaveWait ∧
    (s.heard p w).join.log = s.join.log ∧ (s.heard p w).join.presences = s.join.presences ∧
    (s.heard p w).join.image = s.join.image ∧ (s.heard p w).me = s.me ∧ (s.heard p w).config = s.config ∧
    (s.heard p w).positions = s.positions ∧ (s.heard p w).setpoints = s.setpoints := by
  unfold State.heard
  split <;> simp [State.me, State.config, State.positions, State.setpoints]

@[simp] theorem State.heard_fromPlanner (p q : Station) (w : Bool) (s : State) :
    (s.heard p w).fromPlanner q = s.fromPlanner q := by
  simp [State.fromPlanner]

@[simp] theorem State.heard_commandTest (p q : Station) (w a b : Bool) (s : State) :
    (s.heard p w).commandTest q a b = s.commandTest q a b := by
  simp [State.commandTest]

/-- A frame that the station does not receive changes nothing. -/
theorem State.command_unheard {s : State} {sender : Station} (kind : Nat) (f b : Bool) (own : State → Taken)
    (h : s.receives sender = false) : s.command sender kind f b own = s := by
  simp [State.command, h]

/-- While M3 holds a REPLY a command is heard and nothing more. -/
theorem State.command_busy {s : State} {sender : Station} (kind : Nat) (f b : Bool) (own : State → Taken)
    (h : s.receives sender = true) (m : s.line.m3 ≠ none) :
    s.command sender kind f b own = s.heard sender true := by
  cases hm : s.line.m3 with
  | none => contradiction
  | some r => simp [State.command, h, hm]

/-- A command that a test refuses leaves its REPLY and nothing else. -/
theorem State.command_refused {s : State} {sender : Station} {r : Result} (kind : Nat) (f b : Bool)
    (own : State → Taken) (h : s.receives sender = true) (m : s.line.m3 = none)
    (t : s.commandTest sender f b = some r) :
    s.command sender kind f b own = (s.heard sender true).reply sender kind r [] := by
  simp [State.command, h, m, t]

/-- A command that passes the tests does what its own tests and effect give. -/
theorem State.command_listens {s : State} {sender : Station} (kind : Nat) (f : Bool) (own : State → Taken)
    (h : s.listensTo sender = true) :
    s.command sender kind f true own =
      match (own (s.heard sender true)).2 with
      | some (r, data) => (own (s.heard sender true)).1.reply sender kind r data
      | none => (own (s.heard sender true)).1 := by
  simp [State.listensTo] at h
  obtain ⟨⟨⟨⟨h1, h2⟩, h3⟩, h4⟩, h5⟩ := h
  have t : (s.heard sender true).commandTest sender f true = none := by simp [State.commandTest, h3, h4, h5]
  have m : (s.heard sender true).line.m3.isSome = false := by simp [h2]
  unfold State.command
  rw [h1]
  dsimp only
  rw [m, t]
  rfl

end Sys2Proof.Machine
end

