-- ==== Sys2Proof/Laws/Ends.lean ====
section
/-! SUPPORT. What the ends of motions, runs and excursions do to the arm and the run: the drives, the motion, the stop, what
waits to start, and how a fault leaves them (R10, R12, R22, R32, R35). -/

namespace Sys2Proof.Machine

open Sys2Proof

@[simp] theorem State.positions_mk (s : State) (v : Vec3 AxisChannel) :
    ({ s with axes := v } : State).positions = vmap (fun _ a => a.pos) v := rfl

/-- Ending a motion takes the motion away and leaves the rest of the arm. -/
@[simp] theorem State.endMotion_arm (s : State) : s.endMotion.arm = { s.arm with motion := none } := rfl

/-- A standing arm: no motion, no stop, STILL or OFF as the drives are. -/
@[simp] theorem State.standStill_arm (s : State) :
    s.standStill.arm =
      { s.arm with motion := none, st := if s.arm.energized then .still else .off, stopping := none } := rfl

@[simp] theorem State.interrupt_arm (s : State) :
    s.interrupt.arm = { s.arm with standing := s.arm.standing ||| s.arm.begun, begun := 0 } := rfl

@[simp] theorem State.arriveIn_arm (z : ZoneSet) (s : State) :
    (s.arriveIn z).arm = { s.arm with standing := z, begun := 0 } := rfl

/-- A completed motion leaves nothing begun, and the standing set as it is (R35). -/
@[simp] theorem State.moveDone_arm (s : State) : s.moveDone.arm = { s.arm with begun := 0 } := rfl

@[simp] theorem State.clearStarts_arm (s : State) :
    s.clearStarts.arm = { s.arm with todo := none, itemsHeld := false, seeks := [], markMet := false } := rfl

/-- De-energized drives (R10). -/
@[simp] theorem State.deenergize_arm (s : State) :
    s.deenergize.arm = { s.arm with motion := none, st := .off, energized := false, stopping := none } := rfl

/-- De-energizing makes each setpoint its position (R3). -/
@[simp] theorem State.deenergize_axes (s : State) :
    s.deenergize.axes = vmap (fun _ a => { a with setpoint := a.pos }) s.axes := rfl

/-- A run end leaves no run, and the arm's drives, motion and standing set as they are (R22). -/
@[simp] theorem State.endRun_run (reason : RunEndReason) (b : Byte) (s : State) :
    (s.endRun reason b).run.st = .none ∧ (s.endRun reason b).arm.st = s.arm.st ∧
    (s.endRun reason b).arm.energized = s.arm.energized ∧ (s.endRun reason b).arm.motion = s.arm.motion ∧
    (s.endRun reason b).arm.stopping = s.arm.stopping ∧ (s.endRun reason b).arm.standing = s.arm.standing ∧
    (s.endRun reason b).arm.begun = s.arm.begun ∧ (s.endRun reason b).arm.shadow = s.arm.shadow ∧
    (s.endRun reason b).arm.phys = s.arm.phys := by
  unfold State.endRun
  dsimp only
  (repeat' split) <;> simp_all [Run.cold]

/-- A run in progress that ends leaves everything of it at the values of Table 2-6 (R22). -/
theorem State.endRun_cold {s : State} (reason : RunEndReason) (b : Byte) (h : s.run.st ≠ .none) :
    (s.endRun reason b).run = Run.cold ∧ (s.endRun reason b).arm.todo = none := by
  unfold State.endRun
  dsimp only
  (repeat' split) <;> simp_all

/-- A run end keeps an empty stack empty. -/
@[simp] theorem State.endRun_stack (reason : RunEndReason) (b : Byte) (s : State) (h : s.run.stack = []) :
    (s.endRun reason b).run.stack = [] := by
  unfold State.endRun
  dsimp only
  (repeat' split) <;> simp_all [Run.cold]

/-- A run end keeps nothing that waits to start. -/
@[simp] theorem State.endRun_todo (reason : RunEndReason) (b : Byte) (s : State) (h : s.arm.todo = none) :
    (s.endRun reason b).arm.todo = none := by
  unfold State.endRun
  dsimp only
  (repeat' split) <;> simp_all

/-- The abort of a change moves only the standing set of the arm (R131). -/
@[simp] theorem State.abortChange_arm (s : State) :
    s.abortChange.arm.st = s.arm.st ∧ s.abortChange.arm.energized = s.arm.energized ∧
    s.abortChange.arm.motion = s.arm.motion ∧ s.abortChange.arm.stopping = s.arm.stopping ∧
    s.abortChange.arm.shadow = s.arm.shadow ∧ s.abortChange.arm.phys = s.arm.phys ∧
    s.abortChange.arm.todo = s.arm.todo := by
  unfold State.abortChange
  dsimp only
  (repeat' split) <;> simp

/-- No excursion stands after they are discarded (R139). -/
@[simp] theorem State.discardExcursions_run (o : QualOutcome) (s : State) :
    (s.discardExcursions o).run = { s.run with stack := [] } ∧ (s.discardExcursions o).qual = none ∧
    (s.discardExcursions o).soak = none := by
  unfold State.discardExcursions State.endQualification
  dsimp only
  (repeat' split) <;> simp

/-- A failure of everything in progress leaves the arm's drives and motion, and nothing that waits or stands on the stack. -/
@[simp] theorem State.failAll_arm (s : State) :
    s.failAll.arm.st = s.arm.st ∧ s.failAll.arm.energized = s.arm.energized ∧ s.failAll.arm.motion = s.arm.motion ∧
    s.failAll.arm.stopping = s.arm.stopping ∧ s.failAll.arm.shadow = s.arm.shadow ∧
    s.failAll.arm.phys = s.arm.phys ∧ s.failAll.arm.todo = none ∧ s.failAll.arm.begun = 0 ∧
    s.failAll.arm.standing = s.arm.standing ||| s.arm.begun ∧ s.failAll.run = { s.run with stack := [] } := by
  unfold State.failAll
  simp

/-- The same of an abort of everything in progress. -/
@[simp] theorem State.abortAll_arm (s : State) :
    s.abortAll.arm.st = s.arm.st ∧ s.abortAll.arm.energized = s.arm.energized ∧
    s.abortAll.arm.motion = s.arm.motion ∧ s.abortAll.arm.stopping = s.arm.stopping ∧
    s.abortAll.arm.shadow = s.arm.shadow ∧ s.abortAll.arm.phys = s.arm.phys ∧ s.abortAll.arm.todo = none ∧
    s.abortAll.run = { s.run with stack := [] } := by
  unfold State.abortAll
  simp

/-- A fault that de-energizes (R10, R12): the drives off, the arm OFF without motion, stop or start, no run, no excursion, the
fault shown. -/
@[simp] theorem State.faultOff_arm (r : FaultReport) (s : State) :
    (s.faultOff r).arm.st = .off ∧ (s.faultOff r).arm.energized = false ∧ (s.faultOff r).arm.motion = none ∧
    (s.faultOff r).arm.stopping = none ∧ (s.faultOff r).arm.todo = none ∧
    (s.faultOff r).arm.shadow = s.arm.shadow ∧ (s.faultOff r).run.st = .none ∧ (s.faultOff r).run.stack = [] ∧
    (s.faultOff r).lastFault = some r.code ∧
    (s.faultOff r).axes = vmap (fun _ a => { a with setpoint := a.pos }) s.axes := by
  unfold State.faultOff
  simp [State.raise, State.raiseAt]

/-- A fault of an arm at rest (R12): the drives as they are, the arm standing, no run, no excursion, the fault shown. -/
@[simp] theorem State.faultStill_arm (r : FaultReport) (s : State) :
    (s.faultStill r).arm.st = (if s.arm.energized then .still else .off) ∧
    (s.faultStill r).arm.energized = s.arm.energized ∧ (s.faultStill r).arm.motion = none ∧
    (s.faultStill r).arm.stopping = none ∧ (s.faultStill r).arm.todo = none ∧
    (s.faultStill r).arm.shadow = s.arm.shadow ∧ (s.faultStill r).run.st = .none ∧
    (s.faultStill r).run.stack = [] ∧ (s.faultStill r).lastFault = some r.code := by
  unfold State.faultStill
  simp [State.raise, State.raiseAt]

/-- DRIVES off and ESTOP (R10, R11). -/
@[simp] theorem State.cutDrives_arm (reason : RunEndReason) (s : State) :
    (s.cutDrives reason).arm.st = .off ∧ (s.cutDrives reason).arm.energized = false ∧
    (s.cutDrives reason).arm.motion = none ∧ (s.cutDrives reason).arm.stopping = none ∧
    (s.cutDrives reason).arm.todo = none ∧ (s.cutDrives reason).arm.shadow = s.arm.shadow ∧
    (s.cutDrives reason).run.st = .none ∧ (s.cutDrives reason).run.stack = [] ∧
    (s.cutDrives reason).axes = vmap (fun _ a => { a with setpoint := a.pos }) s.axes := by
  unfold State.cutDrives
  simp

/-- Whatever ends a run, its occurrence is RUN_END. -/
@[simp] theorem State.runEndEvent_kind (reason : RunEndReason) (b : Byte) (s : State) : (s.runEndEvent reason b).kind = 1 := by
  unfold State.runEndEvent
  split <;> rfl

/-- Without a detach due the run end has its own reason. -/
theorem State.runEndEvent_own (reason : RunEndReason) (b : Byte) {s : State} (h : s.detachDue = none) :
    s.runEndEvent reason b = .runEnd reason b := by
  simp [State.runEndEvent, h]

/-! ## Stops -/

/-- In the fast stop of a fault a STOP or CELL_STOP changes nothing further (R32). -/
theorem State.stopTaken_inFaultStop (reason : RunEndReason) (reasonByte : Byte) (s : State) (h : s.inFaultStop = true) :
    s.stopTaken reason reasonByte = s := by simp [State.stopTaken, h]

/-- Outside it, it is the stop of R23. -/
theorem State.stopTaken_otherwise (reason : RunEndReason) (reasonByte : Byte) (s : State) (h : s.inFaultStop = false) :
    s.stopTaken reason reasonByte = s.stopAll reason reasonByte := by simp [State.stopTaken, h]

end Sys2Proof.Machine
end

