-- ==== Sys2Proof/Laws/Inputs.lean ====
section
/-! SUPPORT. The machine-side inputs and scale counts: no operation of the motion controller, the change controller, the line or
the table changes an axis's count or input levels, the trigger level, or the head's seated state (sections 1.2, 1.3, 6.1). -/

namespace Sys2Proof.Machine

open Sys2Proof

/-- The counts and input levels of the three axes. -/
def axisInputs (v : Vec3 AxisChannel) : Vec3 (BitVec 32 × Bool × Bool × Bool) := vmap (fun _ a => a.inputs) v

@[simp] theorem axisInputs_setpoint (f : AxisName → AxisChannel → Lu) (v : Vec3 AxisChannel) :
    axisInputs (vmap (fun n a => { a with setpoint := f n a }) v) = axisInputs v := rfl

@[simp] theorem axisInputs_referenced (b : Bool) (a : AxisName) (v : Vec3 AxisChannel) :
    axisInputs (vset v a { vget v a with referenced := b }) = axisInputs v := by cases a <;> rfl

/-- The counts and input levels of one axis. -/
theorem axisInputs_get {v w : Vec3 AxisChannel} (h : axisInputs v = axisInputs w) (a : AxisName) :
    (vget v a).inputs = (vget w a).inputs := by
  injection h with x y z
  cases a <;> assumption

@[simp] theorem State.moveSetpoints_inputs (v : Vec3 Lu) (s : State) :
    axisInputs (s.moveSetpoints v).axes = axisInputs s.axes := by
  rfl

@[simp] theorem State.holdSetpoints_inputs (s : State) :
    axisInputs (s.holdSetpoints).axes = axisInputs s.axes := by
  rfl

@[simp] theorem State.reloadPositions_inputs (s : State) :
    axisInputs (s.reloadPositions).axes = axisInputs s.axes := by
  rfl

@[simp] theorem State.leaveShadow_inputs (s : State) : axisInputs s.leaveShadow.axes = axisInputs s.axes :=
  s.reloadPositions_inputs

@[simp] theorem State.requestPulse_inputs (kind : PulseKind) (change : Nat) (s : State) :
    (s.requestPulse kind change).head.seated = s.head.seated := by
  unfold State.requestPulse
  dsimp only
  split <;> rfl

@[simp] theorem State.requestRead_inputs (f : IdRead → IdRead) (s : State) :
    (s.requestRead f).head.seated = s.head.seated := by
  unfold State.requestRead
  simp

@[simp] theorem State.dropLatch_inputs (s : State) :
    (s.dropLatch).trig.high = s.trig.high := by
  unfold State.dropLatch
  simp

@[simp] theorem State.endMotion_inputs (s : State) :
    (s.endMotion).trig.high = s.trig.high := by
  unfold State.endMotion
  simp

@[simp] theorem State.standStill_inputs (s : State) :
    (s.standStill).trig.high = s.trig.high := by
  unfold State.standStill
  simp

@[simp] theorem State.deenergize_inputs (s : State) :
    axisInputs (s.deenergize).axes = axisInputs s.axes ∧ (s.deenergize).trig.high = s.trig.high := by
  simp [State.deenergize, State.holdSetpoints]

@[simp] theorem State.judgeHead_inputs (outcome : ChangeOutcome) (s : State) :
    (s.judgeHead outcome).head.seated = s.head.seated := by
  unfold State.judgeHead
  (repeat' split) <;> simp

theorem State.judgeHeads_inputs (ws : List (Nat × ChangeOutcome)) (s : State) :
    (ws.foldl (fun (s : State) (w : Nat × ChangeOutcome) => s.judgeHead w.2) s).head.seated = s.head.seated := by
  induction ws generalizing s with
  | nil => simp
  | cons w ws ih => simpa using ih (s.judgeHead w.2)

@[simp] theorem State.closeWindows_inputs (s : State) : s.closeWindows.head.seated = s.head.seated := by
  unfold State.closeWindows
  exact State.judgeHeads_inputs _ _

@[simp] theorem State.askPulse_inputs (kind : PulseKind) (r : ChangeRecord) (s : State) :
    (s.askPulse kind r).head.seated = s.head.seated := by
  simp [State.askPulse]

@[simp] theorem State.discardWaiting_inputs (s : State) : s.discardWaiting.head.seated = s.head.seated := by
  simp [State.discardWaiting]

@[simp] theorem State.endChange_inputs (outcome : ChangeOutcome) (r : ChangeRecord) (s : State) :
    (s.endChange outcome r).head.seated = s.head.seated := by
  unfold State.endChange
  (repeat' split) <;> simp

@[simp] theorem State.abortChange_inputs (s : State) :
    (s.abortChange).head.seated = s.head.seated := by
  unfold State.abortChange
  dsimp only
  (repeat' split) <;> simp

@[simp] theorem State.failChange_inputs (s : State) :
    (s.failChange).head.seated = s.head.seated := by
  unfold State.failChange
  (repeat' split) <;> simp

@[simp] theorem State.failAll_inputs (s : State) :
    (s.failAll).head.seated = s.head.seated := by
  unfold State.failAll
  simp

@[simp] theorem State.faultOff_inputs (r : FaultReport) (s : State) :
    axisInputs (s.faultOff r).axes = axisInputs s.axes ∧ (s.faultOff r).trig.high = s.trig.high ∧
    (s.faultOff r).head.seated = s.head.seated := by
  unfold State.faultOff
  simp

@[simp] theorem State.faultStill_inputs (r : FaultReport) (s : State) :
    (s.faultStill r).trig.high = s.trig.high ∧ (s.faultStill r).head.seated = s.head.seated := by
  unfold State.faultStill
  simp

@[simp] theorem State.faultFast_inputs (r : FaultReport) (position : Vec3 Lu) (s : State) :
    (s.faultFast r position).trig.high = s.trig.high ∧ (s.faultFast r position).head.seated = s.head.seated := by
  unfold State.faultFast
  dsimp only
  (repeat' split) <;> simp

@[simp] theorem State.abortAll_inputs (s : State) :
    (s.abortAll).head.seated = s.head.seated := by
  unfold State.abortAll
  simp

@[simp] theorem State.bringToRest_inputs (after : AfterStop) (s : State) :
    (s.bringToRest after).trig.high = s.trig.high := by
  unfold State.bringToRest
  split
  · rfl
  · simp

@[simp] theorem State.stopAll_inputs (reason : RunEndReason) (reasonByte : Byte) (s : State) :
    (s.stopAll reason reasonByte).trig.high = s.trig.high ∧ (s.stopAll reason reasonByte).head.seated = s.head.seated := by
  unfold State.stopAll
  dsimp only
  (repeat' split) <;> simp

@[simp] theorem State.stopTaken_inputs (reason : RunEndReason) (reasonByte : Byte) (s : State) :
    (s.stopTaken reason reasonByte).trig.high = s.trig.high ∧ (s.stopTaken reason reasonByte).head.seated = s.head.seated := by
  unfold State.stopTaken
  split <;> simp

@[simp] theorem State.cutDrives_inputs (reason : RunEndReason) (s : State) :
    axisInputs (s.cutDrives reason).axes = axisInputs s.axes ∧ (s.cutDrives reason).trig.high = s.trig.high ∧
    (s.cutDrives reason).head.seated = s.head.seated := by
  unfold State.cutDrives
  simp

@[simp] theorem State.formMotion_inputs (m : Motion) (s : State) :
    (s.formMotion m).trig.high = s.trig.high := by
  unfold State.formMotion
  simp

@[simp] theorem State.startStraight_inputs (act : MotionAct) (origin : Origin) (target : Vec3 Lu) (feed : BitVec 16) (required : ZoneSet) (s : State) :
    axisInputs (s.startStraight act origin target feed required).axes = axisInputs s.axes ∧
    (s.startStraight act origin target feed required).trig.high = s.trig.high ∧
    (s.startStraight act origin target feed required).head.seated = s.head.seated := by
  unfold State.startStraight
  (repeat' split) <;> simp

@[simp] theorem State.standInPlace_inputs (s : State) :
    (s.standInPlace).trig.high = s.trig.high := by
  unfold State.standInPlace
  simp

@[simp] theorem State.reachTarget_inputs (s : State) :
    axisInputs (s.reachTarget).axes = axisInputs s.axes := by
  unfold State.reachTarget
  (repeat' split) <;> simp

@[simp] theorem State.pushOut_inputs (kind : ExcursionKind) (need : Option ZoneSet) (serves : Bool) (s : State) :
    axisInputs (s.pushOut kind need serves).axes = axisInputs s.axes ∧
    (s.pushOut kind need serves).trig.high = s.trig.high ∧ (s.pushOut kind need serves).head.seated = s.head.seated := by
  unfold State.pushOut
  simp

@[simp] theorem State.pushChange_inputs (target : ProbeId) (serves : Bool) (s : State) :
    axisInputs (s.pushChange target serves).axes = axisInputs s.axes ∧
    (s.pushChange target serves).trig.high = s.trig.high ∧ (s.pushChange target serves).head.seated = s.head.seated := by
  unfold State.pushChange
  simp

@[simp] theorem State.completeSegment_inputs (outcome : SegOutcome) (endSet : ZoneSet) (hold : Bool) (s : State) :
    (s.completeSegment outcome endSet hold).trig.high = s.trig.high := by
  unfold State.completeSegment
  dsimp only
  (repeat' split) <;> simp

@[simp] theorem State.goToTouch_inputs (q : Qualification) (touch : Nat) (s : State) :
    axisInputs (s.goToTouch q touch).axes = axisInputs s.axes ∧ (s.goToTouch q touch).trig.high = s.trig.high ∧
    (s.goToTouch q touch).head.seated = s.head.seated := by
  unfold State.goToTouch
  (repeat' split) <;> simp

@[simp] theorem State.beginTouches_inputs (s : State) :
    axisInputs (s.beginTouches).axes = axisInputs s.axes ∧ (s.beginTouches).trig.high = s.trig.high ∧
    (s.beginTouches).head.seated = s.head.seated := by
  unfold State.beginTouches
  (repeat' split) <;> simp

@[simp] theorem State.pop_inputs (s : State) :
    axisInputs (s.pop).axes = axisInputs s.axes ∧ (s.pop).trig.high = s.trig.high ∧
    (s.pop).head.seated = s.head.seated := by
  unfold State.pop
  dsimp only
  (repeat' split) <;> simp

@[simp] theorem State.afterChange_inputs (s : State) :
    axisInputs (s.afterChange).axes = axisInputs s.axes ∧ (s.afterChange).trig.high = s.trig.high ∧
    (s.afterChange).head.seated = s.head.seated := by
  unfold State.afterChange
  (repeat' split) <;> simp

@[simp] theorem State.claimSlots_inputs (pick : Fin 8) (drop : Option (Fin 8)) (s : State) :
    axisInputs (s.claimSlots pick drop).axes = axisInputs s.axes ∧ (s.claimSlots pick drop).trig.high = s.trig.high ∧
    (s.claimSlots pick drop).head.seated = s.head.seated := by
  unfold State.claimSlots
  simp

@[simp] theorem State.chooseSlots_inputs (r : ChangeRecord) (s : State) :
    axisInputs (s.chooseSlots r).axes = axisInputs s.axes ∧ (s.chooseSlots r).trig.high = s.trig.high ∧
    (s.chooseSlots r).head.seated = s.head.seated := by
  unfold State.chooseSlots
  (repeat' split) <;> simp

@[simp] theorem State.beginChange_inputs (s : State) :
    axisInputs (s.beginChange).axes = axisInputs s.axes ∧ (s.beginChange).trig.high = s.trig.high ∧
    (s.beginChange).head.seated = s.head.seated := by
  unfold State.beginChange
  (repeat' split) <;> simp

@[simp] theorem State.changeHeld_inputs (s : State) :
    axisInputs (s.changeHeld).axes = axisInputs s.axes ∧ (s.changeHeld).trig.high = s.trig.high ∧
    (s.changeHeld).head.seated = s.head.seated := by
  unfold State.changeHeld
  (repeat' split) <;> simp

@[simp] theorem State.startChangeMove_inputs (m : ChangeMove) (s : State) :
    axisInputs (s.startChangeMove m).axes = axisInputs s.axes ∧ (s.startChangeMove m).trig.high = s.trig.high ∧
    (s.startChangeMove m).head.seated = s.head.seated := by
  unfold State.startChangeMove
  (repeat' split) <;> simp

@[simp] theorem State.queueSlotSet_inputs (slot : Option (Fin 8)) (contents : Contents) (s : State) :
    axisInputs (s.queueSlotSet slot contents).axes = axisInputs s.axes ∧
    (s.queueSlotSet slot contents).trig.high = s.trig.high ∧
    (s.queueSlotSet slot contents).head.seated = s.head.seated := by
  unfold State.queueSlotSet
  (repeat' split) <;> simp

@[simp] theorem State.pulseStep_inputs (step : ChangeStep) (kind : PulseKind) (s : State) :
    axisInputs (s.pulseStep step kind).axes = axisInputs s.axes ∧ (s.pulseStep step kind).trig.high = s.trig.high ∧
    (s.pulseStep step kind).head.seated = s.head.seated := by
  unfold State.pulseStep
  dsimp only
  (repeat' split) <;> simp

@[simp] theorem State.leaveDock_inputs (m : ChangeMove) (s : State) :
    axisInputs (s.leaveDock m).axes = axisInputs s.axes ∧ (s.leaveDock m).trig.high = s.trig.high ∧
    (s.leaveDock m).head.seated = s.head.seated := by
  unfold State.leaveDock
  simp

@[simp] theorem State.headEmptied_inputs (r : ChangeRecord) (s : State) :
    axisInputs (s.headEmptied r).axes = axisInputs s.axes ∧ (s.headEmptied r).trig.high = s.trig.high ∧
    (s.headEmptied r).head.seated = s.head.seated := by
  unfold State.headEmptied
  dsimp only
  (repeat' split) <;> simp

@[simp] theorem State.unlockEnded_inputs (r : ChangeRecord) (s : State) :
    axisInputs (s.unlockEnded r).axes = axisInputs s.axes ∧ (s.unlockEnded r).trig.high = s.trig.high ∧
    (s.unlockEnded r).head.seated = s.head.seated := by
  unfold State.unlockEnded
  (repeat' split) <;> simp

@[simp] theorem State.headSeated_inputs (r : ChangeRecord) (s : State) :
    axisInputs (s.headSeated r).axes = axisInputs s.axes ∧ (s.headSeated r).trig.high = s.trig.high ∧
    (s.headSeated r).head.seated = s.head.seated := by
  unfold State.headSeated
  (repeat' split) <;> simp

@[simp] theorem State.lockEnded_inputs (r : ChangeRecord) (s : State) :
    axisInputs (s.lockEnded r).axes = axisInputs s.axes ∧ (s.lockEnded r).trig.high = s.trig.high ∧
    (s.lockEnded r).head.seated = s.head.seated := by
  unfold State.lockEnded
  (repeat' split) <;> simp

@[simp] theorem State.pulseEnded_inputs (s : State) :
    axisInputs (s.pulseEnded).axes = axisInputs s.axes ∧ (s.pulseEnded).trig.high = s.trig.high ∧
    (s.pulseEnded).head.seated = s.head.seated := by
  unfold State.pulseEnded
  (repeat' split) <;> simp

@[simp] theorem State.unlockStuck_inputs (r : ChangeRecord) (s : State) :
    axisInputs (s.unlockStuck r).axes = axisInputs s.axes ∧ (s.unlockStuck r).trig.high = s.trig.high ∧
    (s.unlockStuck r).head.seated = s.head.seated := by
  unfold State.unlockStuck
  simp

@[simp] theorem State.lockEmpty_inputs (r : ChangeRecord) (s : State) :
    axisInputs (s.lockEmpty r).axes = axisInputs s.axes ∧ (s.lockEmpty r).trig.high = s.trig.high ∧
    (s.lockEmpty r).head.seated = s.head.seated := by
  unfold State.lockEmpty
  simp

@[simp] theorem State.identified_inputs (r : ChangeRecord) (result : ReadResult) (s : State) :
    axisInputs (s.identified r result).axes = axisInputs s.axes ∧ (s.identified r result).trig.high = s.trig.high ∧
    (s.identified r result).head.seated = s.head.seated := by
  unfold State.identified
  (repeat' split) <;> simp

@[simp] theorem State.raiseFailing_inputs (r : ChangeRecord) (f : FaultCode) (s : State) :
    axisInputs (s.raiseFailing r f).axes = axisInputs s.axes ∧ (s.raiseFailing r f).trig.high = s.trig.high ∧
    (s.raiseFailing r f).head.seated = s.head.seated := by
  unfold State.raiseFailing
  (repeat' split) <;> simp

@[simp] theorem State.judgeIdentity_inputs (r : ChangeRecord) (s : State) :
    axisInputs (s.judgeIdentity r).axes = axisInputs s.axes ∧ (s.judgeIdentity r).trig.high = s.trig.high ∧
    (s.judgeIdentity r).head.seated = s.head.seated := by
  unfold State.judgeIdentity
  (repeat' split) <;> simp

@[simp] theorem State.changeArrived_inputs (m : ChangeMove) (r : ChangeRecord) (s : State) :
    axisInputs (s.changeArrived m r).axes = axisInputs s.axes ∧ (s.changeArrived m r).trig.high = s.trig.high ∧
    (s.changeArrived m r).head.seated = s.head.seated := by
  unfold State.changeArrived
  (repeat' split) <;> simp

@[simp] theorem State.finishChange_inputs (s : State) :
    axisInputs (s.finishChange).axes = axisInputs s.axes ∧ (s.finishChange).trig.high = s.trig.high ∧
    (s.finishChange).head.seated = s.head.seated := by
  unfold State.finishChange
  dsimp only
  split <;> simp

@[simp] theorem State.changeReleased_inputs (items : ItemSet) (s : State) :
    axisInputs (s.changeReleased items).axes = axisInputs s.axes ∧ (s.changeReleased items).trig.high = s.trig.high ∧
    (s.changeReleased items).head.seated = s.head.seated := by
  unfold State.changeReleased
  (repeat' split) <;> simp

@[simp] theorem State.gateItems_inputs (t : Start) (s : State) :
    axisInputs (s.gateItems t).1.axes = axisInputs s.axes ∧ (s.gateItems t).1.trig.high = s.trig.high ∧
    (s.gateItems t).1.head.seated = s.head.seated := by
  unfold State.gateItems
  dsimp only
  (repeat' split) <;> simp

@[simp] theorem State.startTravel_inputs (probing : Bool) (t : TravelSpec) (s : State) :
    axisInputs (s.startTravel probing t).axes = axisInputs s.axes ∧
    (s.startTravel probing t).trig.high = s.trig.high ∧
    (s.startTravel probing t).head.seated = s.head.seated := by
  unfold State.startTravel
  dsimp only
  (repeat' split) <;> simp

@[simp] theorem State.probePastRing_inputs (s : State) :
    axisInputs (s.probePastRing).axes = axisInputs s.axes ∧ (s.probePastRing).trig.high = s.trig.high ∧
    (s.probePastRing).head.seated = s.head.seated := by
  unfold State.probePastRing
  (repeat' split) <;> simp

@[simp] theorem State.startProbe_inputs (t : TravelSpec) (s : State) :
    axisInputs (s.startProbe t).axes = axisInputs s.axes ∧ (s.startProbe t).trig.high = s.trig.high ∧
    (s.startProbe t).head.seated = s.head.seated := by
  unfold State.startProbe State.gateRing
  dsimp only
  (repeat' split) <;> simp

@[simp] theorem State.startSegment_inputs (s : State) :
    axisInputs (s.startSegment).axes = axisInputs s.axes ∧ (s.startSegment).trig.high = s.trig.high ∧
    (s.startSegment).head.seated = s.head.seated := by
  unfold State.startSegment State.withReferences
  (repeat' split) <;> simp

@[simp] theorem State.startDwell_inputs (left : BitVec 16) (s : State) :
    axisInputs (s.startDwell left).axes = axisInputs s.axes ∧ (s.startDwell left).trig.high = s.trig.high ∧
    (s.startDwell left).head.seated = s.head.seated := by
  unfold State.startDwell
  simp

@[simp] theorem State.startBackOff_inputs (target : Vec3 Lu) (thenHeld : Bool) (s : State) :
    axisInputs (s.startBackOff target thenHeld).axes = axisInputs s.axes ∧
    (s.startBackOff target thenHeld).trig.high = s.trig.high ∧
    (s.startBackOff target thenHeld).head.seated = s.head.seated := by
  unfold State.startBackOff
  (repeat' split) <;> simp

@[simp] theorem State.nextSeek_inputs (s : State) :
    axisInputs (s.nextSeek).axes = axisInputs s.axes ∧ (s.nextSeek).trig.high = s.trig.high ∧
    (s.nextSeek).head.seated = s.head.seated := by
  unfold State.nextSeek
  dsimp only
  (repeat' split) <;> simp

@[simp] theorem State.startHome_inputs (s : State) :
    axisInputs (s.startHome).axes = axisInputs s.axes ∧ (s.startHome).trig.high = s.trig.high ∧
    (s.startHome).head.seated = s.head.seated := by
  unfold State.startHome
  (repeat' split) <;> simp

@[simp] theorem State.startMoveOut_inputs (s : State) :
    axisInputs (s.startMoveOut).axes = axisInputs s.axes ∧ (s.startMoveOut).trig.high = s.trig.high ∧
    (s.startMoveOut).head.seated = s.head.seated := by
  unfold State.startMoveOut State.withReferences
  (repeat' split) <;> simp

@[simp] theorem State.startReturnMove_inputs (s : State) :
    axisInputs (s.startReturnMove).axes = axisInputs s.axes ∧ (s.startReturnMove).trig.high = s.trig.high ∧
    (s.startReturnMove).head.seated = s.head.seated := by
  unfold State.startReturnMove
  (repeat' split) <;> simp

@[simp] theorem State.startReturn_inputs (s : State) :
    axisInputs (s.startReturn).axes = axisInputs s.axes ∧ (s.startReturn).trig.high = s.trig.high ∧
    (s.startReturn).head.seated = s.head.seated := by
  unfold State.startReturn
  (repeat' split) <;> simp

@[simp] theorem State.startLeg_inputs (s : State) :
    axisInputs (s.startLeg).axes = axisInputs s.axes ∧ (s.startLeg).trig.high = s.trig.high ∧
    (s.startLeg).head.seated = s.head.seated := by
  unfold State.startLeg
  (repeat' split) <;> simp

@[simp] theorem State.touchPastRing_inputs (s : State) :
    axisInputs (s.touchPastRing).axes = axisInputs s.axes ∧ (s.touchPastRing).trig.high = s.trig.high ∧
    (s.touchPastRing).head.seated = s.head.seated := by
  unfold State.touchPastRing
  (repeat' split) <;> simp

@[simp] theorem State.startTouch_inputs (s : State) :
    axisInputs (s.startTouch).axes = axisInputs s.axes ∧ (s.startTouch).trig.high = s.trig.high ∧
    (s.startTouch).head.seated = s.head.seated := by
  unfold State.startTouch State.gateRing
  dsimp only
  (repeat' split) <;> simp

@[simp] theorem State.startTouchBack_inputs (s : State) :
    axisInputs (s.startTouchBack).axes = axisInputs s.axes ∧ (s.startTouchBack).trig.high = s.trig.high ∧
    (s.startTouchBack).head.seated = s.head.seated := by
  unfold State.startTouchBack
  (repeat' split) <;> simp

@[simp] theorem State.startPastGate_inputs (t : Start) (s : State) :
    axisInputs (s.startPastGate t).axes = axisInputs s.axes ∧ (s.startPastGate t).trig.high = s.trig.high ∧
    (s.startPastGate t).head.seated = s.head.seated := by
  unfold State.startPastGate
  (repeat' split) <;> simp

@[simp] theorem State.begin__inputs (t : Start) (s : State) :
    axisInputs (s.begin_ t).axes = axisInputs s.axes ∧ (s.begin_ t).trig.high = s.trig.high ∧
    (s.begin_ t).head.seated = s.head.seated := by
  unfold State.begin_
  dsimp only
  (repeat' split) <;> simp

@[simp] theorem State.take_inputs (seg : Segment) (rest : List Segment) (s : State) :
    axisInputs (s.take seg rest).axes = axisInputs s.axes ∧ (s.take seg rest).trig.high = s.trig.high ∧
    (s.take seg rest).head.seated = s.head.seated := by
  unfold State.take
  (repeat' split) <;> simp

@[simp] theorem State.resumeExcursion_inputs (s : State) :
    axisInputs (s.resumeExcursion).axes = axisInputs s.axes ∧ (s.resumeExcursion).trig.high = s.trig.high ∧
    (s.resumeExcursion).head.seated = s.head.seated := by
  simp [State.resumeExcursion]

/-- One start leaves the inputs alone. -/
theorem State.advance_inputs {s t : State} (h : s.advance = some t) :
    axisInputs t.axes = axisInputs s.axes ∧ t.trig.high = s.trig.high ∧ t.head.seated = s.head.seated := by
  unfold State.advance at h
  repeat' split at h
  all_goals first
    | (obtain rfl := (Option.some.inj h).symm; simp)
    | simp at h

/-- The arm's going on leaves the inputs alone. -/
@[simp] theorem State.goOn_inputs (n : Nat) (s : State) :
    axisInputs (s.goOn n).axes = axisInputs s.axes ∧ (s.goOn n).trig.high = s.trig.high ∧
    (s.goOn n).head.seated = s.head.seated := by
  induction n generalizing s with
  | zero => simp [State.goOn]
  | succ n ih =>
    cases h : s.advance with
    | none => simp [State.goOn, h]
    | some t =>
      have f := State.advance_inputs h
      have g := ih t
      simp only [State.goOn, h]
      simp [g, f]

@[simp] theorem State.settle_inputs (s : State) :
    axisInputs s.settle.axes = axisInputs s.axes ∧ s.settle.trig.high = s.trig.high ∧
    s.settle.head.seated = s.head.seated := by
  simp [State.settle]

@[simp] theorem State.claimTimedOut_inputs (r : Option (Requester × ItemSet)) (s : State) :
    axisInputs (s.claimTimedOut r).axes = axisInputs s.axes ∧ (s.claimTimedOut r).trig.high = s.trig.high ∧
    (s.claimTimedOut r).head.seated = s.head.seated := by
  unfold State.claimTimedOut
  (repeat' split) <;> simp

@[simp] theorem State.enterQuiet_inputs (s : State) :
    axisInputs (s.enterQuiet).axes = axisInputs s.axes ∧ (s.enterQuiet).trig.high = s.trig.high ∧
    (s.enterQuiet).head.seated = s.head.seated := by
  unfold State.enterQuiet
  dsimp only
  simp

@[simp] theorem State.detach_inputs (cause : DetachCause) (s : State) :
    axisInputs (s.detach cause).axes = axisInputs s.axes ∧ (s.detach cause).trig.high = s.trig.high ∧
    (s.detach cause).head.seated = s.head.seated := by
  unfold State.detach
  dsimp only
  (repeat' split) <;> simp

@[simp] theorem State.finish_inputs (s : State) :
    axisInputs (s.finish).axes = axisInputs s.axes ∧ (s.finish).trig.high = s.trig.high ∧
    (s.finish).head.seated = s.head.seated := by
  unfold State.finish
  dsimp only
  (repeat' split) <;> simp

@[simp] theorem State.failJoin_inputs (s : State) :
    axisInputs (s.failJoin).axes = axisInputs s.axes ∧ (s.failJoin).trig.high = s.trig.high ∧
    (s.failJoin).head.seated = s.head.seated := by
  unfold State.failJoin
  dsimp only
  simp

@[simp] theorem State.heardCell_inputs (s : State) :
    axisInputs (s.heardCell).axes = axisInputs s.axes ∧ (s.heardCell).trig.high = s.trig.high ∧
    (s.heardCell).head.seated = s.head.seated := by
  unfold State.heardCell
  (repeat' split) <;> simp

@[simp] theorem State.checkMounted_inputs (s : State) :
    axisInputs (s.checkMounted).axes = axisInputs s.axes ∧ (s.checkMounted).trig.high = s.trig.high ∧
    (s.checkMounted).head.seated = s.head.seated := by
  unfold State.checkMounted
  (repeat' split) <;> simp

@[simp] theorem State.queueSlotSense_inputs (s : State) :
    axisInputs (s.queueSlotSense).axes = axisInputs s.axes ∧ (s.queueSlotSense).trig.high = s.trig.high ∧
    (s.queueSlotSense).head.seated = s.head.seated := by
  unfold State.queueSlotSense
  (repeat' split) <;> simp

@[simp] theorem State.reportRack_inputs (s : State) :
    axisInputs (s.reportRack).axes = axisInputs s.axes ∧ (s.reportRack).trig.high = s.trig.high ∧
    (s.reportRack).head.seated = s.head.seated := by
  unfold State.reportRack
  (repeat' split) <;> simp

@[simp] theorem State.startTiming_inputs (t : Table) (s : State) :
    axisInputs (s.startTiming t).axes = axisInputs s.axes ∧ (s.startTiming t).trig.high = s.trig.high ∧
    (s.startTiming t).head.seated = s.head.seated := by
  unfold State.startTiming
  dsimp only
  simp

@[simp] theorem State.becomeAttached_inputs (t : Table) (s : State) :
    axisInputs (s.becomeAttached t).axes = axisInputs s.axes ∧ (s.becomeAttached t).trig.high = s.trig.high ∧
    (s.becomeAttached t).head.seated = s.head.seated := by
  unfold State.becomeAttached
  dsimp only
  (repeat' split) <;> simp

@[simp] theorem State.found_inputs (f : JoinFields) (s : State) :
    axisInputs (s.found f).axes = axisInputs s.axes ∧ (s.found f).trig.high = s.trig.high ∧
    (s.found f).head.seated = s.head.seated := by
  unfold State.found
  dsimp only
  simp

@[simp] theorem State.loseOwner_inputs (gone : StationSet) (s : State) :
    axisInputs (s.loseOwner gone).axes = axisInputs s.axes ∧ (s.loseOwner gone).trig.high = s.trig.high ∧
    (s.loseOwner gone).head.seated = s.head.seated := by
  unfold State.loseOwner
  (repeat' split) <;> simp

@[simp] theorem State.lineApplied_inputs (p : Station) (f : ShareFrame) (gone : StationSet) (s : State) :
    axisInputs (s.lineApplied p f gone).axes = axisInputs s.axes ∧ (s.lineApplied p f gone).trig.high = s.trig.high ∧
    (s.lineApplied p f gone).head.seated = s.head.seated := by
  unfold State.lineApplied
  dsimp only
  simp

@[simp] theorem State.snapshotApplied_inputs (a : Applied) (s : State) :
    axisInputs (s.snapshotApplied a).axes = axisInputs s.axes ∧ (s.snapshotApplied a).trig.high = s.trig.high ∧
    (s.snapshotApplied a).head.seated = s.head.seated := by
  unfold State.snapshotApplied
  dsimp only
  (repeat' split) <;> simp

@[simp] theorem State.blocksAct_inputs (p : Station) (f : ShareFrame) (gone : StationSet) (a : Applied) (s : State) :
    axisInputs (s.blocksAct p f gone a).axes = axisInputs s.axes ∧ (s.blocksAct p f gone a).trig.high = s.trig.high ∧
    (s.blocksAct p f gone a).head.seated = s.head.seated := by
  unfold State.blocksAct
  dsimp only
  (repeat' split) <;> simp

@[simp] theorem State.applyShare_inputs (t : Table) (p : Station) (f : ShareFrame) (s : State) :
    axisInputs (s.applyShare t p f).axes = axisInputs s.axes ∧ (s.applyShare t p f).trig.high = s.trig.high ∧
    (s.applyShare t p f).head.seated = s.head.seated := by
  unfold State.applyShare
  dsimp only
  (repeat' split) <;> simp

@[simp] theorem State.logShare_inputs (p : Station) (seq : BitVec 16) (f : ShareFrame) (s : State) :
    axisInputs (s.logShare p seq f).axes = axisInputs s.axes ∧ (s.logShare p seq f).trig.high = s.trig.high ∧
    (s.logShare p seq f).head.seated = s.head.seated := by
  unfold State.logShare
  dsimp only
  (repeat' split) <;> simp

@[simp] theorem State.keepFoundingImage_inputs (p : Station) (f : JoinFields) (s : State) :
    axisInputs (s.keepFoundingImage p f).axes = axisInputs s.axes ∧
    (s.keepFoundingImage p f).trig.high = s.trig.high ∧ (s.keepFoundingImage p f).head.seated = s.head.seated := by
  unfold State.keepFoundingImage
  dsimp only
  simp

@[simp] theorem State.listenShare_inputs (p : Station) (f : ShareFrame) (s : State) :
    axisInputs (s.listenShare p f).axes = axisInputs s.axes ∧ (s.listenShare p f).trig.high = s.trig.high ∧
    (s.listenShare p f).head.seated = s.head.seated := by
  unfold State.listenShare
  dsimp only
  (repeat' split) <;> simp

@[simp] theorem State.joinUnitTakes_inputs (p : Station) (seq : BitVec 16) (f : ShareFrame) (s : State) :
    axisInputs (s.joinUnitTakes p seq f).axes = axisInputs s.axes ∧ (s.joinUnitTakes p seq f).trig.high = s.trig.high ∧
    (s.joinUnitTakes p seq f).head.seated = s.head.seated := by
  unfold State.joinUnitTakes
  (repeat' split) <;> simp

@[simp] theorem State.shareReceived_inputs (p : Station) (seq : BitVec 16) (f : ShareFrame) (s : State) :
    axisInputs (s.shareReceived p seq f).axes = axisInputs s.axes ∧
    (s.shareReceived p seq f).trig.high = s.trig.high ∧ (s.shareReceived p seq f).head.seated = s.head.seated := by
  unfold State.shareReceived
  dsimp only
  (repeat' split) <;> simp

@[simp] theorem State.adopt_inputs (t : Table) (s : State) :
    axisInputs (s.adopt t).axes = axisInputs s.axes ∧ (s.adopt t).trig.high = s.trig.high ∧
    (s.adopt t).head.seated = s.head.seated := by
  unfold State.adopt
  dsimp only
  simp

@[simp] theorem State.collect_inputs (part : SnapshotPart) (s : State) :
    axisInputs (s.collect part).axes = axisInputs s.axes ∧ (s.collect part).trig.high = s.trig.high ∧
    (s.collect part).head.seated = s.head.seated := by
  unfold State.collect
  dsimp only
  (repeat' split) <;> simp

@[simp] theorem State.append_inputs (sender : Station) (seg : Segment) (s : State) :
    axisInputs (s.append sender seg).axes = axisInputs s.axes ∧ (s.append sender seg).trig.high = s.trig.high ∧
    (s.append sender seg).head.seated = s.head.seated := by
  unfold State.append
  dsimp only
  (repeat' split) <;> simp

@[simp] theorem State.holdStill_inputs (t : Option Start) (s : State) :
    axisInputs (s.holdStill t).axes = axisInputs s.axes ∧ (s.holdStill t).trig.high = s.trig.high ∧
    (s.holdStill t).head.seated = s.head.seated := by
  unfold State.holdStill
  dsimp only
  simp

@[simp] theorem State.holdMoving_inputs (s : State) :
    axisInputs (s.holdMoving).axes = axisInputs s.axes ∧ (s.holdMoving).trig.high = s.trig.high ∧
    (s.holdMoving).head.seated = s.head.seated := by
  unfold State.holdMoving
  dsimp only
  (repeat' split) <;> simp

@[simp] theorem State.holdEffect_inputs (s : State) :
    axisInputs (s.holdEffect).axes = axisInputs s.axes ∧ (s.holdEffect).trig.high = s.trig.high ∧
    (s.holdEffect).head.seated = s.head.seated := by
  unfold State.holdEffect
  dsimp only
  (repeat' split) <;> simp

end Sys2Proof.Machine
end

