-- ==== Sys2Proof/Laws/Rows.lean ====
section
/-! SUPPORT. What the operations of the commands' own files leave alone: the queue, start-up, the clock, the part data, the rack
presences and the machine-side inputs. -/

namespace Sys2Proof.Machine

open Sys2Proof

@[simp] theorem State.claimTimedOut_keeps (r : Option (Requester × ItemSet)) (s : State) :
    (s.claimTimedOut r).pending = s.pending ∧ (s.claimTimedOut r).setup = s.setup ∧
    (s.claimTimedOut r).clock = s.clock ∧ (s.claimTimedOut r).estop = s.estop ∧ (s.claimTimedOut r).part = s.part ∧
    (s.claimTimedOut r).rack = s.rack := by
  unfold State.claimTimedOut
  (repeat' split) <;> simp

@[simp] theorem State.enterQuiet_keeps (s : State) :
    (s.enterQuiet).pending = s.pending ∧ (s.enterQuiet).setup = s.setup ∧ (s.enterQuiet).clock = s.clock ∧
    (s.enterQuiet).estop = s.estop ∧ (s.enterQuiet).part = s.part ∧ (s.enterQuiet).rack = s.rack := by
  unfold State.enterQuiet
  simp

@[simp] theorem State.failJoin_keeps (s : State) :
    (s.failJoin).pending = s.pending ∧ (s.failJoin).setup = s.setup ∧ (s.failJoin).clock = s.clock ∧
    (s.failJoin).estop = s.estop ∧ (s.failJoin).part = s.part ∧ (s.failJoin).rack = s.rack := by
  unfold State.failJoin
  simp

@[simp] theorem State.heardCell_keeps (s : State) :
    (s.heardCell).pending = s.pending ∧ (s.heardCell).setup = s.setup ∧ (s.heardCell).clock = s.clock ∧
    (s.heardCell).estop = s.estop ∧ (s.heardCell).part = s.part ∧ (s.heardCell).rack = s.rack := by
  unfold State.heardCell
  (repeat' split) <;> simp

@[simp] theorem State.checkMounted_keeps (s : State) :
    (s.checkMounted).pending = s.pending ∧ (s.checkMounted).setup = s.setup ∧ (s.checkMounted).clock = s.clock ∧
    (s.checkMounted).estop = s.estop ∧ (s.checkMounted).part = s.part ∧ (s.checkMounted).rack = s.rack := by
  unfold State.checkMounted
  (repeat' split) <;> simp

@[simp] theorem State.queueSlotSense_keeps (s : State) :
    (s.queueSlotSense).pending = s.pending ∧ (s.queueSlotSense).setup = s.setup ∧ (s.queueSlotSense).clock = s.clock ∧
    (s.queueSlotSense).estop = s.estop ∧ (s.queueSlotSense).part = s.part ∧ (s.queueSlotSense).rack = s.rack := by
  unfold State.queueSlotSense
  (repeat' split) <;> simp

@[simp] theorem State.reportRack_keeps (s : State) :
    (s.reportRack).pending = s.pending ∧ (s.reportRack).setup = s.setup ∧ (s.reportRack).clock = s.clock ∧
    (s.reportRack).estop = s.estop ∧ (s.reportRack).part = s.part ∧ (s.reportRack).rack = s.rack := by
  unfold State.reportRack
  (repeat' split) <;> simp

@[simp] theorem State.startTiming_keeps (t : Table) (s : State) :
    (s.startTiming t).pending = s.pending ∧ (s.startTiming t).setup = s.setup ∧ (s.startTiming t).clock = s.clock ∧
    (s.startTiming t).estop = s.estop ∧ (s.startTiming t).part = s.part ∧ (s.startTiming t).rack = s.rack := by
  unfold State.startTiming
  simp

@[simp] theorem State.becomeAttached_keeps (t : Table) (s : State) :
    (s.becomeAttached t).pending = s.pending ∧ (s.becomeAttached t).setup = s.setup ∧
    (s.becomeAttached t).clock = s.clock ∧ (s.becomeAttached t).estop = s.estop ∧ (s.becomeAttached t).part = s.part ∧
    (s.becomeAttached t).rack = s.rack := by
  unfold State.becomeAttached
  dsimp only
  (repeat' split) <;> simp

@[simp] theorem State.found_keeps (f : JoinFields) (s : State) :
    (s.found f).pending = s.pending ∧ (s.found f).setup = s.setup ∧ (s.found f).clock = s.clock ∧
    (s.found f).estop = s.estop ∧ (s.found f).part = s.part ∧ (s.found f).rack = s.rack := by
  unfold State.found
  simp

@[simp] theorem State.loseOwner_keeps (gone : StationSet) (s : State) :
    (s.loseOwner gone).pending = s.pending ∧ (s.loseOwner gone).setup = s.setup ∧ (s.loseOwner gone).clock = s.clock ∧
    (s.loseOwner gone).estop = s.estop ∧ (s.loseOwner gone).part = s.part ∧ (s.loseOwner gone).rack = s.rack := by
  unfold State.loseOwner
  (repeat' split) <;> simp

@[simp] theorem State.lineApplied_keeps (p : Station) (f : ShareFrame) (gone : StationSet) (s : State) :
    (s.lineApplied p f gone).pending = s.pending ∧ (s.lineApplied p f gone).setup = s.setup ∧
    (s.lineApplied p f gone).clock = s.clock ∧ (s.lineApplied p f gone).estop = s.estop ∧
    (s.lineApplied p f gone).part = s.part ∧ (s.lineApplied p f gone).rack = s.rack := by
  unfold State.lineApplied
  (repeat' split) <;> simp

@[simp] theorem State.snapshotApplied_keeps (a : Applied) (s : State) :
    (s.snapshotApplied a).pending = s.pending ∧ (s.snapshotApplied a).setup = s.setup ∧
    (s.snapshotApplied a).clock = s.clock ∧ (s.snapshotApplied a).estop = s.estop ∧
    (s.snapshotApplied a).part = s.part ∧ (s.snapshotApplied a).rack = s.rack := by
  unfold State.snapshotApplied
  dsimp only
  (repeat' split) <;> simp

@[simp] theorem State.blocksAct_keeps (p : Station) (f : ShareFrame) (gone : StationSet) (a : Applied) (s : State) :
    (s.blocksAct p f gone a).pending = s.pending ∧ (s.blocksAct p f gone a).setup = s.setup ∧
    (s.blocksAct p f gone a).clock = s.clock ∧ (s.blocksAct p f gone a).estop = s.estop ∧
    (s.blocksAct p f gone a).part = s.part ∧ (s.blocksAct p f gone a).rack = s.rack := by
  unfold State.blocksAct
  dsimp only
  (repeat' split) <;> simp

@[simp] theorem State.applyShare_keeps (t : Table) (p : Station) (f : ShareFrame) (s : State) :
    (s.applyShare t p f).pending = s.pending ∧ (s.applyShare t p f).setup = s.setup ∧
    (s.applyShare t p f).clock = s.clock ∧ (s.applyShare t p f).estop = s.estop ∧ (s.applyShare t p f).part = s.part ∧
    (s.applyShare t p f).rack = s.rack := by
  unfold State.applyShare
  dsimp only
  (repeat' split) <;> simp

@[simp] theorem State.logShare_keeps (p : Station) (seq : BitVec 16) (f : ShareFrame) (s : State) :
    (s.logShare p seq f).pending = s.pending ∧ (s.logShare p seq f).setup = s.setup ∧
    (s.logShare p seq f).clock = s.clock ∧ (s.logShare p seq f).estop = s.estop ∧ (s.logShare p seq f).part = s.part ∧
    (s.logShare p seq f).rack = s.rack := by
  unfold State.logShare
  dsimp only
  (repeat' split) <;> simp

@[simp] theorem State.keepFoundingImage_keeps (p : Station) (f : JoinFields) (s : State) :
    (s.keepFoundingImage p f).pending = s.pending ∧ (s.keepFoundingImage p f).setup = s.setup ∧
    (s.keepFoundingImage p f).clock = s.clock ∧ (s.keepFoundingImage p f).estop = s.estop ∧
    (s.keepFoundingImage p f).part = s.part ∧ (s.keepFoundingImage p f).rack = s.rack := by
  unfold State.keepFoundingImage
  simp

@[simp] theorem State.listenShare_keeps (p : Station) (f : ShareFrame) (s : State) :
    (s.listenShare p f).pending = s.pending ∧ (s.listenShare p f).setup = s.setup ∧
    (s.listenShare p f).clock = s.clock ∧ (s.listenShare p f).estop = s.estop ∧ (s.listenShare p f).part = s.part ∧
    (s.listenShare p f).rack = s.rack := by
  unfold State.listenShare
  dsimp only
  (repeat' split) <;> simp

@[simp] theorem State.joinUnitTakes_keeps (p : Station) (seq : BitVec 16) (f : ShareFrame) (s : State) :
    (s.joinUnitTakes p seq f).pending = s.pending ∧ (s.joinUnitTakes p seq f).setup = s.setup ∧
    (s.joinUnitTakes p seq f).clock = s.clock ∧ (s.joinUnitTakes p seq f).estop = s.estop ∧
    (s.joinUnitTakes p seq f).part = s.part ∧ (s.joinUnitTakes p seq f).rack = s.rack := by
  unfold State.joinUnitTakes
  (repeat' split) <;> simp

@[simp] theorem State.shareReceived_keeps (p : Station) (seq : BitVec 16) (f : ShareFrame) (s : State) :
    (s.shareReceived p seq f).pending = s.pending ∧ (s.shareReceived p seq f).setup = s.setup ∧
    (s.shareReceived p seq f).clock = s.clock ∧ (s.shareReceived p seq f).estop = s.estop ∧
    (s.shareReceived p seq f).part = s.part ∧ (s.shareReceived p seq f).rack = s.rack := by
  unfold State.shareReceived
  dsimp only
  (repeat' split) <;> simp

@[simp] theorem State.adopt_keeps (t : Table) (s : State) :
    (s.adopt t).pending = s.pending ∧ (s.adopt t).setup = s.setup ∧ (s.adopt t).clock = s.clock ∧
    (s.adopt t).estop = s.estop ∧ (s.adopt t).part = s.part ∧ (s.adopt t).rack = s.rack := by
  unfold State.adopt
  simp

@[simp] theorem State.collect_keeps (part : SnapshotPart) (s : State) :
    (s.collect part).pending = s.pending ∧ (s.collect part).setup = s.setup ∧ (s.collect part).clock = s.clock ∧
    (s.collect part).estop = s.estop ∧ (s.collect part).part = s.part ∧ (s.collect part).rack = s.rack := by
  unfold State.collect
  dsimp only
  (repeat' split) <;> simp

@[simp] theorem State.restartCapture_keeps (s : State) :
    (s.restartCapture).pending = s.pending ∧ (s.restartCapture).setup = s.setup ∧ (s.restartCapture).clock = s.clock ∧
    (s.restartCapture).estop = s.estop ∧ (s.restartCapture).part = s.part ∧ (s.restartCapture).rack = s.rack ∧
    axisInputs (s.restartCapture).axes = axisInputs s.axes ∧ (s.restartCapture).trig.high = s.trig.high ∧
    (s.restartCapture).head.seated = s.head.seated := by
  unfold State.restartCapture
  simp

@[simp] theorem State.restartBlocks_keeps (s : State) :
    (s.restartBlocks).pending = s.pending ∧ (s.restartBlocks).setup = s.setup ∧ (s.restartBlocks).clock = s.clock ∧
    (s.restartBlocks).estop = s.estop ∧ (s.restartBlocks).part = s.part ∧ (s.restartBlocks).rack = s.rack ∧
    axisInputs (s.restartBlocks).axes = axisInputs s.axes ∧ (s.restartBlocks).trig.high = s.trig.high ∧
    (s.restartBlocks).head.seated = s.head.seated := by
  unfold State.restartBlocks
  (repeat' split) <;> simp

@[simp] theorem State.leaveCell_keeps (s : State) :
    (s.leaveCell).pending = s.pending ∧ (s.leaveCell).setup = s.setup ∧ (s.leaveCell).clock = s.clock ∧
    (s.leaveCell).estop = s.estop ∧ (s.leaveCell).part = s.part ∧ (s.leaveCell).rack = s.rack ∧
    axisInputs (s.leaveCell).axes = axisInputs s.axes ∧ (s.leaveCell).trig.high = s.trig.high ∧
    (s.leaveCell).head.seated = s.head.seated := by
  unfold State.leaveCell
  dsimp only
  (repeat' split) <;> simp

@[simp] theorem State.endLeaveWait_keeps (s : State) :
    (s.endLeaveWait).pending = s.pending ∧ (s.endLeaveWait).setup = s.setup ∧ (s.endLeaveWait).clock = s.clock ∧
    (s.endLeaveWait).estop = s.estop ∧ (s.endLeaveWait).part = s.part ∧ (s.endLeaveWait).rack = s.rack ∧
    axisInputs (s.endLeaveWait).axes = axisInputs s.axes ∧ (s.endLeaveWait).trig.high = s.trig.high ∧
    (s.endLeaveWait).head.seated = s.head.seated := by
  unfold State.endLeaveWait
  dsimp only
  (repeat' split) <;> simp

@[simp] theorem State.append_keeps (sender : Station) (seg : Segment) (s : State) :
    (s.append sender seg).pending = s.pending ∧ (s.append sender seg).setup = s.setup ∧
    (s.append sender seg).clock = s.clock ∧ (s.append sender seg).estop = s.estop ∧
    (s.append sender seg).part = s.part ∧ (s.append sender seg).rack = s.rack := by
  unfold State.append
  dsimp only
  (repeat' split) <;> simp

@[simp] theorem State.takeSeg_keeps (sender : Station) (p : List Byte) (s : State) :
    (s.takeSeg sender p).1.pending = s.pending ∧ (s.takeSeg sender p).1.setup = s.setup ∧
    (s.takeSeg sender p).1.clock = s.clock ∧ (s.takeSeg sender p).1.estop = s.estop ∧
    (s.takeSeg sender p).1.part = s.part ∧ (s.takeSeg sender p).1.rack = s.rack ∧
    axisInputs (s.takeSeg sender p).1.axes = axisInputs s.axes ∧ (s.takeSeg sender p).1.trig.high = s.trig.high ∧
    (s.takeSeg sender p).1.head.seated = s.head.seated := by
  unfold State.takeSeg
  (repeat' split) <;> simp [answer]

@[simp] theorem State.holdStill_keeps (t : Option Start) (s : State) :
    (s.holdStill t).pending = s.pending ∧ (s.holdStill t).setup = s.setup ∧ (s.holdStill t).clock = s.clock ∧
    (s.holdStill t).estop = s.estop ∧ (s.holdStill t).part = s.part ∧ (s.holdStill t).rack = s.rack := by
  unfold State.holdStill
  simp

@[simp] theorem State.holdMoving_keeps (s : State) :
    (s.holdMoving).pending = s.pending ∧ (s.holdMoving).setup = s.setup ∧ (s.holdMoving).clock = s.clock ∧
    (s.holdMoving).estop = s.estop ∧ (s.holdMoving).part = s.part ∧ (s.holdMoving).rack = s.rack := by
  unfold State.holdMoving
  (repeat' split) <;> simp

@[simp] theorem State.holdEffect_keeps (s : State) :
    (s.holdEffect).pending = s.pending ∧ (s.holdEffect).setup = s.setup ∧ (s.holdEffect).clock = s.clock ∧
    (s.holdEffect).estop = s.estop ∧ (s.holdEffect).part = s.part ∧ (s.holdEffect).rack = s.rack := by
  unfold State.holdEffect
  (repeat' split) <;> simp

@[simp] theorem State.startRun_keeps (sender : Station) (s : State) :
    (s.startRun sender).pending = s.pending ∧ (s.startRun sender).setup = s.setup ∧
    (s.startRun sender).clock = s.clock ∧ (s.startRun sender).estop = s.estop ∧ (s.startRun sender).part = s.part ∧
    (s.startRun sender).rack = s.rack ∧ axisInputs (s.startRun sender).axes = axisInputs s.axes ∧
    (s.startRun sender).trig.high = s.trig.high ∧ (s.startRun sender).head.seated = s.head.seated := by
  unfold State.startRun
  dsimp only
  (repeat' split) <;> simp

@[simp] theorem State.takeGo_keeps (sender : Station) (s : State) :
    (s.takeGo sender).1.pending = s.pending ∧ (s.takeGo sender).1.setup = s.setup ∧
    (s.takeGo sender).1.clock = s.clock ∧ (s.takeGo sender).1.estop = s.estop ∧ (s.takeGo sender).1.part = s.part ∧
    (s.takeGo sender).1.rack = s.rack ∧ axisInputs (s.takeGo sender).1.axes = axisInputs s.axes ∧
    (s.takeGo sender).1.trig.high = s.trig.high ∧ (s.takeGo sender).1.head.seated = s.head.seated := by
  unfold State.takeGo
  (repeat' split) <;> simp [answer]

@[simp] theorem State.takeHold_keeps (sender : Station) (s : State) :
    (s.takeHold sender).1.pending = s.pending ∧ (s.takeHold sender).1.setup = s.setup ∧
    (s.takeHold sender).1.clock = s.clock ∧ (s.takeHold sender).1.estop = s.estop ∧
    (s.takeHold sender).1.part = s.part ∧ (s.takeHold sender).1.rack = s.rack ∧
    axisInputs (s.takeHold sender).1.axes = axisInputs s.axes ∧ (s.takeHold sender).1.trig.high = s.trig.high ∧
    (s.takeHold sender).1.head.seated = s.head.seated := by
  unfold State.takeHold
  (repeat' split) <;> simp [answer]

@[simp] theorem State.takeGoOn_keeps (sender : Station) (s : State) :
    (s.takeGoOn sender).1.pending = s.pending ∧ (s.takeGoOn sender).1.setup = s.setup ∧
    (s.takeGoOn sender).1.clock = s.clock ∧ (s.takeGoOn sender).1.estop = s.estop ∧
    (s.takeGoOn sender).1.part = s.part ∧ (s.takeGoOn sender).1.rack = s.rack ∧
    axisInputs (s.takeGoOn sender).1.axes = axisInputs s.axes ∧ (s.takeGoOn sender).1.trig.high = s.trig.high ∧
    (s.takeGoOn sender).1.head.seated = s.head.seated := by
  unfold State.takeGoOn
  (repeat' split) <;> simp [answer]

@[simp] theorem State.takeHome_keeps (s : State) :
    (s.takeHome).1.pending = s.pending ∧ (s.takeHome).1.setup = s.setup ∧ (s.takeHome).1.clock = s.clock ∧
    (s.takeHome).1.estop = s.estop ∧ (s.takeHome).1.part = s.part ∧ (s.takeHome).1.rack = s.rack ∧
    axisInputs (s.takeHome).1.axes = axisInputs s.axes ∧ (s.takeHome).1.trig.high = s.trig.high ∧
    (s.takeHome).1.head.seated = s.head.seated := by
  unfold State.takeHome
  (repeat' split) <;> simp [answer]

@[simp] theorem State.energize_keeps (s : State) :
    (s.energize).pending = s.pending ∧ (s.energize).setup = s.setup ∧ (s.energize).clock = s.clock ∧
    (s.energize).estop = s.estop ∧ (s.energize).part = s.part ∧ (s.energize).rack = s.rack ∧
    axisInputs (s.energize).axes = axisInputs s.axes ∧ (s.energize).trig.high = s.trig.high ∧
    (s.energize).head.seated = s.head.seated := by
  unfold State.energize
  (repeat' split) <;> simp

@[simp] theorem State.takeDrivesOn_keeps (s : State) :
    (s.takeDrivesOn).1.pending = s.pending ∧ (s.takeDrivesOn).1.setup = s.setup ∧ (s.takeDrivesOn).1.clock = s.clock ∧
    (s.takeDrivesOn).1.estop = s.estop ∧ (s.takeDrivesOn).1.part = s.part ∧ (s.takeDrivesOn).1.rack = s.rack ∧
    axisInputs (s.takeDrivesOn).1.axes = axisInputs s.axes ∧ (s.takeDrivesOn).1.trig.high = s.trig.high ∧
    (s.takeDrivesOn).1.head.seated = s.head.seated := by
  unfold State.takeDrivesOn
  (repeat' split) <;> simp [answer]

@[simp] theorem State.takeChange_keeps (id : ProbeId) (s : State) :
    (s.takeChange id).1.pending = s.pending ∧ (s.takeChange id).1.setup = s.setup ∧
    (s.takeChange id).1.clock = s.clock ∧ (s.takeChange id).1.estop = s.estop ∧ (s.takeChange id).1.part = s.part ∧
    (s.takeChange id).1.rack = s.rack ∧ axisInputs (s.takeChange id).1.axes = axisInputs s.axes ∧
    (s.takeChange id).1.trig.high = s.trig.high ∧ (s.takeChange id).1.head.seated = s.head.seated := by
  unfold State.takeChange
  (repeat' split) <;> simp [answer]

@[simp] theorem State.takeQualify_keeps (s : State) :
    (s.takeQualify).1.pending = s.pending ∧ (s.takeQualify).1.setup = s.setup ∧ (s.takeQualify).1.clock = s.clock ∧
    (s.takeQualify).1.estop = s.estop ∧ (s.takeQualify).1.part = s.part ∧ (s.takeQualify).1.rack = s.rack ∧
    axisInputs (s.takeQualify).1.axes = axisInputs s.axes ∧ (s.takeQualify).1.trig.high = s.trig.high ∧
    (s.takeQualify).1.head.seated = s.head.seated := by
  unfold State.takeQualify
  (repeat' split) <;> simp [answer]

@[simp] theorem State.enterShadow_keeps (s : State) :
    (s.enterShadow).pending = s.pending ∧ (s.enterShadow).setup = s.setup ∧ (s.enterShadow).clock = s.clock ∧
    (s.enterShadow).estop = s.estop ∧ (s.enterShadow).part = s.part ∧ (s.enterShadow).rack = s.rack ∧
    axisInputs (s.enterShadow).axes = axisInputs s.axes ∧ (s.enterShadow).trig.high = s.trig.high ∧
    (s.enterShadow).head.seated = s.head.seated := by
  unfold State.enterShadow
  simp

@[simp] theorem State.takeShadowOn_keeps (s : State) :
    (s.takeShadowOn).1.pending = s.pending ∧ (s.takeShadowOn).1.setup = s.setup ∧ (s.takeShadowOn).1.clock = s.clock ∧
    (s.takeShadowOn).1.estop = s.estop ∧ (s.takeShadowOn).1.part = s.part ∧ (s.takeShadowOn).1.rack = s.rack ∧
    axisInputs (s.takeShadowOn).1.axes = axisInputs s.axes ∧ (s.takeShadowOn).1.trig.high = s.trig.high ∧
    (s.takeShadowOn).1.head.seated = s.head.seated := by
  unfold State.takeShadowOn
  (repeat' split) <;> simp [answer]

@[simp] theorem State.endShadow_keeps (s : State) :
    (s.endShadow).pending = s.pending ∧ (s.endShadow).setup = s.setup ∧ (s.endShadow).clock = s.clock ∧
    (s.endShadow).estop = s.estop ∧ (s.endShadow).part = s.part ∧ (s.endShadow).rack = s.rack ∧
    axisInputs (s.endShadow).axes = axisInputs s.axes ∧ (s.endShadow).trig.high = s.trig.high ∧
    (s.endShadow).head.seated = s.head.seated := by
  unfold State.endShadow
  simp

@[simp] theorem State.takeShadowOff_keeps (s : State) :
    (s.takeShadowOff).1.pending = s.pending ∧ (s.takeShadowOff).1.setup = s.setup ∧
    (s.takeShadowOff).1.clock = s.clock ∧ (s.takeShadowOff).1.estop = s.estop ∧ (s.takeShadowOff).1.part = s.part ∧
    (s.takeShadowOff).1.rack = s.rack ∧ axisInputs (s.takeShadowOff).1.axes = axisInputs s.axes ∧
    (s.takeShadowOff).1.trig.high = s.trig.high ∧ (s.takeShadowOff).1.head.seated = s.head.seated := by
  unfold State.takeShadowOff
  (repeat' split) <;> simp [answer]

@[simp] theorem State.defineProbe_keeps (d : ProbeDef) (s : State) :
    (s.defineProbe d).pending = s.pending ∧ (s.defineProbe d).setup = s.setup ∧ (s.defineProbe d).clock = s.clock ∧
    (s.defineProbe d).estop = s.estop ∧ (s.defineProbe d).part = s.part ∧ (s.defineProbe d).rack = s.rack ∧
    axisInputs (s.defineProbe d).axes = axisInputs s.axes ∧ (s.defineProbe d).trig.high = s.trig.high ∧
    (s.defineProbe d).head.seated = s.head.seated := by
  unfold State.defineProbe
  (repeat' split) <;> simp

@[simp] theorem State.takeProbedef_keeps (p : List Byte) (s : State) :
    (s.takeProbedef p).1.pending = s.pending ∧ (s.takeProbedef p).1.setup = s.setup ∧
    (s.takeProbedef p).1.clock = s.clock ∧ (s.takeProbedef p).1.estop = s.estop ∧ (s.takeProbedef p).1.part = s.part ∧
    (s.takeProbedef p).1.rack = s.rack ∧ axisInputs (s.takeProbedef p).1.axes = axisInputs s.axes ∧
    (s.takeProbedef p).1.trig.high = s.trig.high ∧ (s.takeProbedef p).1.head.seated = s.head.seated := by
  unfold State.takeProbedef
  (repeat' split) <;> simp [answer]

@[simp] theorem State.takeReportmark_keeps (p : List Byte) (s : State) :
    (s.takeReportmark p).1.pending = s.pending ∧ (s.takeReportmark p).1.setup = s.setup ∧
    (s.takeReportmark p).1.clock = s.clock ∧ (s.takeReportmark p).1.estop = s.estop ∧
    (s.takeReportmark p).1.part = s.part ∧ (s.takeReportmark p).1.rack = s.rack ∧
    axisInputs (s.takeReportmark p).1.axes = axisInputs s.axes ∧ (s.takeReportmark p).1.trig.high = s.trig.high ∧
    (s.takeReportmark p).1.head.seated = s.head.seated := by
  unfold State.takeReportmark
  (repeat' split) <;> simp [answer]

@[simp] theorem State.takeEvmask_keeps (p : List Byte) (s : State) :
    (s.takeEvmask p).1.pending = s.pending ∧ (s.takeEvmask p).1.setup = s.setup ∧ (s.takeEvmask p).1.clock = s.clock ∧
    (s.takeEvmask p).1.estop = s.estop ∧ (s.takeEvmask p).1.part = s.part ∧ (s.takeEvmask p).1.rack = s.rack ∧
    axisInputs (s.takeEvmask p).1.axes = axisInputs s.axes ∧ (s.takeEvmask p).1.trig.high = s.trig.high ∧
    (s.takeEvmask p).1.head.seated = s.head.seated := by
  unfold State.takeEvmask
  (repeat' split) <;> simp [answer]

@[simp] theorem State.countVeto_keeps (s : State) :
    (s.countVeto).pending = s.pending ∧ (s.countVeto).setup = s.setup ∧ (s.countVeto).clock = s.clock ∧
    (s.countVeto).estop = s.estop ∧ (s.countVeto).part = s.part ∧ (s.countVeto).rack = s.rack ∧
    axisInputs (s.countVeto).axes = axisInputs s.axes ∧ (s.countVeto).trig.high = s.trig.high ∧
    (s.countVeto).head.seated = s.head.seated := by
  unfold State.countVeto
  (repeat' split) <;> simp

@[simp] theorem State.clearTx_keeps (s : State) :
    (s.clearTx).pending = s.pending ∧ (s.clearTx).setup = s.setup ∧ (s.clearTx).clock = s.clock ∧
    (s.clearTx).estop = s.estop ∧ (s.clearTx).part = s.part ∧ (s.clearTx).rack = s.rack ∧
    axisInputs (s.clearTx).axes = axisInputs s.axes ∧ (s.clearTx).trig.high = s.trig.high ∧
    (s.clearTx).head.seated = s.head.seated := by
  unfold State.clearTx
  simp

@[simp] theorem State.unsent_keeps (tx : Tx) (s : State) :
    (s.unsent tx).pending = s.pending ∧ (s.unsent tx).setup = s.setup ∧ (s.unsent tx).clock = s.clock ∧
    (s.unsent tx).estop = s.estop ∧ (s.unsent tx).part = s.part ∧ (s.unsent tx).rack = s.rack ∧
    axisInputs (s.unsent tx).axes = axisInputs s.axes ∧ (s.unsent tx).trig.high = s.trig.high ∧
    (s.unsent tx).head.seated = s.head.seated := by
  unfold State.unsent
  (repeat' split) <;> simp

@[simp] theorem State.leaveRingWait_keeps (s : State) :
    (s.leaveRingWait).pending = s.pending ∧ (s.leaveRingWait).setup = s.setup ∧ (s.leaveRingWait).clock = s.clock ∧
    (s.leaveRingWait).estop = s.estop ∧ (s.leaveRingWait).part = s.part ∧ (s.leaveRingWait).rack = s.rack ∧
    axisInputs (s.leaveRingWait).axes = axisInputs s.axes ∧ (s.leaveRingWait).trig.high = s.trig.high ∧
    (s.leaveRingWait).head.seated = s.head.seated := by
  unfold State.leaveRingWait
  (repeat' split) <;> simp

@[simp] theorem State.joinAccepted_keeps (f : JoinFields) (seq : BitVec 16) (s : State) :
    (s.joinAccepted f seq).pending = s.pending ∧ (s.joinAccepted f seq).setup = s.setup ∧
    (s.joinAccepted f seq).clock = s.clock ∧ (s.joinAccepted f seq).estop = s.estop ∧
    (s.joinAccepted f seq).part = s.part ∧ (s.joinAccepted f seq).rack = s.rack ∧
    axisInputs (s.joinAccepted f seq).axes = axisInputs s.axes ∧ (s.joinAccepted f seq).trig.high = s.trig.high ∧
    (s.joinAccepted f seq).head.seated = s.head.seated := by
  unfold State.joinAccepted
  (repeat' split) <;> simp

@[simp] theorem State.await_keeps (f : ShareFrame) (s : State) :
    (s.await f).pending = s.pending ∧ (s.await f).setup = s.setup ∧ (s.await f).clock = s.clock ∧
    (s.await f).estop = s.estop ∧ (s.await f).part = s.part ∧ (s.await f).rack = s.rack ∧
    axisInputs (s.await f).axes = axisInputs s.axes ∧ (s.await f).trig.high = s.trig.high ∧
    (s.await f).head.seated = s.head.seated := by
  unfold State.await
  simp

@[simp] theorem State.noteClaim_keeps (e : M1Entry) (s : State) :
    (s.noteClaim e).pending = s.pending ∧ (s.noteClaim e).setup = s.setup ∧ (s.noteClaim e).clock = s.clock ∧
    (s.noteClaim e).estop = s.estop ∧ (s.noteClaim e).part = s.part ∧ (s.noteClaim e).rack = s.rack ∧
    axisInputs (s.noteClaim e).axes = axisInputs s.axes ∧ (s.noteClaim e).trig.high = s.trig.high ∧
    (s.noteClaim e).head.seated = s.head.seated := by
  unfold State.noteClaim
  simp

@[simp] theorem State.shareAccepted_keeps (f : ShareFrame) (seq : BitVec 16) (s : State) :
    (s.shareAccepted f seq).pending = s.pending ∧ (s.shareAccepted f seq).setup = s.setup ∧ (s.shareAccepted f seq).clock = s.clock ∧
    (s.shareAccepted f seq).estop = s.estop ∧ (s.shareAccepted f seq).part = s.part ∧ (s.shareAccepted f seq).rack = s.rack ∧
    axisInputs (s.shareAccepted f seq).axes = axisInputs s.axes ∧ (s.shareAccepted f seq).trig.high = s.trig.high ∧
    (s.shareAccepted f seq).head.seated = s.head.seated := by
  unfold State.shareAccepted
  (repeat' split) <;> simp

@[simp] theorem State.staleAccepted_keeps (f : ShareFrame) (seq : BitVec 16) (s : State) :
    (s.staleAccepted f seq).pending = s.pending ∧ (s.staleAccepted f seq).setup = s.setup ∧ (s.staleAccepted f seq).clock = s.clock ∧
    (s.staleAccepted f seq).estop = s.estop ∧ (s.staleAccepted f seq).part = s.part ∧ (s.staleAccepted f seq).rack = s.rack ∧
    axisInputs (s.staleAccepted f seq).axes = axisInputs s.axes ∧ (s.staleAccepted f seq).trig.high = s.trig.high ∧
    (s.staleAccepted f seq).head.seated = s.head.seated := by
  unfold State.staleAccepted
  (repeat' split) <;> simp

@[simp] theorem State.recordPresence_keeps (sender : Station) (standing : ZoneSet) (s : State) :
    (s.recordPresence sender standing).pending = s.pending ∧ (s.recordPresence sender standing).setup = s.setup ∧
    (s.recordPresence sender standing).clock = s.clock ∧ (s.recordPresence sender standing).estop = s.estop ∧
    (s.recordPresence sender standing).part = s.part ∧ (s.recordPresence sender standing).rack = s.rack ∧
    axisInputs (s.recordPresence sender standing).axes = axisInputs s.axes ∧
    (s.recordPresence sender standing).trig.high = s.trig.high ∧
    (s.recordPresence sender standing).head.seated = s.head.seated := by
  unfold State.recordPresence
  (repeat' split) <;> simp

@[simp] theorem State.listenPresence_keeps (sender : Station) (standing : ZoneSet) (shown : JoinShown) (s : State) :
    (s.listenPresence sender standing shown).pending = s.pending ∧
    (s.listenPresence sender standing shown).setup = s.setup ∧
    (s.listenPresence sender standing shown).clock = s.clock ∧
    (s.listenPresence sender standing shown).estop = s.estop ∧
    (s.listenPresence sender standing shown).part = s.part ∧ (s.listenPresence sender standing shown).rack = s.rack ∧
    axisInputs (s.listenPresence sender standing shown).axes = axisInputs s.axes ∧
    (s.listenPresence sender standing shown).trig.high = s.trig.high ∧
    (s.listenPresence sender standing shown).head.seated = s.head.seated := by
  unfold State.listenPresence
  (repeat' split) <;> simp

@[simp] theorem State.presenceRecorded_keeps (sender : Station) (standing : ZoneSet) (shown : JoinShown) (s : State) :
    (s.presenceRecorded sender standing shown).pending = s.pending ∧
    (s.presenceRecorded sender standing shown).setup = s.setup ∧
    (s.presenceRecorded sender standing shown).clock = s.clock ∧
    (s.presenceRecorded sender standing shown).estop = s.estop ∧
    (s.presenceRecorded sender standing shown).part = s.part ∧
    (s.presenceRecorded sender standing shown).rack = s.rack ∧
    axisInputs (s.presenceRecorded sender standing shown).axes = axisInputs s.axes ∧
    (s.presenceRecorded sender standing shown).trig.high = s.trig.high ∧
    (s.presenceRecorded sender standing shown).head.seated = s.head.seated := by
  unfold State.presenceRecorded
  (repeat' split) <;> simp

@[simp] theorem State.contentAccepted_keeps (tx : Tx) (s : State) :
    (s.contentAccepted tx).pending = s.pending ∧ (s.contentAccepted tx).setup = s.setup ∧
    (s.contentAccepted tx).clock = s.clock ∧ (s.contentAccepted tx).estop = s.estop ∧
    (s.contentAccepted tx).part = s.part ∧ (s.contentAccepted tx).rack = s.rack ∧
    axisInputs (s.contentAccepted tx).axes = axisInputs s.axes ∧ (s.contentAccepted tx).trig.high = s.trig.high ∧
    (s.contentAccepted tx).head.seated = s.head.seated := by
  unfold State.contentAccepted
  (repeat' split) <;> simp

@[simp] theorem State.ownAccepted_keeps (tx : Tx) (s : State) :
    (s.ownAccepted tx).pending = s.pending ∧ (s.ownAccepted tx).setup = s.setup ∧ (s.ownAccepted tx).clock = s.clock ∧
    (s.ownAccepted tx).estop = s.estop ∧ (s.ownAccepted tx).part = s.part ∧ (s.ownAccepted tx).rack = s.rack ∧
    axisInputs (s.ownAccepted tx).axes = axisInputs s.axes ∧ (s.ownAccepted tx).trig.high = s.trig.high ∧
    (s.ownAccepted tx).head.seated = s.head.seated := by
  unfold State.ownAccepted
  simp

@[simp] theorem State.retiringVoid_keeps (tx : Tx) (s : State) :
    (s.retiringVoid tx).pending = s.pending ∧ (s.retiringVoid tx).setup = s.setup ∧
    (s.retiringVoid tx).clock = s.clock ∧ (s.retiringVoid tx).estop = s.estop ∧ (s.retiringVoid tx).part = s.part ∧
    (s.retiringVoid tx).rack = s.rack ∧ axisInputs (s.retiringVoid tx).axes = axisInputs s.axes ∧
    (s.retiringVoid tx).trig.high = s.trig.high ∧ (s.retiringVoid tx).head.seated = s.head.seated := by
  unfold State.retiringVoid
  (repeat' split) <;> simp

@[simp] theorem State.countVoid_keeps (s : State) :
    (s.countVoid).pending = s.pending ∧ (s.countVoid).setup = s.setup ∧ (s.countVoid).clock = s.clock ∧
    (s.countVoid).estop = s.estop ∧ (s.countVoid).part = s.part ∧ (s.countVoid).rack = s.rack ∧
    axisInputs (s.countVoid).axes = axisInputs s.axes ∧ (s.countVoid).trig.high = s.trig.high ∧
    (s.countVoid).head.seated = s.head.seated := by
  unfold State.countVoid
  (repeat' split) <;> simp

/-- A QUIET station counts no void (R49). -/
theorem State.countVoid_quiet (s : State) (quiet : s.join.st = .quiet) : s.countVoid = s := by
  simp [State.countVoid, quiet]

@[simp] theorem State.ownVoid_keeps (tx : Tx) (s : State) :
    (s.ownVoid tx).pending = s.pending ∧ (s.ownVoid tx).setup = s.setup ∧ (s.ownVoid tx).clock = s.clock ∧
    (s.ownVoid tx).estop = s.estop ∧ (s.ownVoid tx).part = s.part ∧ (s.ownVoid tx).rack = s.rack ∧
    axisInputs (s.ownVoid tx).axes = axisInputs s.axes ∧ (s.ownVoid tx).trig.high = s.trig.high ∧
    (s.ownVoid tx).head.seated = s.head.seated := by
  unfold State.ownVoid
  simp

@[simp] theorem State.adoptImage_keeps (f : ShareFrame) (s : State) :
    (s.adoptImage f).pending = s.pending ∧ (s.adoptImage f).setup = s.setup ∧ (s.adoptImage f).clock = s.clock ∧
    (s.adoptImage f).estop = s.estop ∧ (s.adoptImage f).part = s.part ∧ (s.adoptImage f).rack = s.rack ∧
    axisInputs (s.adoptImage f).axes = axisInputs s.axes ∧ (s.adoptImage f).trig.high = s.trig.high ∧
    (s.adoptImage f).head.seated = s.head.seated := by
  unfold State.adoptImage
  (repeat' split) <;> simp

@[simp] theorem State.applyOwn_keeps (seq : BitVec 16) (f : ShareFrame) (s : State) :
    (s.applyOwn seq f).pending = s.pending ∧ (s.applyOwn seq f).setup = s.setup ∧ (s.applyOwn seq f).clock = s.clock ∧
    (s.applyOwn seq f).estop = s.estop ∧ (s.applyOwn seq f).part = s.part ∧ (s.applyOwn seq f).rack = s.rack ∧
    axisInputs (s.applyOwn seq f).axes = axisInputs s.axes ∧ (s.applyOwn seq f).trig.high = s.trig.high ∧
    (s.applyOwn seq f).head.seated = s.head.seated := by
  unfold State.applyOwn
  (repeat' split) <;> simp

@[simp] theorem State.endSoak_keeps (s : State) :
    (s.endSoak).pending = s.pending ∧ (s.endSoak).setup = s.setup ∧ (s.endSoak).clock = s.clock ∧
    (s.endSoak).estop = s.estop ∧ (s.endSoak).part = s.part ∧ (s.endSoak).rack = s.rack ∧
    axisInputs (s.endSoak).axes = axisInputs s.axes ∧ (s.endSoak).trig.high = s.trig.high ∧
    (s.endSoak).head.seated = s.head.seated := by
  unfold State.endSoak
  (repeat' split) <;> simp

@[simp] theorem State.completeScan_keeps (results : List (Nat × Judged)) (s : State) :
    (s.completeScan results).pending = s.pending ∧ (s.completeScan results).setup = s.setup ∧
    (s.completeScan results).clock = s.clock ∧ (s.completeScan results).estop = s.estop ∧
    (s.completeScan results).part = s.part ∧ (s.completeScan results).rack = s.rack ∧
    axisInputs (s.completeScan results).axes = axisInputs s.axes ∧ (s.completeScan results).trig.high = s.trig.high ∧
    (s.completeScan results).head.seated = s.head.seated := by
  unfold State.completeScan
  (repeat' split) <;> simp

@[simp] theorem State.recordContact_keeps (position : Vec3 Lu) (s : State) :
    (s.recordContact position).pending = s.pending ∧ (s.recordContact position).setup = s.setup ∧
    (s.recordContact position).clock = s.clock ∧ (s.recordContact position).estop = s.estop ∧
    (s.recordContact position).part = s.part ∧ (s.recordContact position).rack = s.rack ∧
    axisInputs (s.recordContact position).axes = axisInputs s.axes ∧
    (s.recordContact position).trig.high = s.trig.high ∧ (s.recordContact position).head.seated = s.head.seated := by
  unfold State.recordContact
  (repeat' split) <;> simp

@[simp] theorem State.beginBackOff_keeps (thenHeld : Bool) (s : State) :
    (s.beginBackOff thenHeld).pending = s.pending ∧ (s.beginBackOff thenHeld).setup = s.setup ∧
    (s.beginBackOff thenHeld).clock = s.clock ∧ (s.beginBackOff thenHeld).estop = s.estop ∧
    (s.beginBackOff thenHeld).part = s.part ∧ (s.beginBackOff thenHeld).rack = s.rack ∧
    axisInputs (s.beginBackOff thenHeld).axes = axisInputs s.axes ∧
    (s.beginBackOff thenHeld).trig.high = s.trig.high ∧ (s.beginBackOff thenHeld).head.seated = s.head.seated := by
  unfold State.beginBackOff
  (repeat' split) <;> simp

@[simp] theorem State.contactEnds_keeps (position : Vec3 Lu) (held : Bool) (s : State) :
    (s.contactEnds position held).pending = s.pending ∧ (s.contactEnds position held).setup = s.setup ∧
    (s.contactEnds position held).clock = s.clock ∧ (s.contactEnds position held).estop = s.estop ∧
    (s.contactEnds position held).part = s.part ∧ (s.contactEnds position held).rack = s.rack ∧
    axisInputs (s.contactEnds position held).axes = axisInputs s.axes ∧
    (s.contactEnds position held).trig.high = s.trig.high ∧ (s.contactEnds position held).head.seated = s.head.seated := by
  unfold State.contactEnds
  dsimp only
  (repeat' split) <;> simp

@[simp] theorem State.probingContact_keeps (position : Vec3 Lu) (s : State) :
    (s.probingContact position).pending = s.pending ∧ (s.probingContact position).setup = s.setup ∧
    (s.probingContact position).clock = s.clock ∧ (s.probingContact position).estop = s.estop ∧
    (s.probingContact position).part = s.part ∧ (s.probingContact position).rack = s.rack ∧
    axisInputs (s.probingContact position).axes = axisInputs s.axes ∧
    (s.probingContact position).trig.high = s.trig.high ∧ (s.probingContact position).head.seated = s.head.seated := by
  unfold State.probingContact
  (repeat' split) <;> simp

@[simp] theorem State.acceptContact_keeps (position : Vec3 Lu) (s : State) :
    (s.acceptContact position).pending = s.pending ∧ (s.acceptContact position).setup = s.setup ∧
    (s.acceptContact position).clock = s.clock ∧ (s.acceptContact position).estop = s.estop ∧
    (s.acceptContact position).part = s.part ∧ (s.acceptContact position).rack = s.rack ∧
    axisInputs (s.acceptContact position).axes = axisInputs s.axes ∧
    (s.acceptContact position).trig.high = s.trig.high ∧ (s.acceptContact position).head.seated = s.head.seated := by
  unfold State.acceptContact
  dsimp only
  (repeat' split) <;> simp

@[simp] theorem State.miss_keeps (s : State) :
    (s.miss).pending = s.pending ∧ (s.miss).setup = s.setup ∧ (s.miss).clock = s.clock ∧ (s.miss).estop = s.estop ∧
    (s.miss).part = s.part ∧ (s.miss).rack = s.rack ∧ axisInputs (s.miss).axes = axisInputs s.axes ∧
    (s.miss).trig.high = s.trig.high ∧ (s.miss).head.seated = s.head.seated := by
  unfold State.miss
  (repeat' split) <;> simp

@[simp] theorem State.countFalse_keeps (s : State) :
    (s.countFalse).pending = s.pending ∧ (s.countFalse).setup = s.setup ∧ (s.countFalse).clock = s.clock ∧
    (s.countFalse).estop = s.estop ∧ (s.countFalse).part = s.part ∧ (s.countFalse).rack = s.rack ∧
    axisInputs (s.countFalse).axes = axisInputs s.axes ∧ (s.countFalse).trig.high = s.trig.high ∧
    (s.countFalse).head.seated = s.head.seated := by
  unfold State.countFalse
  dsimp only
  (repeat' split) <;> simp

@[simp] theorem State.triggerTo_keeps (high : Bool) (s : State) :
    (s.triggerTo high).pending = s.pending ∧ (s.triggerTo high).setup = s.setup ∧ (s.triggerTo high).clock = s.clock ∧
    (s.triggerTo high).estop = s.estop ∧ (s.triggerTo high).part = s.part ∧ (s.triggerTo high).rack = s.rack ∧
    axisInputs (s.triggerTo high).axes = axisInputs s.axes ∧ (s.triggerTo high).head.seated = s.head.seated := by
  unfold State.triggerTo
  dsimp only
  (repeat' split) <;> simp

@[simp] theorem State.headInWindow_keeps (seated : Bool) (s : State) :
    (s.headInWindow seated).pending = s.pending ∧ (s.headInWindow seated).setup = s.setup ∧
    (s.headInWindow seated).clock = s.clock ∧ (s.headInWindow seated).estop = s.estop ∧
    (s.headInWindow seated).part = s.part ∧ (s.headInWindow seated).rack = s.rack ∧
    axisInputs (s.headInWindow seated).axes = axisInputs s.axes ∧ (s.headInWindow seated).trig.high = s.trig.high ∧
    (s.headInWindow seated).head.seated = s.head.seated := by
  unfold State.headInWindow
  (repeat' split) <;> simp

@[simp] theorem State.headOutside_keeps (seated : Bool) (s : State) :
    (s.headOutside seated).pending = s.pending ∧ (s.headOutside seated).setup = s.setup ∧
    (s.headOutside seated).clock = s.clock ∧ (s.headOutside seated).estop = s.estop ∧
    (s.headOutside seated).part = s.part ∧ (s.headOutside seated).rack = s.rack ∧
    axisInputs (s.headOutside seated).axes = axisInputs s.axes ∧ (s.headOutside seated).trig.high = s.trig.high ∧
    (s.headOutside seated).head.seated = s.head.seated := by
  unfold State.headOutside
  dsimp only
  (repeat' split) <;> simp

@[simp] theorem State.readForHead_keeps (result : ReadResult) (s : State) :
    (s.readForHead result).pending = s.pending ∧ (s.readForHead result).setup = s.setup ∧
    (s.readForHead result).clock = s.clock ∧ (s.readForHead result).estop = s.estop ∧
    (s.readForHead result).part = s.part ∧ (s.readForHead result).rack = s.rack ∧
    axisInputs (s.readForHead result).axes = axisInputs s.axes ∧ (s.readForHead result).trig.high = s.trig.high ∧
    (s.readForHead result).head.seated = s.head.seated := by
  unfold State.readForHead
  (repeat' split) <;> simp

@[simp] theorem State.keepLatchWhileArmed_keeps (s : State) :
    (s.keepLatchWhileArmed).pending = s.pending ∧ (s.keepLatchWhileArmed).setup = s.setup ∧
    (s.keepLatchWhileArmed).clock = s.clock ∧ (s.keepLatchWhileArmed).estop = s.estop ∧
    (s.keepLatchWhileArmed).part = s.part ∧ (s.keepLatchWhileArmed).rack = s.rack ∧
    axisInputs (s.keepLatchWhileArmed).axes = axisInputs s.axes ∧ (s.keepLatchWhileArmed).trig.high = s.trig.high ∧
    (s.keepLatchWhileArmed).head.seated = s.head.seated := by
  unfold State.keepLatchWhileArmed
  split <;> simp

@[simp] theorem State.nextPulse_keeps (s : State) :
    (s.nextPulse).pending = s.pending ∧ (s.nextPulse).setup = s.setup ∧ (s.nextPulse).clock = s.clock ∧
    (s.nextPulse).estop = s.estop ∧ (s.nextPulse).part = s.part ∧ (s.nextPulse).rack = s.rack ∧
    axisInputs (s.nextPulse).axes = axisInputs s.axes ∧ (s.nextPulse).trig.high = s.trig.high ∧
    (s.nextPulse).head.seated = s.head.seated := by
  unfold State.nextPulse
  simp

/-- The events of the changes judged are all that the judgement sets. -/
theorem State.judged_keeps (l : List ChangeOutcome) (s : State) :
    (l.foldl (fun (s : State) (o : ChangeOutcome) => s.changeEnded o) s).pending = s.pending ∧
    (l.foldl (fun (s : State) (o : ChangeOutcome) => s.changeEnded o) s).setup = s.setup ∧
    (l.foldl (fun (s : State) (o : ChangeOutcome) => s.changeEnded o) s).clock = s.clock ∧
    (l.foldl (fun (s : State) (o : ChangeOutcome) => s.changeEnded o) s).estop = s.estop ∧
    (l.foldl (fun (s : State) (o : ChangeOutcome) => s.changeEnded o) s).part = s.part ∧
    (l.foldl (fun (s : State) (o : ChangeOutcome) => s.changeEnded o) s).rack = s.rack ∧
    (l.foldl (fun (s : State) (o : ChangeOutcome) => s.changeEnded o) s).axes = s.axes ∧
    (l.foldl (fun (s : State) (o : ChangeOutcome) => s.changeEnded o) s).trig = s.trig ∧
    (l.foldl (fun (s : State) (o : ChangeOutcome) => s.changeEnded o) s).head = s.head := by
  induction l generalizing s with
  | nil => simp
  | cons o l ih => simpa using ih (s.changeEnded o)

@[simp] theorem State.readForJudge_keeps (result : ReadResult) (s : State) :
    (s.readForJudge result).pending = s.pending ∧ (s.readForJudge result).setup = s.setup ∧
    (s.readForJudge result).clock = s.clock ∧ (s.readForJudge result).estop = s.estop ∧
    (s.readForJudge result).part = s.part ∧ (s.readForJudge result).rack = s.rack ∧
    axisInputs (s.readForJudge result).axes = axisInputs s.axes ∧ (s.readForJudge result).trig.high = s.trig.high ∧
    (s.readForJudge result).head.seated = s.head.seated := by
  unfold State.readForJudge
  dsimp only
  simp [State.judged_keeps]

@[simp] theorem State.readForChange_keeps (result : ReadResult) (forChange : Bool) (s : State) :
    (s.readForChange result forChange).pending = s.pending ∧ (s.readForChange result forChange).setup = s.setup ∧
    (s.readForChange result forChange).clock = s.clock ∧ (s.readForChange result forChange).estop = s.estop ∧
    (s.readForChange result forChange).part = s.part ∧ (s.readForChange result forChange).rack = s.rack ∧
    axisInputs (s.readForChange result forChange).axes = axisInputs s.axes ∧
    (s.readForChange result forChange).trig.high = s.trig.high ∧
    (s.readForChange result forChange).head.seated = s.head.seated := by
  unfold State.readForChange
  (repeat' split) <;> simp

@[simp] theorem State.probeAtTarget_keeps (m : Motion) (s : State) :
    (s.probeAtTarget m).pending = s.pending ∧ (s.probeAtTarget m).setup = s.setup ∧
    (s.probeAtTarget m).clock = s.clock ∧ (s.probeAtTarget m).estop = s.estop ∧ (s.probeAtTarget m).part = s.part ∧
    (s.probeAtTarget m).rack = s.rack ∧ axisInputs (s.probeAtTarget m).axes = axisInputs s.axes ∧
    (s.probeAtTarget m).trig.high = s.trig.high ∧ (s.probeAtTarget m).head.seated = s.head.seated := by
  unfold State.probeAtTarget
  (repeat' split) <;> simp

@[simp] theorem State.heldAtStandstill_keeps (held : Bool) (s : State) :
    (s.heldAtStandstill held).pending = s.pending ∧ (s.heldAtStandstill held).setup = s.setup ∧
    (s.heldAtStandstill held).clock = s.clock ∧ (s.heldAtStandstill held).estop = s.estop ∧
    (s.heldAtStandstill held).part = s.part ∧ (s.heldAtStandstill held).rack = s.rack ∧
    axisInputs (s.heldAtStandstill held).axes = axisInputs s.axes ∧
    (s.heldAtStandstill held).trig.high = s.trig.high ∧ (s.heldAtStandstill held).head.seated = s.head.seated := by
  unfold State.heldAtStandstill
  (repeat' split) <;> simp

@[simp] theorem State.keepBackOff_keeps (m : Motion) (s : State) :
    (s.keepBackOff m).pending = s.pending ∧ (s.keepBackOff m).setup = s.setup ∧ (s.keepBackOff m).clock = s.clock ∧
    (s.keepBackOff m).estop = s.estop ∧ (s.keepBackOff m).part = s.part ∧ (s.keepBackOff m).rack = s.rack ∧
    axisInputs (s.keepBackOff m).axes = axisInputs s.axes ∧ (s.keepBackOff m).trig.high = s.trig.high ∧
    (s.keepBackOff m).head.seated = s.head.seated := by
  unfold State.keepBackOff
  (repeat' split) <;> simp

@[simp] theorem State.stopEnded_keeps (p : Stopping) (m : Motion) (s : State) :
    (s.stopEnded p m).pending = s.pending ∧ (s.stopEnded p m).setup = s.setup ∧ (s.stopEnded p m).clock = s.clock ∧
    (s.stopEnded p m).estop = s.estop ∧ (s.stopEnded p m).part = s.part ∧ (s.stopEnded p m).rack = s.rack ∧
    axisInputs (s.stopEnded p m).axes = axisInputs s.axes ∧ (s.stopEnded p m).trig.high = s.trig.high ∧
    (s.stopEnded p m).head.seated = s.head.seated := by
  unfold State.stopEnded
  (repeat' split) <;> simp

@[simp] theorem State.moveAlong_inputs (m : Motion) (more : Nat) (s : State) :
    axisInputs (s.moveAlong m more).axes = axisInputs s.axes := by
  unfold State.moveAlong
  dsimp only
  (repeat' split) <;> simp

@[simp] theorem State.judgeTouches_keeps (c : Image) (q : Qualification) (p : ProbeRecord) (s : State) :
    (s.judgeTouches c q p).pending = s.pending ∧ (s.judgeTouches c q p).setup = s.setup ∧
    (s.judgeTouches c q p).clock = s.clock ∧ (s.judgeTouches c q p).estop = s.estop ∧
    (s.judgeTouches c q p).part = s.part ∧ (s.judgeTouches c q p).rack = s.rack ∧
    axisInputs (s.judgeTouches c q p).axes = axisInputs s.axes ∧ (s.judgeTouches c q p).trig.high = s.trig.high ∧
    (s.judgeTouches c q p).head.seated = s.head.seated := by
  unfold State.judgeTouches
  (repeat' split) <;> simp

@[simp] theorem State.touchesDone_keeps (c : Image) (q : Qualification) (s : State) :
    (s.touchesDone c q).pending = s.pending ∧ (s.touchesDone c q).setup = s.setup ∧
    (s.touchesDone c q).clock = s.clock ∧ (s.touchesDone c q).estop = s.estop ∧ (s.touchesDone c q).part = s.part ∧
    (s.touchesDone c q).rack = s.rack ∧ axisInputs (s.touchesDone c q).axes = axisInputs s.axes ∧
    (s.touchesDone c q).trig.high = s.trig.high ∧ (s.touchesDone c q).head.seated = s.head.seated := by
  unfold State.touchesDone
  (repeat' split) <;> simp

@[simp] theorem State.touchDone_keeps (s : State) :
    (s.touchDone).pending = s.pending ∧ (s.touchDone).setup = s.setup ∧ (s.touchDone).clock = s.clock ∧
    (s.touchDone).estop = s.estop ∧ (s.touchDone).part = s.part ∧ (s.touchDone).rack = s.rack ∧
    axisInputs (s.touchDone).axes = axisInputs s.axes ∧ (s.touchDone).trig.high = s.trig.high ∧
    (s.touchDone).head.seated = s.head.seated := by
  unfold State.touchDone
  dsimp only
  (repeat' split) <;> simp

@[simp] theorem State.arrive_keeps (r : ReturnRecord) (s : State) :
    (s.arrive r).pending = s.pending ∧ (s.arrive r).setup = s.setup ∧ (s.arrive r).clock = s.clock ∧
    (s.arrive r).estop = s.estop ∧ (s.arrive r).part = s.part ∧ (s.arrive r).rack = s.rack ∧
    axisInputs (s.arrive r).axes = axisInputs s.axes ∧ (s.arrive r).trig.high = s.trig.high ∧
    (s.arrive r).head.seated = s.head.seated := by
  unfold State.arrive
  dsimp only
  (repeat' split) <;> simp

@[simp] theorem State.changeArrival_keeps (m : ChangeMove) (s : State) :
    (s.changeArrival m).pending = s.pending ∧ (s.changeArrival m).setup = s.setup ∧
    (s.changeArrival m).clock = s.clock ∧ (s.changeArrival m).estop = s.estop ∧ (s.changeArrival m).part = s.part ∧
    (s.changeArrival m).rack = s.rack ∧ axisInputs (s.changeArrival m).axes = axisInputs s.axes ∧
    (s.changeArrival m).trig.high = s.trig.high ∧ (s.changeArrival m).head.seated = s.head.seated := by
  unfold State.changeArrival
  (repeat' split) <;> simp

@[simp] theorem State.legEnded_keeps (m : Motion) (q : Qualification) (s : State) :
    (s.legEnded m q).pending = s.pending ∧ (s.legEnded m q).setup = s.setup ∧ (s.legEnded m q).clock = s.clock ∧
    (s.legEnded m q).estop = s.estop ∧ (s.legEnded m q).part = s.part ∧ (s.legEnded m q).rack = s.rack ∧
    axisInputs (s.legEnded m q).axes = axisInputs s.axes ∧ (s.legEnded m q).trig.high = s.trig.high ∧
    (s.legEnded m q).head.seated = s.head.seated := by
  unfold State.legEnded
  dsimp only
  (repeat' split) <;> simp

/-- An axis's referenced flag is no input. -/
@[simp] theorem State.updateAxis_referenced_keeps (a : AxisName) (b : Bool) (s : State) :
    (s.updateAxis a (fun x => { x with referenced := b })).pending = s.pending ∧
    (s.updateAxis a (fun x => { x with referenced := b })).setup = s.setup ∧
    (s.updateAxis a (fun x => { x with referenced := b })).clock = s.clock ∧
    (s.updateAxis a (fun x => { x with referenced := b })).estop = s.estop ∧
    (s.updateAxis a (fun x => { x with referenced := b })).part = s.part ∧
    (s.updateAxis a (fun x => { x with referenced := b })).rack = s.rack ∧
    axisInputs (s.updateAxis a (fun x => { x with referenced := b })).axes = axisInputs s.axes ∧
    (s.updateAxis a (fun x => { x with referenced := b })).trig = s.trig ∧
    (s.updateAxis a (fun x => { x with referenced := b })).head = s.head := by
  simp [State.updateAxis]

@[simp] theorem State.scaleFault_keeps (axis : AxisName) (detail : Nat) (s : State) :
    (s.scaleFault axis detail).pending = s.pending ∧ (s.scaleFault axis detail).setup = s.setup ∧
    (s.scaleFault axis detail).clock = s.clock ∧ (s.scaleFault axis detail).estop = s.estop ∧
    (s.scaleFault axis detail).part = s.part ∧ (s.scaleFault axis detail).rack = s.rack ∧
    axisInputs (s.scaleFault axis detail).axes = axisInputs s.axes ∧
    (s.scaleFault axis detail).trig.high = s.trig.high ∧
    (s.scaleFault axis detail).head.seated = s.head.seated := by
  have f := State.updateAxis_referenced_keeps axis false s
  have g := fun r t => State.faultOff_inputs r t
  unfold State.scaleFault
  dsimp only
  split
  · rw [(g _ _).1, (g _ _).2.1, (g _ _).2.2]
    simp [f]
  · simp [f]

/-- The station's own frame, readied. -/
theorem State.ownReady_keeps {f : ShareFrame} {s t : State} (h : s.ownReady f = some t) :
    t.pending = s.pending ∧ t.setup = s.setup ∧ t.clock = s.clock ∧ t.estop = s.estop ∧ t.part = s.part ∧
    t.rack = s.rack ∧ axisInputs t.axes = axisInputs s.axes ∧ t.trig.high = s.trig.high ∧
    t.head.seated = s.head.seated := by
  unfold State.ownReady at h
  (repeat' split at h) <;> first
    | (obtain rfl := (Option.some.inj h).symm; simp)
    | simp at h

@[simp] theorem State.share_keeps (sender : Station) (seq : BitVec 16) (f : ShareFrame) (s : State) :
    (s.share sender seq f).pending = s.pending ∧ (s.share sender seq f).setup = s.setup ∧
    (s.share sender seq f).clock = s.clock ∧ (s.share sender seq f).estop = s.estop ∧
    (s.share sender seq f).part = s.part ∧ (s.share sender seq f).rack = s.rack ∧
    axisInputs (s.share sender seq f).axes = axisInputs s.axes ∧
    (s.share sender seq f).trig.high = s.trig.high ∧ (s.share sender seq f).head.seated = s.head.seated := by
  unfold State.share
  split
  · split
    · next t h =>
      have k := State.ownReady_keeps h
      simp [k]
    · simp
  · split <;> simp

@[simp] theorem State.reload_keeps (s : State) :
    s.reload.pending = s.pending ∧ s.reload.clock = s.clock ∧ s.reload.estop = s.estop ∧ s.reload.part = s.part ∧
    s.reload.rack = s.rack ∧ axisInputs s.reload.axes = axisInputs s.axes ∧ s.reload.trig.high = s.trig.high ∧
    s.reload.head.seated = s.head.seated := by
  unfold State.reload
  simp

@[simp] theorem State.takeRestart_keeps (s : State) :
    s.takeRestart.1.pending = s.pending ∧ s.takeRestart.1.clock = s.clock ∧ s.takeRestart.1.estop = s.estop ∧
    s.takeRestart.1.part = s.part ∧ s.takeRestart.1.rack = s.rack ∧
    axisInputs s.takeRestart.1.axes = axisInputs s.axes ∧ s.takeRestart.1.trig.high = s.trig.high ∧
    s.takeRestart.1.head.seated = s.head.seated := by
  unfold State.takeRestart answer
  (repeat' split) <;> simp

/-- What a command answers from, read for a part that its own effects and its REPLY leave alone. -/
theorem State.command_keeps {α : Type} (g : State → α) (sender : Station) (kind : Nat) (inFault lengthOk : Bool)
    (own : State → Taken) (s : State) (heard : ∀ t : State, g (t.heard sender true) = g t)
    (reply : ∀ (t : State) r data, g (t.reply sender kind r data) = g t) (effect : ∀ t : State, g (own t).1 = g t) :
    g (s.command sender kind inFault lengthOk own) = g s := by
  unfold State.command
  dsimp only
  (repeat' split) <;> simp_all

end Sys2Proof.Machine
end

