-- ==== Sys2Proof/Laws/Lists.lean ====
section
/-! SUPPORT. The list and set operations of Machine/Ops.lean read at a place, and the share table's holders, roster entries and
held sets in terms of them. -/

namespace Sys2Proof.Machine

open Sys2Proof

@[simp] theorem updateAt_length {α : Type} (f : α → α) (n : Nat) (l : List α) : (updateAt f n l).length = l.length := by
  induction n generalizing l with
  | zero => cases l <;> simp [updateAt]
  | succ n ih => cases l <;> simp [updateAt, ih]

/-- An updated list at a place. -/
theorem updateAt_getElem? {α : Type} (f : α → α) (n i : Nat) (l : List α) :
    (updateAt f n l)[i]? = if i = n then l[i]?.map f else l[i]? := by
  induction n generalizing l i with
  | zero => cases l <;> cases i <;> simp [updateAt]
  | succ n ih => cases l <;> cases i <;> simp [updateAt, ih]

@[simp] theorem mapFrom_length {α β : Type} (f : Nat → α → β) (k : Nat) (l : List α) : (mapFrom f k l).length = l.length := by
  induction l generalizing k with
  | nil => rfl
  | cons a l ih => simp [mapFrom, ih]

/-- A mapped list at a place. -/
theorem mapFrom_getElem? {α β : Type} (f : Nat → α → β) (k i : Nat) (l : List α) :
    (mapFrom f k l)[i]? = l[i]?.map (f (k + i)) := by
  induction l generalizing k i with
  | nil => simp [mapFrom]
  | cons a l ih => cases i <;> simp [mapFrom, ih, Nat.add_assoc, Nat.add_comm 1]

/-- A map that changes nothing. -/
theorem mapFrom_id {α : Type} (f : Nat → α → α) (k : Nat) (l : List α) (h : ∀ n a, f n a = a) : mapFrom f k l = l := by
  induction l generalizing k with
  | nil => rfl
  | cons a l ih => simp [mapFrom, h, ih]

/-- A member of a mask of places. -/
theorem placesMask_getLsbD {α : Type} (w : Nat) (p : α → Bool) (k i : Nat) (l : List α) (hi : i < w) :
    (placesMask w p k l).getLsbD i = (decide (k ≤ i) && (l[i - k]?).any p) := by
  induction l generalizing k with
  | nil => simp [placesMask]
  | cons a l ih =>
    simp only [placesMask, BitVec.getLsbD_or, ih]
    by_cases hk : k = i
    · subst hk
      have g : ¬ k + 1 ≤ k := by omega
      by_cases hp : p a <;> simp [hp, hi, g]
    · by_cases hlt : k < i
      · have : i - k = (i - (k + 1)) + 1 := by omega
        have e : ¬ (i - k = 0) := by omega
        by_cases hp : p a <;> simp [hp, this, hi, Nat.succ_le_of_lt hlt, Nat.le_of_lt hlt]
      · have g : ¬ k ≤ i := by omega
        have g' : ¬ k + 1 ≤ i := by omega
        by_cases hp : p a <;> simp [hp, g, g', hi]

/-- An occurrence of an enabled kind is pending in its kind's slot (R172). -/
theorem State.emit_slot (e : Event) (s : State) (m : s.events.mask.getLsbD e.kind = true) (l : s.events.slots.length = 12) :
    ∃ slot, (s.emit e).events.slots[e.kind]? = some slot ∧ slot.pending = some e := by
  have k : e.kind < s.events.slots.length := by cases e <;> simp [Event.kind, l]
  simp only [State.emit, m, if_true, updateAt_getElem?]
  simp [List.getElem?_eq_getElem k]

/-- The other kinds stay as they are (R172). -/
theorem State.emit_other (e : Event) (s : State) (n : Nat) (h : n ≠ e.kind) :
    (s.emit e).events.slots[n]? = s.events.slots[n]? := by
  unfold State.emit
  split <;> simp [updateAt_getElem?, h]

/-! ## The share table at a place -/

/-- The holder of an item whose place the table has. -/
theorem Table.holders_get {t : Table} {i : Nat} (h : i < t.holders.length) : t.holders[i]? = some (t.holder i) := by
  simp [Table.holder, List.getElem?_eq_getElem h]

/-- The items a station holds (Table 4-3). -/
theorem Table.heldBy_bit {t : Table} {i : Nat} (n : Station) (h : i < t.holders.length) (w : i < 24) :
    (t.heldBy n).getLsbD i = true ↔ t.holder i = .station n := by
  simp [Table.heldBy, placesMask_getLsbD _ _ _ _ _ w, Table.holders_get h]

/-- The items closed to a station (R66). -/
theorem Table.closedTo_bit {t : Table} {i : Nat} (n : Station) (h : i < t.holders.length) (w : i < 24) :
    (t.closedTo n).getLsbD i = false ↔ t.holder i = .free ∨ t.holder i = .station n := by
  simp [Table.closedTo, placesMask_getLsbD _ _ _ _ _ w, Table.holders_get h]
  cases t.holder i <;> simp

/-- The items of a list of entries. -/
theorem claimedItems_bit (l : List ClaimEntry) (i : Nat) :
    (claimedItems l).getLsbD i = false ↔ ∀ e ∈ l, e.items.getLsbD i = false := by
  induction l with
  | nil => simp [claimedItems]
  | cons a l ih => simp [claimedItems, ih]

end Sys2Proof.Machine
end

