-- ==== Sys2Proof/Laws/Thermal.lean ====
section
/-! SUPPORT. What a scan completion leaves in one channel and in one peer entry, and what its THERMAL carries (R150 to R152, R155). -/

namespace Sys2Proof.Machine

open Sys2Proof

/-- One channel after a scan (R150, R151): its own result is taken, then its age is judged. -/
theorem scanChannels_get (now : Clock) (c : Image) (results : List (Nat × Judged)) (channels : List Channel) (n : Nat)
    (ch : Channel) (h : channels[n]? = some ch) :
    (scanChannels now c results channels)[n]? =
      some (((results.find? (fun r => r.1 == n)).elim ch (fun r =>
        ch.update now c.cadence.toNat ((c.channels.getD n ⟨false, false, 0, 0, 0⟩).shift) r.2)).ageTo now
          (1000 * c.ageLimit.toNat)) := by
  unfold scanChannels
  rw [mapFrom_getElem?, h]
  simp only [Option.map_some, Nat.zero_add]
  cases results.find? (fun r => r.1 == n) <;> rfl

@[simp] theorem scanChannels_length (now : Clock) (c : Image) (results : List (Nat × Judged)) (channels : List Channel) :
    (scanChannels now c results channels).length = channels.length := by
  unfold scanChannels
  simp

/-- Only a SUBST channel ages (R151). -/
theorem Channel.ageTo_of_ne_subst (now : Clock) (limit : Nat) (c : Channel) (h : c.st ≠ .subst) : c.ageTo now limit = c := by
  unfold Channel.ageTo
  simp [h]

/-- A SUBST channel becomes UNAVAILABLE when its age has reached the limit, and not before (R151). -/
theorem Channel.ageTo_subst (now since : Clock) (limit : Nat) (c : Channel) (h : c.st = .subst) (hs : c.since = some since) :
    c.ageTo now limit = if limit ≤ (now - since).toNat
      then { c with st := .unavailable, since := none, rate := none } else c := by
  unfold Channel.ageTo aged
  simp [h, hs]

/-- A FRESH peer entry becomes SUBST at three sender cadences without an update, and not before (R155). -/
theorem PeerEntry.age_fresh (now updated : Clock) (limit : Nat) (cadence : BitVec 16) (e : PeerEntry) (h : e.st = .fresh)
    (hc : e.cadence = some cadence) (hu : e.updated = some updated) :
    e.age now limit = if 3 * cadence.toNat ≤ (now - updated).toNat then e.substitute now else e := by
  unfold PeerEntry.age aged
  simp [h, hc, hu]

/-- A SUBST peer entry becomes UNAVAILABLE at the age limit, and not before (R155). -/
theorem PeerEntry.age_subst (now since : Clock) (limit : Nat) (e : PeerEntry) (h : e.st = .subst) (hs : e.since = some since) :
    e.age now limit = if limit ≤ (now - since).toNat
      then { e with st := .unavailable, rate := none, since := none } else e := by
  unfold PeerEntry.age aged
  simp [h, hs]

/-- No rate below eight values (R150). -/
theorem rateOf_short (cadence : Nat) (history : List Temp) (new : Temp) (h : history.length < 8) :
    rateOf cadence history new = none := by
  unfold rateOf
  cases history with
  | nil => rfl
  | cons a l =>
    have : l.length ≠ 7 := by simp at h; omega
    simp [this]

/-- What a THERMAL carries (R152): the enabled and shared channels, each with its state and its filtered value, 0 where it has none. -/
theorem thermalContent_mem (c : Image) (channels : List Channel) (n : Nat) (st : ChannelState) (v : Temp) :
    (n, st, v) ∈ (thermalContent c channels).carried ↔
      (n < 12 ∧ n < channels.length ∧ ∃ conf, c.channels[n]? = some conf ∧ conf.enabled = true ∧ conf.shared = true) ∧
        ∃ ch, channels[n]? = some ch ∧ st = ch.st ∧ v = ch.filtered.getD 0 := by
  simp only [thermalContent, List.mem_filterMap, List.mem_range]
  constructor
  · rintro ⟨a, ha, h⟩
    split at h
    · next conf ch h1 h2 =>
      split at h
      · next hc =>
        simp only [Option.some.injEq, Prod.mk.injEq] at h
        obtain ⟨rfl, rfl, rfl⟩ := h
        simp only [Bool.and_eq_true] at hc
        exact ⟨⟨ha, (List.getElem?_eq_some_iff.mp h2).1, conf, h1, hc.1, hc.2⟩, ch, h2, rfl, rfl⟩
      · cases h
    · cases h
  · rintro ⟨⟨ha, hl, conf, h1, h2, h3⟩, ch, h4, rfl, rfl⟩
    exact ⟨n, ha, by simp [h1, h4, h2, h3]⟩

/-- A THERMAL carries its channels in ascending order (R152). -/
theorem thermalContent_ascends (c : Image) (channels : List Channel) :
    (thermalContent c channels).carried.Pairwise (fun x y => x.1 < y.1) := by
  simp only [thermalContent]
  rw [List.pairwise_filterMap]
  refine List.Pairwise.imp ?_ List.pairwise_lt_range
  intro a b hab x hx y hy
  have first : x.1 = a := by
    (repeat' split at hx) <;> cases hx <;> rfl
  have second : y.1 = b := by
    (repeat' split at hy) <;> cases hy <;> rfl
  omega

/-- The THERMAL slot with nothing to carry (R152). -/
@[simp] theorem State.fillThermal_empty (content : ThermalContent) (s : State) (h : content.carried = []) :
    s.fillThermal content = s := by
  simp [State.fillThermal, h]

/-- The THERMAL slot filled, and a THERMAL on the line marked (R152, R56). -/
theorem State.fillThermal_filled (content : ThermalContent) (s : State) (h : content.carried ≠ []) :
    (s.fillThermal content).line = { s.line with
      thermal := some content
      tx := s.line.tx.map (fun tx => if tx.content.isThermal then { tx with renewed := true } else tx) } := by
  simp [State.fillThermal, h]

end Sys2Proof.Machine
end

