-- ==== Sys2Proof/Laws/Drives.lean ====
section
/-! SUPPORT. Drives that are DE_ENERGIZED stay so through every operation but that of DRIVES on (R11): one lemma per operation that
touches the arm. They chain by `simp (maxDischargeDepth := 9)`. -/

namespace Sys2Proof.Machine

open Sys2Proof

@[simp] theorem State.stopFast_off (p : Stopping) (s : State) (h : s.arm.energized = false) :
    (s.stopFast p).arm.energized = false := by
  simp [State.stopFast, h]

@[simp] theorem State.faultFast_off (r : FaultReport) (position : Vec3 Lu) (s : State) (h : s.arm.energized = false) :
    (s.faultFast r position).arm.energized = false := by
  unfold State.faultFast
  dsimp only
  (repeat' split) <;> simp (maxDischargeDepth := 9) [*]

@[simp] theorem State.bringToRest_off (after : AfterStop) (s : State) (h : s.arm.energized = false) :
    (s.bringToRest after).arm.energized = false := by
  unfold State.bringToRest
  (repeat' split) <;> simp (maxDischargeDepth := 9) [*]

@[simp] theorem State.stopAll_off (reason : RunEndReason) (reasonByte : Byte) (s : State) (h : s.arm.energized = false) :
    (s.stopAll reason reasonByte).arm.energized = false := by
  unfold State.stopAll
  dsimp only
  (repeat' split) <;> simp (maxDischargeDepth := 9) [*]

@[simp] theorem State.stopTaken_off (reason : RunEndReason) (reasonByte : Byte) (s : State) (h : s.arm.energized = false) :
    (s.stopTaken reason reasonByte).arm.energized = false := by
  unfold State.stopTaken
  (repeat' split) <;> simp (maxDischargeDepth := 9) [*]

@[simp] theorem State.setTodo_off (t : Start) (s : State) (h : s.arm.energized = false) :
    (s.setTodo t).arm.energized = false := by
  simp [State.setTodo, h]

@[simp] theorem State.formMotion_off (m : Motion) (s : State) (h : s.arm.energized = false) :
    (s.formMotion m).arm.energized = false := by
  simp [State.formMotion, h]

@[simp] theorem State.startStraight_off (act : MotionAct) (origin : Origin) (target : Vec3 Lu) (feed : BitVec 16)
    (required : ZoneSet) (s : State) (h : s.arm.energized = false) :
    (s.startStraight act origin target feed required).arm.energized = false := by
  unfold State.startStraight
  (repeat' split) <;> simp (maxDischargeDepth := 9) [*]

@[simp] theorem State.standInPlace_off (s : State) (h : s.arm.energized = false) : s.standInPlace.arm.energized = false := by
  simp [State.standInPlace, h]

@[simp] theorem State.moveAlong_off (m : Motion) (more : Nat) (s : State) (h : s.arm.energized = false) :
    (s.moveAlong m more).arm.energized = false := by
  unfold State.moveAlong
  (repeat' split) <;> simp (maxDischargeDepth := 9) [*]

@[simp] theorem State.pushOut_off (kind : ExcursionKind) (need : Option ZoneSet) (serves : Bool) (s : State)
    (h : s.arm.energized = false) :
    (s.pushOut kind need serves).arm.energized = false := by
  simp [State.pushOut, h]

@[simp] theorem State.pushChange_off (target : ProbeId) (serves : Bool) (s : State) (h : s.arm.energized = false) :
    (s.pushChange target serves).arm.energized = false := by
  simp [State.pushChange, h]

@[simp] theorem State.completeSegment_off (outcome : SegOutcome) (endSet : ZoneSet) (hold : Bool) (s : State)
    (h : s.arm.energized = false) :
    (s.completeSegment outcome endSet hold).arm.energized = false := by
  unfold State.completeSegment
  dsimp only
  (repeat' split) <;> simp (maxDischargeDepth := 9) [*]

@[simp] theorem State.goToTouch_off (q : Qualification) (touch : Nat) (s : State) (h : s.arm.energized = false) :
    (s.goToTouch q touch).arm.energized = false := by
  unfold State.goToTouch
  (repeat' split) <;> simp (maxDischargeDepth := 9) [*]

@[simp] theorem State.beginTouches_off (s : State) (h : s.arm.energized = false) : s.beginTouches.arm.energized = false := by
  unfold State.beginTouches
  (repeat' split) <;> simp (maxDischargeDepth := 9) [*]

@[simp] theorem State.pop_off (s : State) (h : s.arm.energized = false) : s.pop.arm.energized = false := by
  unfold State.pop
  dsimp only
  (repeat' split) <;> simp (maxDischargeDepth := 9) [*]

@[simp] theorem State.afterChange_off (s : State) (h : s.arm.energized = false) : s.afterChange.arm.energized = false := by
  unfold State.afterChange
  (repeat' split) <;> simp (maxDischargeDepth := 9) [*]

@[simp] theorem State.claimSlots_off (pick : Fin 8) (drop : Option (Fin 8)) (s : State) (h : s.arm.energized = false) :
    (s.claimSlots pick drop).arm.energized = false := by
  simp [State.claimSlots, h]

@[simp] theorem State.chooseSlots_off (r : ChangeRecord) (s : State) (h : s.arm.energized = false) :
    (s.chooseSlots r).arm.energized = false := by
  unfold State.chooseSlots
  (repeat' split) <;> simp (maxDischargeDepth := 9) [*]

@[simp] theorem State.beginChange_off (s : State) (h : s.arm.energized = false) : s.beginChange.arm.energized = false := by
  unfold State.beginChange
  (repeat' split) <;> simp (maxDischargeDepth := 9) [*]

@[simp] theorem State.changeHeld_off (s : State) (h : s.arm.energized = false) : s.changeHeld.arm.energized = false := by
  unfold State.changeHeld
  (repeat' split) <;> simp (maxDischargeDepth := 9) [*]

@[simp] theorem State.startChangeMove_off (m : ChangeMove) (s : State) (h : s.arm.energized = false) :
    (s.startChangeMove m).arm.energized = false := by
  unfold State.startChangeMove
  (repeat' split) <;> simp (maxDischargeDepth := 9) [*]

@[simp] theorem State.queueSlotSet_off (slot : Option (Fin 8)) (contents : Contents) (s : State) (h : s.arm.energized = false) :
    (s.queueSlotSet slot contents).arm.energized = false := by
  unfold State.queueSlotSet
  (repeat' split) <;> simp (maxDischargeDepth := 9) [*]

@[simp] theorem State.pulseStep_off (step : ChangeStep) (kind : PulseKind) (s : State) (h : s.arm.energized = false) :
    (s.pulseStep step kind).arm.energized = false := by
  unfold State.pulseStep
  dsimp only
  (repeat' split) <;> simp (maxDischargeDepth := 9) [*]

@[simp] theorem State.leaveDock_off (m : ChangeMove) (s : State) (h : s.arm.energized = false) :
    (s.leaveDock m).arm.energized = false := by
  simp [State.leaveDock, h]

@[simp] theorem State.headEmptied_off (r : ChangeRecord) (s : State) (h : s.arm.energized = false) :
    (s.headEmptied r).arm.energized = false := by
  unfold State.headEmptied
  dsimp only
  (repeat' split) <;> simp (maxDischargeDepth := 9) [*]

@[simp] theorem State.unlockEnded_off (r : ChangeRecord) (s : State) (h : s.arm.energized = false) :
    (s.unlockEnded r).arm.energized = false := by
  unfold State.unlockEnded
  (repeat' split) <;> simp (maxDischargeDepth := 9) [*]

@[simp] theorem State.headSeated_off (r : ChangeRecord) (s : State) (h : s.arm.energized = false) :
    (s.headSeated r).arm.energized = false := by
  unfold State.headSeated
  (repeat' split) <;> simp (maxDischargeDepth := 9) [*]

@[simp] theorem State.lockEnded_off (r : ChangeRecord) (s : State) (h : s.arm.energized = false) :
    (s.lockEnded r).arm.energized = false := by
  unfold State.lockEnded
  (repeat' split) <;> simp (maxDischargeDepth := 9) [*]

@[simp] theorem State.pulseEnded_off (s : State) (h : s.arm.energized = false) : s.pulseEnded.arm.energized = false := by
  unfold State.pulseEnded
  (repeat' split) <;> simp (maxDischargeDepth := 9) [*]

@[simp] theorem State.unlockStuck_off (r : ChangeRecord) (s : State) (h : s.arm.energized = false) :
    (s.unlockStuck r).arm.energized = false := by
  simp [State.unlockStuck, h]

@[simp] theorem State.lockEmpty_off (r : ChangeRecord) (s : State) (h : s.arm.energized = false) :
    (s.lockEmpty r).arm.energized = false := by
  simp [State.lockEmpty, h]

@[simp] theorem State.identified_off (r : ChangeRecord) (result : ReadResult) (s : State) (h : s.arm.energized = false) :
    (s.identified r result).arm.energized = false := by
  unfold State.identified
  (repeat' split) <;> simp (maxDischargeDepth := 9) [*]

@[simp] theorem State.raiseFailing_off (r : ChangeRecord) (f : FaultCode) (s : State) (h : s.arm.energized = false) :
    (s.raiseFailing r f).arm.energized = false := by
  simp [State.raiseFailing, h]

@[simp] theorem State.judgeIdentity_off (r : ChangeRecord) (s : State) (h : s.arm.energized = false) :
    (s.judgeIdentity r).arm.energized = false := by
  unfold State.judgeIdentity
  (repeat' split) <;> simp (maxDischargeDepth := 9) [*]

@[simp] theorem State.changeArrived_off (m : ChangeMove) (r : ChangeRecord) (s : State) (h : s.arm.energized = false) :
    (s.changeArrived m r).arm.energized = false := by
  unfold State.changeArrived
  (repeat' split) <;> simp (maxDischargeDepth := 9) [*]

@[simp] theorem State.finishChange_off (s : State) (h : s.arm.energized = false) : s.finishChange.arm.energized = false := by
  unfold State.finishChange
  dsimp only
  (repeat' split) <;> simp (maxDischargeDepth := 9) [*]

@[simp] theorem State.changeReleased_off (items : ItemSet) (s : State) (h : s.arm.energized = false) :
    (s.changeReleased items).arm.energized = false := by
  unfold State.changeReleased
  (repeat' split) <;> simp (maxDischargeDepth := 9) [*]

@[simp] theorem State.waitForItems_off (s : State) (h : s.arm.energized = false) : s.waitForItems.arm.energized = false := by
  simp [State.waitForItems, h]

@[simp] theorem State.gateItems_off (t : Start) (s : State) (h : s.arm.energized = false) :
    (s.gateItems t).1.arm.energized = false := by
  unfold State.gateItems
  dsimp only
  (repeat' split) <;> simp (maxDischargeDepth := 9) [*]

@[simp] theorem State.withReferences_off (f : State → State) (s : State) (hf : ∀ u : State, u.arm.energized = false →
    (f u).arm.energized = false) (h : s.arm.energized = false) :
    (s.withReferences f).arm.energized = false := by
  unfold State.withReferences
  split
  · simp [h]
  · exact hf s h

@[simp] theorem State.markProbing_off (probing : Bool) (s : State) (h : s.arm.energized = false) :
    (s.markProbing probing).arm.energized = false := by
  simp [State.markProbing, h]

@[simp] theorem State.startTravel_off (probing : Bool) (t : TravelSpec) (s : State) (h : s.arm.energized = false) :
    (s.startTravel probing t).arm.energized = false := by
  unfold State.startTravel
  dsimp only
  (repeat' split) <;> simp (maxDischargeDepth := 9) [*]

@[simp] theorem State.probePastRing_off (s : State) (h : s.arm.energized = false) : s.probePastRing.arm.energized = false := by
  unfold State.probePastRing
  (repeat' split) <;> simp (maxDischargeDepth := 9) [*]

@[simp] theorem State.gateRing_off (past : Start) (go : State → State) (s : State) (hgo : ∀ u : State, u.arm.energized = false →
    (go u).arm.energized = false) (h : s.arm.energized = false) :
    (s.gateRing past go).arm.energized = false := by
  unfold State.gateRing
  (repeat' split) <;> simp (maxDischargeDepth := 9) [*]

@[simp] theorem State.startProbe_off (t : TravelSpec) (s : State) (h : s.arm.energized = false) :
    (s.startProbe t).arm.energized = false := by
  unfold State.startProbe
  (repeat' split) <;> simp_all (maxDischargeDepth := 9)

@[simp] theorem State.startSegment_off (s : State) (h : s.arm.energized = false) : s.startSegment.arm.energized = false := by
  unfold State.startSegment
  (repeat' split) <;> first | exact h | exact State.withReferences_off _ s (fun u hu => by simp [hu]) h

@[simp] theorem State.startDwell_off (left : BitVec 16) (s : State) (h : s.arm.energized = false) :
    (s.startDwell left).arm.energized = false := by
  simp [State.startDwell, h]

@[simp] theorem State.startBackOff_off (target : Vec3 Lu) (thenHeld : Bool) (s : State) (h : s.arm.energized = false) :
    (s.startBackOff target thenHeld).arm.energized = false := by
  unfold State.startBackOff
  (repeat' split) <;> simp (maxDischargeDepth := 9) [*]

@[simp] theorem State.nextSeek_off (s : State) (h : s.arm.energized = false) : s.nextSeek.arm.energized = false := by
  unfold State.nextSeek
  dsimp only
  (repeat' split) <;> simp (maxDischargeDepth := 9) [*]

@[simp] theorem State.startHome_off (s : State) (h : s.arm.energized = false) : s.startHome.arm.energized = false := by
  unfold State.startHome
  (repeat' split) <;> simp (maxDischargeDepth := 9) [*]

@[simp] theorem State.startMoveOut_off (s : State) (h : s.arm.energized = false) : s.startMoveOut.arm.energized = false := by
  unfold State.startMoveOut
  split <;> first | exact h | exact State.withReferences_off _ s (fun u hu => by simp [hu]) h

@[simp] theorem State.startReturnMove_off (s : State) (h : s.arm.energized = false) :
    s.startReturnMove.arm.energized = false := by
  unfold State.startReturnMove
  (repeat' split) <;> simp (maxDischargeDepth := 9) [*]

@[simp] theorem State.startReturn_off (s : State) (h : s.arm.energized = false) : s.startReturn.arm.energized = false := by
  unfold State.startReturn
  (repeat' split) <;> simp (maxDischargeDepth := 9) [*]

@[simp] theorem State.startLeg_off (s : State) (h : s.arm.energized = false) : s.startLeg.arm.energized = false := by
  unfold State.startLeg
  (repeat' split) <;> simp (maxDischargeDepth := 9) [*]

@[simp] theorem State.touchPastRing_off (s : State) (h : s.arm.energized = false) : s.touchPastRing.arm.energized = false := by
  unfold State.touchPastRing
  (repeat' split) <;> simp (maxDischargeDepth := 9) [*]

@[simp] theorem State.startTouch_off (s : State) (h : s.arm.energized = false) : s.startTouch.arm.energized = false := by
  unfold State.startTouch
  (repeat' split) <;> simp_all (maxDischargeDepth := 9)

@[simp] theorem State.startTouchBack_off (s : State) (h : s.arm.energized = false) : s.startTouchBack.arm.energized = false := by
  unfold State.startTouchBack
  (repeat' split) <;> simp (maxDischargeDepth := 9) [*]

@[simp] theorem State.startPastGate_off (t : Start) (s : State) (h : s.arm.energized = false) :
    (s.startPastGate t).arm.energized = false := by
  unfold State.startPastGate
  (repeat' split) <;> simp (maxDischargeDepth := 9) [*]

@[simp] theorem State.begin__off (t : Start) (s : State) (h : s.arm.energized = false) : (s.begin_ t).arm.energized = false := by
  unfold State.begin_
  dsimp only
  (repeat' split) <;> simp (maxDischargeDepth := 9) [*]

@[simp] theorem State.take_off (seg : Segment) (rest : List Segment) (s : State) (h : s.arm.energized = false) :
    (s.take seg rest).arm.energized = false := by
  unfold State.take
  (repeat' split) <;> simp (maxDischargeDepth := 9) [*]

@[simp] theorem State.resumeExcursion_off (s : State) (h : s.arm.energized = false) :
    s.resumeExcursion.arm.energized = false := by
  simp [State.resumeExcursion, h]

theorem State.advance_off (s t : State) (h : s.arm.energized = false) (ht : s.advance = some t) :
    t.arm.energized = false := by
  unfold State.advance at ht
  split at ht
  · cases ht
  · (repeat' split at ht) <;> cases ht <;> simp [h]

@[simp] theorem State.goOn_off (n : Nat) (s : State) (h : s.arm.energized = false) : (s.goOn n).arm.energized = false := by
  induction n generalizing s with
  | zero => exact h
  | succ n ih =>
    unfold State.goOn
    split
    · next t ht => exact ih t (s.advance_off t h ht)
    · exact h

@[simp] theorem State.settle_off (s : State) (h : s.arm.energized = false) : s.settle.arm.energized = false := by
  exact State.goOn_off 256 s h

@[simp] theorem State.claimTold_off (r : Option Requester) (s : State) (h : s.arm.energized = false) :
    (s.claimTold r).arm.energized = false := by
  unfold State.claimTold
  (repeat' split) <;> simp (maxDischargeDepth := 9) [*]

@[simp] theorem State.claimTimedOut_off (r : Option (Requester × ItemSet)) (s : State) (h : s.arm.energized = false) :
    (s.claimTimedOut r).arm.energized = false := by
  unfold State.claimTimedOut
  (repeat' split) <;> simp (maxDischargeDepth := 9) [*]

@[simp] theorem State.enterQuiet_off (s : State) (h : s.arm.energized = false) : s.enterQuiet.arm.energized = false := by
  simp [State.enterQuiet, h]

@[simp] theorem State.detach_off (cause : DetachCause) (s : State) (h : s.arm.energized = false) :
    (s.detach cause).arm.energized = false := by
  unfold State.detach
  (repeat' split) <;> simp (maxDischargeDepth := 9) [*]

@[simp] theorem State.finish_off (s : State) (h : s.arm.energized = false) : s.finish.arm.energized = false := by
  unfold State.finish
  dsimp only
  (repeat' split) <;> simp (maxDischargeDepth := 9) [*]

@[simp] theorem State.failJoin_off (s : State) (h : s.arm.energized = false) : s.failJoin.arm.energized = false := by
  simp [State.failJoin, h]

@[simp] theorem State.heardCell_off (s : State) (h : s.arm.energized = false) : s.heardCell.arm.energized = false := by
  unfold State.heardCell
  (repeat' split) <;> simp (maxDischargeDepth := 9) [*]

@[simp] theorem State.checkMounted_off (s : State) (h : s.arm.energized = false) : s.checkMounted.arm.energized = false := by
  unfold State.checkMounted
  (repeat' split) <;> simp (maxDischargeDepth := 9) [*]

@[simp] theorem State.queueSlotSense_off (s : State) (h : s.arm.energized = false) : s.queueSlotSense.arm.energized = false := by
  unfold State.queueSlotSense
  (repeat' split) <;> simp (maxDischargeDepth := 9) [*]

@[simp] theorem State.reportRack_off (s : State) (h : s.arm.energized = false) : s.reportRack.arm.energized = false := by
  unfold State.reportRack
  (repeat' split) <;> simp (maxDischargeDepth := 9) [*]

@[simp] theorem State.startTiming_off (t : Table) (s : State) (h : s.arm.energized = false) :
    (s.startTiming t).arm.energized = false := by
  simp [State.startTiming, h]

@[simp] theorem State.becomeAttached_off (t : Table) (s : State) (h : s.arm.energized = false) :
    (s.becomeAttached t).arm.energized = false := by
  unfold State.becomeAttached
  dsimp only
  split <;> simp (maxDischargeDepth := 9) [h]

@[simp] theorem State.found_off (f : JoinFields) (s : State) (h : s.arm.energized = false) :
    (s.found f).arm.energized = false := by
  simp [State.found, h]

@[simp] theorem State.loseOwner_off (gone : StationSet) (s : State) (h : s.arm.energized = false) :
    (s.loseOwner gone).arm.energized = false := by
  unfold State.loseOwner
  (repeat' split) <;> simp (maxDischargeDepth := 9) [*]

@[simp] theorem State.lineApplied_off (p : Station) (f : ShareFrame) (gone : StationSet) (s : State) (h : s.arm.energized = false) :
    (s.lineApplied p f gone).arm.energized = false := by
  simp [State.lineApplied, h]

@[simp] theorem State.snapshotApplied_off (a : Applied) (s : State) (h : s.arm.energized = false) :
    (s.snapshotApplied a).arm.energized = false := by
  unfold State.snapshotApplied
  dsimp only
  (repeat' split) <;> simp (maxDischargeDepth := 9) [*]

@[simp] theorem State.blocksAct_off (p : Station) (f : ShareFrame) (gone : StationSet) (a : Applied) (s : State)
    (h : s.arm.energized = false) :
    (s.blocksAct p f gone a).arm.energized = false := by
  unfold State.blocksAct
  dsimp only
  (repeat' split) <;> simp (maxDischargeDepth := 9) [h]

@[simp] theorem State.applyShare_off (t : Table) (p : Station) (f : ShareFrame) (s : State) (h : s.arm.energized = false) :
    (s.applyShare t p f).arm.energized = false := by
  unfold State.applyShare
  dsimp only
  (repeat' split) <;> simp (maxDischargeDepth := 9) [*]

@[simp] theorem State.logShare_off (p : Station) (seq : BitVec 16) (f : ShareFrame) (s : State) (h : s.arm.energized = false) :
    (s.logShare p seq f).arm.energized = false := by
  unfold State.logShare
  dsimp only
  (repeat' split) <;> simp (maxDischargeDepth := 9) [*]

@[simp] theorem State.keepFoundingImage_off (p : Station) (f : JoinFields) (s : State) (h : s.arm.energized = false) :
    (s.keepFoundingImage p f).arm.energized = false := by
  simp [State.keepFoundingImage, h]

@[simp] theorem State.listenShare_off (p : Station) (f : ShareFrame) (s : State) (h : s.arm.energized = false) :
    (s.listenShare p f).arm.energized = false := by
  unfold State.listenShare
  dsimp only
  (repeat' split) <;> simp (maxDischargeDepth := 9) [*]

@[simp] theorem State.joinUnitTakes_off (p : Station) (seq : BitVec 16) (f : ShareFrame) (s : State) (h : s.arm.energized = false) :
    (s.joinUnitTakes p seq f).arm.energized = false := by
  unfold State.joinUnitTakes
  (repeat' split) <;> simp (maxDischargeDepth := 9) [*]

@[simp] theorem State.shareReceived_off (p : Station) (seq : BitVec 16) (f : ShareFrame) (s : State) (h : s.arm.energized = false) :
    (s.shareReceived p seq f).arm.energized = false := by
  unfold State.shareReceived
  dsimp only
  (repeat' split) <;> simp (maxDischargeDepth := 9) [*]

@[simp] theorem State.adopt_off (t : Table) (s : State) (h : s.arm.energized = false) : (s.adopt t).arm.energized = false := by
  simp [State.adopt, h]

@[simp] theorem State.collect_off (part : SnapshotPart) (s : State) (h : s.arm.energized = false) :
    (s.collect part).arm.energized = false := by
  unfold State.collect
  dsimp only
  (repeat' split) <;> simp (maxDischargeDepth := 9) [*]

@[simp] theorem State.updateAxis_off (a : AxisName) (f : AxisChannel → AxisChannel) (s : State) (h : s.arm.energized = false) :
    (s.updateAxis a f).arm.energized = false := by
  simp [State.updateAxis, h]

@[simp] theorem State.scaleFault_off (axis : AxisName) (detail : Nat) (s : State) (h : s.arm.energized = false) :
    (s.scaleFault axis detail).arm.energized = false := by
  simp [State.scaleFault, h]

@[simp] theorem State.atLoopStep_off (since : BitVec 32) (s : State) (h : s.arm.energized = false) :
    (s.atLoopStep since).arm.energized = false := by
  unfold State.atLoopStep
  (repeat' split) <;> simp (maxDischargeDepth := 9) [*]

@[simp] theorem State.append_off (sender : Station) (seg : Segment) (s : State) (h : s.arm.energized = false) :
    (s.append sender seg).arm.energized = false := by
  unfold State.append
  dsimp only
  (repeat' split) <;> simp (maxDischargeDepth := 9) [*]

@[simp] theorem State.takeSeg_off (sender : Station) (p : List Byte) (s : State) (h : s.arm.energized = false) :
    (s.takeSeg sender p).1.arm.energized = false := by
  unfold State.takeSeg
  (repeat' split) <;> simp (maxDischargeDepth := 9) [answer, *]

@[simp] theorem State.holdStill_off (t : Option Start) (s : State) (h : s.arm.energized = false) :
    (s.holdStill t).arm.energized = false := by
  simp [State.holdStill, h]

@[simp] theorem State.holdMoving_off (s : State) (h : s.arm.energized = false) : s.holdMoving.arm.energized = false := by
  unfold State.holdMoving
  (repeat' split) <;> simp (maxDischargeDepth := 9) [*]

@[simp] theorem State.holdEffect_off (s : State) (h : s.arm.energized = false) : s.holdEffect.arm.energized = false := by
  unfold State.holdEffect
  (repeat' split) <;> simp (maxDischargeDepth := 9) [*]

theorem State.command_off (sender : Station) (kind : Nat) (inFault lengthOk : Bool) (own : State → Taken) (s : State)
    (hown : ∀ u : State, u.arm.energized = false → (own u).1.arm.energized = false) (h : s.arm.energized = false) :
    (s.command sender kind inFault lengthOk own).arm.energized = false := by
  have hh : (s.heard sender true).arm.energized = false := by simp [h]
  have ho := hown _ hh
  unfold State.command
  dsimp only
  (repeat' split) <;> simp [h, ho]

@[simp] theorem State.ask_off (code : Nat) (view : AskFields → State → Result × List ViewField) (sender : Station) (p : List Byte)
    (s : State) (h : s.arm.energized = false) :
    (s.ask code view sender p).arm.energized = false := by
  unfold State.ask
  refine State.command_off _ _ _ _ _ s ?_ h
  intro u hu
  split <;> simpa [answer] using hu

@[simp] theorem State.takeImage_off (c : Image) (s : State) (h : s.arm.energized = false) :
    (s.takeImage c).arm.energized = false := by
  simp [State.takeImage, h]

@[simp] theorem State.takeNoImage_off (s : State) (h : s.arm.energized = false) : s.takeNoImage.arm.energized = false := by
  simp [State.takeNoImage, h]

@[simp] theorem State.startSensing_off (headHigh : Bool) (slotInputs : SlotSet) (s : State) (h : s.arm.energized = false) :
    (s.startSensing headHigh slotInputs).arm.energized = false := by
  unfold State.startSensing
  (repeat' split) <;> simp (maxDischargeDepth := 9) [*]

@[simp] theorem State.loadEnded_off (image : Option Image) (format : BitVec 16) (headHigh : Bool) (slotInputs : SlotSet)
    (s : State) (h : s.arm.energized = false) :
    (s.loadEnded image format headHigh slotInputs).arm.energized = false := by
  unfold State.loadEnded
  dsimp only
  (repeat' split) <;> simp (maxDischargeDepth := 9) [*]

@[simp] theorem State.restartCapture_off (s : State) (h : s.arm.energized = false) : s.restartCapture.arm.energized = false := by
  simp [State.restartCapture, h]

@[simp] theorem State.restartBlocks_off (s : State) (h : s.arm.energized = false) : s.restartBlocks.arm.energized = false := by
  unfold State.restartBlocks
  (repeat' split) <;> simp (maxDischargeDepth := 9) [*]

@[simp] theorem State.reload_off (s : State) (h : s.arm.energized = false) : s.reload.arm.energized = false := by
  simp [State.reload, h]

@[simp] theorem State.leaveCell_off (s : State) (h : s.arm.energized = false) : s.leaveCell.arm.energized = false := by
  unfold State.leaveCell
  dsimp only
  (repeat' split) <;> simp (maxDischargeDepth := 9) [*]

@[simp] theorem State.takeRestart_off (s : State) (h : s.arm.energized = false) : s.takeRestart.1.arm.energized = false := by
  unfold State.takeRestart
  (repeat' split) <;> simp (maxDischargeDepth := 9) [answer, *]

@[simp] theorem State.endLeaveWait_off (s : State) (h : s.arm.energized = false) : s.endLeaveWait.arm.energized = false := by
  unfold State.endLeaveWait
  dsimp only
  (repeat' split) <;> simp (maxDischargeDepth := 9) [*]

@[simp] theorem State.startRun_off (sender : Station) (s : State) (h : s.arm.energized = false) :
    (s.startRun sender).arm.energized = false := by
  unfold State.startRun
  dsimp only
  (repeat' split) <;> simp (maxDischargeDepth := 9) [*]

@[simp] theorem State.takeGo_off (sender : Station) (s : State) (h : s.arm.energized = false) :
    (s.takeGo sender).1.arm.energized = false := by
  unfold State.takeGo
  (repeat' split) <;> simp (maxDischargeDepth := 9) [answer, *]

@[simp] theorem State.takeHold_off (sender : Station) (s : State) (h : s.arm.energized = false) :
    (s.takeHold sender).1.arm.energized = false := by
  unfold State.takeHold
  (repeat' split) <;> simp (maxDischargeDepth := 9) [answer, *]

@[simp] theorem State.takeGoOn_off (sender : Station) (s : State) (h : s.arm.energized = false) :
    (s.takeGoOn sender).1.arm.energized = false := by
  unfold State.takeGoOn
  (repeat' split) <;> simp (maxDischargeDepth := 9) [answer, *]

@[simp] theorem State.takeHome_off (s : State) (h : s.arm.energized = false) : s.takeHome.1.arm.energized = false := by
  unfold State.takeHome
  (repeat' split) <;> simp (maxDischargeDepth := 9) [answer, *]

@[simp] theorem State.takeChange_off (id : ProbeId) (s : State) (h : s.arm.energized = false) :
    (s.takeChange id).1.arm.energized = false := by
  unfold State.takeChange
  (repeat' split) <;> simp (maxDischargeDepth := 9) [answer, *]

@[simp] theorem State.takeQualify_off (s : State) (h : s.arm.energized = false) : s.takeQualify.1.arm.energized = false := by
  unfold State.takeQualify
  (repeat' split) <;> simp (maxDischargeDepth := 9) [answer, *]

@[simp] theorem State.enterShadow_off (s : State) (h : s.arm.energized = false) : s.enterShadow.arm.energized = false := by
  simp [State.enterShadow, h]

@[simp] theorem State.takeShadowOn_off (s : State) (h : s.arm.energized = false) : s.takeShadowOn.1.arm.energized = false := by
  unfold State.takeShadowOn
  (repeat' split) <;> simp (maxDischargeDepth := 9) [answer, *]

@[simp] theorem State.endShadow_off (s : State) (h : s.arm.energized = false) : s.endShadow.arm.energized = false := by
  simp [State.endShadow, h]

@[simp] theorem State.takeShadowOff_off (s : State) (h : s.arm.energized = false) : s.takeShadowOff.1.arm.energized = false := by
  unfold State.takeShadowOff
  (repeat' split) <;> simp (maxDischargeDepth := 9) [answer, *]

@[simp] theorem State.defineProbe_off (d : ProbeDef) (s : State) (h : s.arm.energized = false) :
    (s.defineProbe d).arm.energized = false := by
  unfold State.defineProbe
  (repeat' split) <;> simp (maxDischargeDepth := 9) [*]

@[simp] theorem State.takeProbedef_off (p : List Byte) (s : State) (h : s.arm.energized = false) :
    (s.takeProbedef p).1.arm.energized = false := by
  unfold State.takeProbedef
  (repeat' split) <;> simp (maxDischargeDepth := 9) [answer, *]

@[simp] theorem State.takeReportmark_off (p : List Byte) (s : State) (h : s.arm.energized = false) :
    (s.takeReportmark p).1.arm.energized = false := by
  unfold State.takeReportmark
  (repeat' split) <;> simp (maxDischargeDepth := 9) [answer, *]

@[simp] theorem State.takeEvmask_off (p : List Byte) (s : State) (h : s.arm.energized = false) :
    (s.takeEvmask p).1.arm.energized = false := by
  unfold State.takeEvmask
  (repeat' split) <;> simp (maxDischargeDepth := 9) [answer, *]

@[simp] theorem State.countVeto_off (s : State) (h : s.arm.energized = false) : s.countVeto.arm.energized = false := by
  unfold State.countVeto
  (repeat' split) <;> simp (maxDischargeDepth := 9) [*]

@[simp] theorem State.clearTx_off (s : State) (h : s.arm.energized = false) : s.clearTx.arm.energized = false := by
  simp [State.clearTx, h]

@[simp] theorem State.unsent_off (tx : Tx) (s : State) (h : s.arm.energized = false) : (s.unsent tx).arm.energized = false := by
  unfold State.unsent
  (repeat' split) <;> simp (maxDischargeDepth := 9) [*]

@[simp] theorem State.leaveRingWait_off (s : State) (h : s.arm.energized = false) : s.leaveRingWait.arm.energized = false := by
  unfold State.leaveRingWait
  (repeat' split) <;> simp (maxDischargeDepth := 9) [*]

@[simp] theorem State.joinAccepted_off (f : JoinFields) (seq : BitVec 16) (s : State) (h : s.arm.energized = false) :
    (s.joinAccepted f seq).arm.energized = false := by
  unfold State.joinAccepted
  (repeat' split) <;> simp (maxDischargeDepth := 9) [*]

@[simp] theorem State.await_off (f : ShareFrame) (s : State) (h : s.arm.energized = false) :
    (s.await f).arm.energized = false := by
  simp [State.await, h]

@[simp] theorem State.noteClaim_off (e : M1Entry) (s : State) (h : s.arm.energized = false) :
    (s.noteClaim e).arm.energized = false := by
  simp [State.noteClaim, h]

@[simp] theorem State.shareAccepted_off (f : ShareFrame) (seq : BitVec 16) (s : State) (h : s.arm.energized = false) :
    (s.shareAccepted f seq).arm.energized = false := by
  unfold State.shareAccepted
  (repeat' split) <;> simp (maxDischargeDepth := 9) [*]

@[simp] theorem State.staleAccepted_off (f : ShareFrame) (seq : BitVec 16) (s : State) (h : s.arm.energized = false) :
    (s.staleAccepted f seq).arm.energized = false := by
  unfold State.staleAccepted
  (repeat' split) <;> simp (maxDischargeDepth := 9) [*]

@[simp] theorem State.recordPresence_off (sender : Station) (standing : ZoneSet) (s : State) (h : s.arm.energized = false) :
    (s.recordPresence sender standing).arm.energized = false := by
  unfold State.recordPresence
  (repeat' split) <;> simp (maxDischargeDepth := 9) [*]

@[simp] theorem State.listenPresence_off (sender : Station) (standing : ZoneSet) (shown : JoinShown) (s : State)
    (h : s.arm.energized = false) :
    (s.listenPresence sender standing shown).arm.energized = false := by
  unfold State.listenPresence
  (repeat' split) <;> simp (maxDischargeDepth := 9) [*]

@[simp] theorem State.presenceRecorded_off (sender : Station) (standing : ZoneSet) (shown : JoinShown) (s : State)
    (h : s.arm.energized = false) :
    (s.presenceRecorded sender standing shown).arm.energized = false := by
  unfold State.presenceRecorded
  (repeat' split) <;> simp (maxDischargeDepth := 9) [*]

@[simp] theorem State.contentAccepted_off (tx : Tx) (s : State) (h : s.arm.energized = false) :
    (s.contentAccepted tx).arm.energized = false := by
  unfold State.contentAccepted
  (repeat' split) <;> simp (maxDischargeDepth := 9) [*]

@[simp] theorem State.ownAccepted_off (tx : Tx) (s : State) (h : s.arm.energized = false) :
    (s.ownAccepted tx).arm.energized = false := by
  simp [State.ownAccepted, h]

@[simp] theorem State.retiringVoid_off (tx : Tx) (s : State) (h : s.arm.energized = false) :
    (s.retiringVoid tx).arm.energized = false := by
  unfold State.retiringVoid
  (repeat' split) <;> simp (maxDischargeDepth := 9) [*]

@[simp] theorem State.countVoid_off (s : State) (h : s.arm.energized = false) : s.countVoid.arm.energized = false := by
  unfold State.countVoid
  (repeat' split) <;> simp (maxDischargeDepth := 9) [*]

@[simp] theorem State.ownVoid_off (tx : Tx) (s : State) (h : s.arm.energized = false) : (s.ownVoid tx).arm.energized = false := by
  exact State.countVoid_off _ (State.retiringVoid_off tx _ (State.unsent_off tx s h))

@[simp] theorem State.adoptImage_off (f : ShareFrame) (s : State) (h : s.arm.energized = false) :
    (s.adoptImage f).arm.energized = false := by
  unfold State.adoptImage
  (repeat' split) <;> simp (maxDischargeDepth := 9) [*]

@[simp] theorem State.applyOwn_off (seq : BitVec 16) (f : ShareFrame) (s : State) (h : s.arm.energized = false) :
    (s.applyOwn seq f).arm.energized = false := by
  unfold State.applyOwn
  (repeat' split) <;> simp (maxDischargeDepth := 9) [*]

theorem State.ownReady_off (f : ShareFrame) (s t : State) (h : s.arm.energized = false) (ht : s.ownReady f = some t) :
    t.arm.energized = false := by
  unfold State.ownReady at ht
  split at ht
  · injection ht with ht; subst ht; exact h
  · split at ht
    · injection ht with ht; subst ht; exact State.ownAccepted_off _ s h
    · cases ht

@[simp] theorem State.share_off (sender : Station) (seq : BitVec 16) (f : ShareFrame) (s : State) (h : s.arm.energized = false) :
    (s.share sender seq f).arm.energized = false := by
  unfold State.share
  split
  · split
    · next u hu => simp [s.ownReady_off f u h hu]
    · exact h
  · split <;> simp (maxDischargeDepth := 9) [h]

@[simp] theorem State.endSoak_off (s : State) (h : s.arm.energized = false) : s.endSoak.arm.energized = false := by
  unfold State.endSoak
  (repeat' split) <;> simp (maxDischargeDepth := 9) [*]

@[simp] theorem State.completeScan_off (results : List (Nat × Judged)) (s : State) (h : s.arm.energized = false) :
    (s.completeScan results).arm.energized = false := by
  unfold State.completeScan
  (repeat' split) <;> simp (maxDischargeDepth := 9) [*]

@[simp] theorem State.keepLatchWhileArmed_off (s : State) (h : s.arm.energized = false) :
    s.keepLatchWhileArmed.arm.energized = false := by
  unfold State.keepLatchWhileArmed
  (repeat' split) <;> simp (maxDischargeDepth := 9) [*]

@[simp] theorem State.recordContact_off (position : Vec3 Lu) (s : State) (h : s.arm.energized = false) :
    (s.recordContact position).arm.energized = false := by
  unfold State.recordContact
  (repeat' split) <;> simp (maxDischargeDepth := 9) [*]

@[simp] theorem State.beginBackOff_off (thenHeld : Bool) (s : State) (h : s.arm.energized = false) :
    (s.beginBackOff thenHeld).arm.energized = false := by
  unfold State.beginBackOff
  (repeat' split) <;> simp (maxDischargeDepth := 9) [*]

@[simp] theorem State.contactEnds_off (position : Vec3 Lu) (held : Bool) (s : State) (h : s.arm.energized = false) :
    (s.contactEnds position held).arm.energized = false := by
  unfold State.contactEnds
  dsimp only
  (repeat' split) <;> simp (maxDischargeDepth := 9) [*]

@[simp] theorem State.probingContact_off (position : Vec3 Lu) (s : State) (h : s.arm.energized = false) :
    (s.probingContact position).arm.energized = false := by
  unfold State.probingContact
  (repeat' split) <;> simp (maxDischargeDepth := 9) [*]

@[simp] theorem State.acceptContact_off (position : Vec3 Lu) (s : State) (h : s.arm.energized = false) :
    (s.acceptContact position).arm.energized = false := by
  unfold State.acceptContact
  dsimp only
  (repeat' split) <;> simp (maxDischargeDepth := 9) [*]

@[simp] theorem State.miss_off (s : State) (h : s.arm.energized = false) : s.miss.arm.energized = false := by
  unfold State.miss
  (repeat' split) <;> simp (maxDischargeDepth := 9) [*]

@[simp] theorem State.countFalse_off (s : State) (h : s.arm.energized = false) : s.countFalse.arm.energized = false := by
  unfold State.countFalse
  (repeat' split) <;> simp (maxDischargeDepth := 9) [*]

@[simp] theorem State.triggerTo_off (high : Bool) (s : State) (h : s.arm.energized = false) :
    (s.triggerTo high).arm.energized = false := by
  unfold State.triggerTo
  dsimp only
  (repeat' split) <;> simp (maxDischargeDepth := 9) [*]

@[simp] theorem State.headInWindow_off (seated : Bool) (s : State) (h : s.arm.energized = false) :
    (s.headInWindow seated).arm.energized = false := by
  unfold State.headInWindow
  (repeat' split) <;> simp (maxDischargeDepth := 9) [*]

@[simp] theorem State.headOutside_off (seated : Bool) (s : State) (h : s.arm.energized = false) :
    (s.headOutside seated).arm.energized = false := by
  unfold State.headOutside
  (repeat' split) <;> simp (maxDischargeDepth := 9) [*]

@[simp] theorem State.readForHead_off (result : ReadResult) (s : State) (h : s.arm.energized = false) :
    (s.readForHead result).arm.energized = false := by
  unfold State.readForHead
  (repeat' split) <;> simp (maxDischargeDepth := 9) [*]

theorem State.changesEnded_off (outcomes : List ChangeOutcome) (s : State) (h : s.arm.energized = false) :
    (outcomes.foldl (fun s outcome => s.changeEnded outcome) s).arm.energized = false := by
  induction outcomes generalizing s with
  | nil => exact h
  | cons o os ih => exact ih _ (by simp [h])

@[simp] theorem State.readForJudge_off (result : ReadResult) (s : State) (h : s.arm.energized = false) :
    (s.readForJudge result).arm.energized = false := by
  unfold State.readForJudge
  exact State.changesEnded_off _ _ (by simp [h])

@[simp] theorem State.readForChange_off (result : ReadResult) (forChange : Bool) (s : State) (h : s.arm.energized = false) :
    (s.readForChange result forChange).arm.energized = false := by
  unfold State.readForChange
  (repeat' split) <;> simp (maxDischargeDepth := 9) [*]

@[simp] theorem State.probeAtTarget_off (m : Motion) (s : State) (h : s.arm.energized = false) :
    (s.probeAtTarget m).arm.energized = false := by
  unfold State.probeAtTarget
  (repeat' split) <;> simp (maxDischargeDepth := 9) [*]

@[simp] theorem State.heldAtStandstill_off (held : Bool) (s : State) (h : s.arm.energized = false) :
    (s.heldAtStandstill held).arm.energized = false := by
  unfold State.heldAtStandstill
  (repeat' split) <;> simp (maxDischargeDepth := 9) [*]

@[simp] theorem State.keepBackOff_off (m : Motion) (s : State) (h : s.arm.energized = false) :
    (s.keepBackOff m).arm.energized = false := by
  unfold State.keepBackOff
  (repeat' split) <;> simp (maxDischargeDepth := 9) [*]

@[simp] theorem State.stopEnded_off (p : Stopping) (m : Motion) (s : State) (h : s.arm.energized = false) :
    (s.stopEnded p m).arm.energized = false := by
  unfold State.stopEnded
  (repeat' split) <;> simp (maxDischargeDepth := 9) [*]

@[simp] theorem State.judgeTouches_off (c : Image) (q : Qualification) (p : ProbeRecord) (s : State) (h : s.arm.energized = false) :
    (s.judgeTouches c q p).arm.energized = false := by
  unfold State.judgeTouches
  (repeat' split) <;> simp (maxDischargeDepth := 9) [*]

@[simp] theorem State.touchesDone_off (c : Image) (q : Qualification) (s : State) (h : s.arm.energized = false) :
    (s.touchesDone c q).arm.energized = false := by
  unfold State.touchesDone
  (repeat' split) <;> simp (maxDischargeDepth := 9) [*]

@[simp] theorem State.touchDone_off (s : State) (h : s.arm.energized = false) : s.touchDone.arm.energized = false := by
  unfold State.touchDone
  dsimp only
  (repeat' split) <;> simp (maxDischargeDepth := 9) [*]

@[simp] theorem State.arrive_off (r : ReturnRecord) (s : State) (h : s.arm.energized = false) :
    (s.arrive r).arm.energized = false := by
  unfold State.arrive
  dsimp only
  (repeat' split) <;> simp (maxDischargeDepth := 9) [*]

@[simp] theorem State.changeArrival_off (m : ChangeMove) (s : State) (h : s.arm.energized = false) :
    (s.changeArrival m).arm.energized = false := by
  unfold State.changeArrival
  (repeat' split) <;> simp (maxDischargeDepth := 9) [*]

@[simp] theorem State.legEnded_off (m : Motion) (q : Qualification) (s : State) (h : s.arm.energized = false) :
    (s.legEnded m q).arm.energized = false := by
  unfold State.legEnded
  dsimp only
  (repeat' split) <;> simp (maxDischargeDepth := 9) [*]

@[simp] theorem State.advanceSetpoints_off (m : Motion) (s : State) (h : s.arm.energized = false) :
    (s.advanceSetpoints m).arm.energized = false := by
  simp [State.advanceSetpoints, h]

@[simp] theorem State.tick_off (s : State) (h : s.arm.energized = false) : s.tick.arm.energized = false := by
  unfold State.tick
  (repeat' split) <;> simp (maxDischargeDepth := 9) [*]

end Sys2Proof.Machine
end

