-- ==== Sys2Proof/Laws/Mailbox.lean ====
section
/-! SUPPORT. What queueing a RELEASE does to M1 (R53, R22): merged into a RELEASE at the tail that is not on the line, or appended. -/

namespace Sys2Proof.Machine

open Sys2Proof

/-- A RELEASE at the tail that is not on the line takes the items in. -/
theorem mergeTail_merges (onLine : Bool) (items waiting : ItemSet) (front : List M1Entry) (h : front ≠ [] ∨ onLine = false) :
    mergeTail onLine items (front ++ [.release waiting]) = some (front ++ [.release (waiting ||| items)]) := by
  induction front generalizing onLine with
  | nil => simp_all [mergeTail]
  | cons e rest ih =>
    rw [List.cons_append]
    cases hr : rest ++ [M1Entry.release waiting] with
    | nil => simp at hr
    | cons a l =>
      have := ih false (Or.inr rfl)
      rw [hr] at this
      cases e <;> simp [mergeTail, this]

/-- Nothing else does. -/
theorem mergeTail_appends (onLine : Bool) (items : ItemSet) (m1 : List M1Entry)
    (h : ∀ front waiting, m1 = front ++ [.release waiting] → front = [] ∧ onLine = true) : mergeTail onLine items m1 = none := by
  induction m1 generalizing onLine with
  | nil => rfl
  | cons e rest ih =>
    cases rest with
    | nil =>
      cases e with
      | release i => simp [mergeTail, (h [] i rfl).2]
      | _ => rfl
    | cons a l =>
      have := ih false (fun front waiting hh => by
        have := (h (e :: front) waiting (by simp [hh])).1
        simp at this)
      cases e <;> simp [mergeTail, this]

/-- What `queueRelease` does, once and for all: a station with a table queues the items (R22, R53). -/
theorem State.queueRelease_releases (items : ItemSet) (s : State) (h : items ≠ 0 → s.table ≠ none) :
    s.releases items (s.queueRelease items) := by
  refine ⟨fun h0 => by simp [State.queueRelease, h0], fun h0 => ?_⟩
  have cond : (items == 0 || s.table.isNone) = false := by
    have ht := h h0
    cases hs : s.table <;> simp_all
  refine ⟨?_, ?_⟩
  · rintro front waiting ⟨h1, h2⟩
    simp only [State.queueRelease, cond, h1, mergeTail_merges s.m1OnLine items waiting front h2]
    rfl
  · intro hn hl
    have := mergeTail_appends s.m1OnLine items s.line.m1 (fun front waiting hh => by
      have := hn front waiting
      simp only [hh, true_and] at this
      simpa using this)
    simp only [State.queueRelease, cond, this, State.pushM1, hl]
    rfl

/-- A station without a table holds nothing. -/
theorem State.table_of_heldOutside {z : ZoneSet} {s : State} (h : s.heldOutside z ≠ 0) : s.table ≠ none := by
  intro hn
  apply h
  simp [State.heldOutside, State.held, hn, zoneItems, itemZones]

/-- What `releaseOutside` does: the zones held outside the given ones are queued for release. -/
theorem State.releaseOutside_releases (z : ZoneSet) (s : State) : s.releases (s.heldOutside z) (s.releaseOutside z) :=
  s.queueRelease_releases _ State.table_of_heldOutside

/-- Only the two M1s, and whether the first one's head is on the line, matter. -/
theorem State.releases_congr {items : ItemSet} {s u s' u' : State} (h : s.releases items u) (hs : s'.line.m1 = s.line.m1)
    (ho : s'.m1OnLine = s.m1OnLine) (hu : u'.line.m1 = u.line.m1) : s'.releases items u' := by
  unfold State.releases at *
  rw [hs, ho, hu]
  exact h

end Sys2Proof.Machine
end

