-- ==== Sys2Proof/Laws/Share.lean ====
section
/-! SUPPORT. The application of a share frame in parts: when dropping the leavers changes nothing, when the grant walk changes
nothing, and what the walk leaves alone (R62, R66). -/

namespace Sys2Proof.Machine

open Sys2Proof

/-- A change that leaves the roster alone takes no entry out of the list (R62). -/
theorem Table.dropLeavers_of_roster (before t : Table) (h : t.roster = before.roster) : t.dropLeavers before = t := by
  unfold Table.dropLeavers Table.entry
  rw [h]
  have keeps : t.claims.filter (fun e =>
      !((before.roster.getD e.station.val RosterEntry.initial).state == .attached &&
        (before.roster.getD e.station.val RosterEntry.initial).state != .attached)) = t.claims := by
    apply List.filter_eq_self.2
    intro a _
    generalize (before.roster.getD a.station.val RosterEntry.initial).state = z
    cases z <;> rfl
  rw [keeps]
  cases t
  simp_all

/-- A walk over entries of which none is grantable grants none (R66). -/
theorem Table.walk_of_none (rest kept : List ClaimEntry) (t : Table)
    (h : ∀ before after e, kept ++ rest = before ++ e :: after → kept.length ≤ before.length → t.grantable before e = false) :
    Table.walk kept rest t = ({ t with claims := kept ++ rest }, []) := by
  induction rest generalizing kept with
  | nil => simp [Table.walk]
  | cons e r ih =>
    have no := h kept r e rfl (Nat.le_refl _)
    simp only [Table.walk, no]
    rw [if_neg (by simp), ih]
    · simp
    · intro b a e' eq le
      apply h b a e'
      · simpa using eq
      · simp at le; omega

/-- A table with the holders and list of one that has no grantable entry stays as it is under the walk (R66). -/
theorem Table.grantWalk_of_none (t u : Table) (h : t.nothingGrantable) (holders : u.holders = t.holders)
    (claims : u.claims = t.claims) : u.grantWalk.1 = u := by
  unfold Table.grantWalk
  rw [Table.walk_of_none]
  · cases u; simp_all
  · intro b a e eq _
    have no := h b a e (by rw [← claims]; simpa using eq)
    unfold Table.grantable Table.closedTo at *
    rw [holders]
    exact no

/-- The walk leaves sequence, slot records and answering station alone, and the lengths of roster and holders (R66). -/
theorem Table.walk_frame (rest kept : List ClaimEntry) (t : Table) :
    (Table.walk kept rest t).1.seq = t.seq ∧ (Table.walk kept rest t).1.slots = t.slots ∧
    (Table.walk kept rest t).1.answering = t.answering ∧
    (Table.walk kept rest t).1.roster.length = t.roster.length ∧
    (Table.walk kept rest t).1.holders.length = t.holders.length := by
  induction rest generalizing kept t with
  | nil => simp [Table.walk]
  | cons e r ih =>
    simp only [Table.walk]
    split
    · simp [ih, Table.grant]
    · simp [ih]

/-- The choice of the answering station leaves the table's content alone (R84). -/
theorem Table.serve_frame (p : Station) (f : ShareFrame) (t : Table) :
    (t.serve p f).1.seq = t.seq ∧ (t.serve p f).1.roster = t.roster ∧ (t.serve p f).1.holders = t.holders ∧
    (t.serve p f).1.slots = t.slots ∧ (t.serve p f).1.claims = t.claims := by
  unfold Table.serve
  (repeat' split) <;> simp

/-- A member of the set of one station. -/
theorem stationBit_getLsbD (p n : Station) : (stationBit p).getLsbD n.val = decide (n = p) := by
  revert n p
  unfold stationBit
  decide

/-- Which stations a frame takes out of the cell: those that a LOST names or that send a LEAVE, when they are in it (R71, R72). -/
theorem Table.leaving_getLsbD (t : Table) (p : Station) (f : ShareFrame) (n : Station) :
    (t.leaving p f).getLsbD n.val = true ↔ (t.entry n).state.inCell = true ∧
      ((∃ stations, f = .lost stations ∧ stations.getLsbD n.val = true) ∨ (f = .leave ∧ n = p)) := by
  unfold Table.leaving Table.entry
  rw [BitVec.getLsbD_and, placesMask_getLsbD _ _ _ _ _ n.isLt, List.getD_eq_getElem?_getD]
  have h := stationBit_getLsbD p n
  cases hr : t.roster[n.val]? <;> cases f <;> simp_all [RosterEntry.initial, RosterState.inCell]

end Sys2Proof.Machine
end

