-- ==== Sys2Proof/Laws/Wire.lean ====
section
/-! SUPPORT. What `stopFrom` can answer (R43, R45): nothing while the levels read are those driven and no sixth equal one comes, nothing in
the slots and in End, a stop at a sixth equal bit at the latest, and a bit error where no recessive bit was read dominant. -/

namespace Sys2Proof.Machine

open Sys2Proof

/-- No sixth bit of equal level comes. -/
def noSix (last : Bool) (run : Nat) : List Bool → Prop
  | [] => True
  | b :: rest =>
    let run' := if b == last then run + 1 else 1
    run' < 6 ∧ noSix b run' rest

/-- A stuffed line has no sixth bit of equal level (R42). -/
theorem noSix_stuffFrom : ∀ (bits : List Bool) (last : Bool) (run : Nat), run ≤ 4 → noSix last run (stuffFrom last run bits)
  | [], _, _, _ => trivial
  | b :: rest, last, run, h => by
    simp only [stuffFrom]
    by_cases e : b = last
    · subst e
      simp only [beq_self_eq_true, if_true]
      by_cases f : run + 1 = 5
      · have hb : ((!b) == b) = false := by cases b <;> rfl
        simp only [f, beq_self_eq_true, if_true, noSix, hb, Bool.false_eq_true, if_false]
        exact ⟨by omega, by omega, noSix_stuffFrom rest (!b) 1 (by omega)⟩
      · have f' : (run + 1 == 5) = false := by simpa using f
        simp only [f', Bool.false_eq_true, if_false, noSix, beq_self_eq_true, if_true]
        exact ⟨by omega, noSix_stuffFrom rest b (run + 1) (by omega)⟩
    · have e' : (b == last) = false := by simpa using e
      have g := noSix_stuffFrom rest b 1 (by omega)
      simpa [e', noSix] using g

/-- Nor has a part of such a line from its start. -/
theorem noSix_of_append : ∀ (one two : List Bool) (last : Bool) (run : Nat), noSix last run (one ++ two) → noSix last run one
  | [], _, _, _, _ => trivial
  | b :: one, two, _, _, h => ⟨h.1, noSix_of_append one two b _ h.2⟩

/-- Bits judged in the arbitration field or the body. -/
def judged (D : List DrivenBit) : Prop := ∀ d ∈ D, d.part = .arbitration ∨ d.part = .body

/-- A bit read as it was driven is no stop, but for a sixth equal one. -/
theorem DrivenBit.stop_own_level (d : DrivenBit) (sixth : Bool) (h : sixth = false) : d.stop d.level sixth = none := by
  subst h; obtain ⟨p, l⟩ := d
  cases p <;> cases l <;> rfl

/-- Levels read as they were driven lead on to the bits that follow. -/
theorem stopFrom_own_levels : ∀ (D E : List DrivenBit) (R : List Bool) (last : Bool) (run : Nat),
    noSix last run (D.map (·.level)) →
    ∃ last' run', stopFrom last run (D ++ E) (D.map (·.level) ++ R) =
      (stopFrom last' run' E R).map (fun p => (p.1 + D.length, p.2))
  | [], E, R, last, run, _ => ⟨last, run, by cases h : stopFrom last run E R <;> simp [h]⟩
  | d :: D, E, R, last, run, h => by
    obtain ⟨l, r, e⟩ := stopFrom_own_levels D E R d.level _ h.2
    refine ⟨l, r, ?_⟩
    have s6 : decide (6 ≤ if d.level == last then run + 1 else 1) = false := by simpa using h.1
    simp only [List.cons_append, List.map_cons, stopFrom, DrivenBit.stop_own_level d _ s6, e, Option.map_map, List.length_cons]
    congr 1

/-- The slots and End are no stop (R45). -/
theorem stopFrom_slots_and_end : ∀ (E : List DrivenBit) (R : List Bool) (last : Bool) (run : Nat),
    (∀ d ∈ E, d.part ≠ .arbitration ∧ d.part ≠ .body) → stopFrom last run E R = none
  | [], R, _, _, _ => by cases R <;> rfl
  | _ :: _, [], _, _, _ => rfl
  | d :: E, r :: R, last, run, h => by
    have hd := h d (by simp)
    have : d.stop r (decide (6 ≤ if r == last then run + 1 else 1)) = none := by
      obtain ⟨p, l⟩ := d; cases p <;> simp_all [DrivenBit.stop]
    simp only [stopFrom, this, stopFrom_slots_and_end E R r _ (fun x hx => h x (by simp [hx])), Option.map_none]

/-- Enough bits of the level just read stop the sender. -/
theorem stopFrom_run_of_equal : ∀ (n : Nat) (b : Bool) (run : Nat) (D : List DrivenBit) (tail : List Bool),
    6 ≤ run + n → 1 ≤ n → n ≤ D.length → judged (D.take n) → ∃ k why, k < n ∧ stopFrom b run D (List.replicate n b ++ tail) = some (k, why)
  | n + 1, b, run, d :: D, tail, h6, _, hl, hj => by
    simp only [List.replicate_succ, List.cons_append, stopFrom, beq_self_eq_true, if_true]
    cases hs : d.stop b (decide (6 ≤ run + 1)) with
    | some why => exact ⟨0, why, by omega, rfl⟩
    | none =>
      have hr : ¬ 6 ≤ run + 1 := by
        intro h
        have := hj d (by simp)
        obtain ⟨p, l⟩ := d
        rcases this with rfl | rfl <;> simp only [DrivenBit.stop, h] at hs <;> split at hs <;> simp_all
      obtain ⟨k, why, hk, e⟩ := stopFrom_run_of_equal n b (run + 1) D tail (by omega) (by omega) (by simpa using hl)
        (fun x hx => hj x (by simp [hx]))
      exact ⟨k + 1, why, by omega, by simp [e]⟩

/-- Six bits of equal level stop the sender, at the sixth at the latest (R45). -/
theorem stopFrom_six_equal : ∀ (before : List Bool) (last : Bool) (run : Nat) (D : List DrivenBit) (b : Bool) (tail : List Bool),
    before.length + 6 ≤ D.length → judged (D.take (before.length + 6)) →
    ∃ k why, k < before.length + 6 ∧ stopFrom last run D (before ++ (List.replicate 6 b ++ tail)) = some (k, why)
  | [], last, run, d :: D, b, tail, hl, hj => by
    by_cases e : last = b
    · subst e
      obtain ⟨k, why, hk, h⟩ := stopFrom_run_of_equal 6 last run (d :: D) tail (by omega) (by omega) (by simpa using hl)
        (by simpa using hj)
      exact ⟨k, why, by simpa using hk, by simpa using h⟩
    · have e' : (b == last) = false := by simpa using fun h => e h.symm
      have : List.replicate 6 b ++ tail = b :: (List.replicate 5 b ++ tail) := rfl
      simp only [List.nil_append, this, stopFrom, e', Bool.false_eq_true, if_false]
      cases hs : d.stop b (decide (6 ≤ 1)) with
      | some why => exact ⟨0, why, by simp, rfl⟩
      | none =>
        obtain ⟨k, why, hk, h⟩ := stopFrom_run_of_equal 5 b 1 D tail (by omega) (by omega) (by simp at hl; omega)
          (fun x hx => hj x (by simp [hx]))
        exact ⟨k + 1, why, by simp; omega, by rw [h]; rfl⟩
  | c :: before, last, run, d :: D, b, tail, hl, hj => by
    simp only [List.cons_append, stopFrom]
    cases hs : d.stop c _ with
    | some why => exact ⟨0, why, by simp, rfl⟩
    | none =>
      obtain ⟨k, why, hk, h⟩ := stopFrom_six_equal before c _ D b tail (by simp at hl; omega)
        (fun x hx => hj x (by
          simp only [List.length_cons]
          rw [show before.length + 1 + 6 = (before.length + 6) + 1 by omega, List.take_succ_cons]
          simp [hx]))
      exact ⟨k + 1, why, by simp; omega, by rw [h]; rfl⟩
  | [], _, _, [], _, _, hl, _ => by simp at hl
  | _ :: _, _, _, [], _, _, hl, _ => by simp at hl

/-- A sender that has read no recessive bit dominant stops for a bit error (R43, R45). -/
theorem stopFrom_reason : ∀ (R : List Bool) (last : Bool) (run : Nat) (D : List DrivenBit) (k : Nat) (why : SenderStop),
    stopFrom last run D R = some (k, why) →
    (∀ i d r, i ≤ k → D[i]? = some d → R[i]? = some r → d.level = true → r = true) → why = .bitError
  | [], _, _, D, _, _, h, _ => by cases D <;> simp [stopFrom] at h
  | _ :: _, _, _, [], _, _, h, _ => by simp [stopFrom] at h
  | r :: R, last, run, d :: D, k, why, h, hp => by
    simp only [stopFrom] at h
    cases hs : d.stop r (decide (6 ≤ if r == last then run + 1 else 1)) with
    | some w =>
      simp only [hs, Option.some.injEq, Prod.mk.injEq] at h
      obtain ⟨rfl, rfl⟩ := h
      have := hp 0 d r (by omega) rfl rfl
      obtain ⟨p, l⟩ := d
      cases p <;> cases l <;> cases r <;> simp_all [DrivenBit.stop]
    | none =>
      simp only [hs] at h
      cases hr : stopFrom r (if r == last then run + 1 else 1) D R with
      | none => rw [hr] at h; simp at h
      | some q =>
        simp only [hr, Option.map_some, Option.some.injEq, Prod.mk.injEq] at h
        refine stopFrom_reason R r _ D q.1 why (by rw [hr, ← h.2]) ?_
        intro i d' r' hi hd hr'
        exact hp (i + 1) d' r' (by omega) hd hr'

end Sys2Proof.Machine
end

