-- ==== Sys2Proof/Tests/Slice0.lean ====
section
/-! SUPPORT. Tests: ill-formed commands that the check refuses, published values, single steps on small states, and for every
statement a concrete state and operands that meet its hypotheses. -/

namespace Sys2Proof.Tests

open Sys2Proof Sys2Proof.Machine

set_option Elab.async false
set_option synthInstance.maxSize 1024

/-! ## Well-formed commands -/

theorem test_wellFormed_lengths : ([Instr.seg 7 (List.replicate 49 0), .go 7 (List.replicate 49 0),
    .hold 7 (List.replicate 49 0), .goOn 7 (List.replicate 49 0), .stop 7 (List.replicate 49 0),
    .home 7 (List.replicate 49 0), .change 7 (List.replicate 49 0), .qualify 7 (List.replicate 49 0),
    .probedef 7 (List.replicate 49 0), .part 7 (List.replicate 49 0), .reportmark 7 (List.replicate 49 0),
    .evmask 7 (List.replicate 49 0), .restart 7 (List.replicate 49 0), .thermal 3 [0],
    .askStatus 7 (List.replicate 49 0), .drivesOn 7 (List.replicate 49 0)].all (fun c => !c.wellFormed)) = true := by
  decide +kernel

theorem test_wellFormed_arguments : ([Instr.drivesOn 7 [0], .drivesOff 7 [1], .shadowOn 7 [0], .shadowOff 7 [1],
    .askStatus 7 [1, 0, 0, 0], .askPosition 7 [0, 0, 0, 0], .askChannel 7 [3, 0, 0, 0], .askPeer 7 [2, 0, 0, 0],
    .askProbe 7 [5, 0, 0, 0], .askPoint 7 [4, 0, 0, 0], .askQueue 7 [7, 0, 0, 0], .askShare 7 [6, 0, 0, 0],
    .askIdent 7 [7, 0, 0, 0]].all (fun c => !c.wellFormed)) = true := by
  decide +kernel

/-- A header that passes R44: SEG from station 7 to station 0. -/
def goodHeader : FrameHeader := { cls := 2, source := 7, kind := 0x20, dest := 0, length := 4, seq := 0 }

/-- A header of PRESENCE from station 3. -/
def presenceHeader : FrameHeader := { cls := 3, source := 3, kind := 0x38, dest := 15, length := 16, seq := 0 }

theorem test_wellFormed_frames : ([Instr.snapshot 1 { seq := 1, body := .roster .join [] },
    .snapshot 1 { seq := 1, body := .zonesLow [.free] }, .snapshot 1 { seq := 1, body := .zonesHigh [] },
    .snapshot 1 { seq := 1, body := .slots (List.replicate 8 .free) [] },
    .snapshot 1 { seq := 1, body := .claims (List.replicate 9 (0, 0)) },
    .observedFoundingJoin 1 1 { role := .arm, standing := 0, founding := false, serves := true },
    .receivedFrameVoid ⟨{ goodHeader with dest := 9 }, none⟩, .receivedFrameVoid ⟨goodHeader, some .listening⟩,
    .receivedFrameVoid ⟨presenceHeader, none⟩, .frameAbandoned (.header goodHeader)].all
      (fun c => !c.wellFormed)) = true := by
  decide +kernel

theorem test_wellFormed_accepts : ([Instr.estop, .seg 7 [0, 1, 2, 0, 0, 10], .drivesOn 7 [1], .drivesOn 7 [2],
    .askIdent 7 [8, 0, 0, 0], .askIdent 7 [9, 0, 0, 0], .receivedFrameVoid ⟨goodHeader, none⟩,
    .receivedFrameVoid ⟨presenceHeader, some .listening⟩, .frameAbandoned .stuffViolation,
    .thermal 3 [0, 100]].all Instr.wellFormed) = true := by
  decide +kernel

/-! ## Small states -/

/-- One axis of the test image. -/
def axisConf : AxisConf :=
  { resolution := 5, senseNegative := false, softMin := 0xFF000000, softMax := 0x00FF0000, following := 1000,
    positionGain := 10, feedGain := 10, deceleration := 1000, reference := 0, homeMinus := true, homeFeed := 50 }

/-- The test image: three like axes, zones 0 and 1 of homing, one probe that needs no width. -/
def conf : Image :=
  { axes := ⟨axisConf, axisConf, axisConf⟩, order := [.z, .x, .y], homeZones := 3, powerOnStanding := 1, homeStanding := 1,
    rack := List.replicate 8 { approach := ⟨100, 0, 500⟩, dock := ⟨100, 0, 400⟩ }, sphereCentre := ⟨2000, 2000, 200⟩,
    sphereDiameter := 2500, sphereApproach := ⟨2000, 2000, 9000⟩, clearance := 200, park := ⟨30, 30, 900⟩,
    rackCorridor := 0x10, sphereCorridor := 0x20, parkCorridor := 0x40, excursionFeed := 500, dockFeed := 100,
    touchFeed := 100, retract := 50, pulseWidth := 100, releaseTime := 500, seatTime := 500, claimTimeout := 5,
    probeDefs := [{ id := 100, radius := 20, offset := ⟨0, 0, 0xFFFFFC00⟩, polarity := .rising, width := 100 }],
    channels := ⟨true, true, 2, 15000, 0xEC78⟩ :: List.replicate 11 ⟨false, false, 0, 15000, 0xEC78⟩, cadence := 1000,
    ageLimit := 60, watch := [(3, 2)],
    roles := List.replicate 5 { primary := .local 0, fallback := none }, scaleCoeff := ⟨800, 800, 800⟩, rateLimit := 100,
    settleTime := 0, policyFlag := true, band := 100, tolerance := 500, autoQualify := false, reportLevel := 4,
    reportTimeout := 100, eventMask := 0x0FFF, lowMark := 2, soakLimit := 5 }

/-- The qualified record of probe 100. -/
def record : ProbeRecord :=
  { defined := { id := 100, radius := 20, offset := ⟨0, 0, 0xFFFFFC00⟩, polarity := .rising, width := 100 },
    qual := .qualified, data := some { offset := ⟨1, 2, 3⟩, radius := 20, temp := 2000 }, homeSlot := none }

/-- A table in which the station is an arm, station 3 an arm and station 7 a planner, all ATTACHED; the station holds zone 0,
station 3 zone 2, and zone 3 is FENCED. -/
def tbl : Table :=
  { Table.initial with
    seq := 3
    roster := [⟨.attached, .arm, true, 0, 1⟩, RosterEntry.initial, RosterEntry.initial, ⟨.attached, .arm, true, 0, 4⟩,
      RosterEntry.initial, RosterEntry.initial, RosterEntry.initial, ⟨.attached, .planner, false, 0, 0⟩]
    holders := [.station 0, .free, .station 3, .fenced 5] ++ List.replicate 20 .free
    slots := ⟨.probe 200, .notReported⟩ :: List.replicate 7 ⟨.empty, .notReported⟩ }

/-- An axis that is referenced. -/
def axis : AxisChannel := { AxisChannel.cold false false false with referenced := true }

/-- Loaded, ATTACHED, drives on, the arm STILL, a probe mounted, no run. -/
def cell : State :=
  { State.reset with
    setup := { straps := { station := 0, rate := 0, rackHost := true }, load := .loaded, image := some conf, format := 0x5201 }
    clock := 10000
    axes := ⟨axis, axis, axis⟩
    arm := { Arm.cold with st := .still, energized := true, standing := 1 }
    line := { Line.cold with active := true, presenceTimer := some 9990 }
    join := { Join.cold with st := .attached }
    table := some tbl
    probes := [record]
    mounted := .resolved 100
    head := { State.reset.head with seated := true }
    cap := { State.reset.cap with level := 4, timeout := 100 }
    thermal := Thermal.ofImage 9000 conf }

/-- A travel from the origin to a place. -/
def travel : Motion :=
  { act := .travel, origin := .segment, startedAt := ⟨0, 0, 0⟩, target := some ⟨100, 200, 300⟩, feed := some 100, required := 1,
    dwellLeft := none, falseTriggers := 0, atTarget := false, thenHeld := false }

/-- The same motion as the travel of a PROBE. -/
def probing : Motion := { travel with probing := true }

/-- A travel's fields. -/
def spec : TravelSpec := { target := ⟨100, 200, 300⟩, feed := 100, need := 1, endSet := 2 }

/-- A segment of the given body. -/
def seg (body : SegmentBody) : Segment := { tag := 77, last := false, body := body }

/-- The same state with the arm executing the given motion for the given segment. -/
def moving (m : Motion) (g : Segment) : State :=
  { cell with
    arm := { cell.arm with st := .moving, motion := some m, begun := m.required }
    run := { Run.cold with st := .active, owner := some 7, current := some g } }

/-- The same state with the drives DE_ENERGIZED. -/
def dead : State := { cell with arm := { cell.arm with st := .off, energized := false } }

/-- The same state with a stand-alone excursion on its stack. -/
def away (kind : ExcursionKind) (m : Motion) : State :=
  { moving m (seg (.dwell 5)) with
    run := { Run.cold with stack := [{ kind := kind, position := ⟨0, 0, 0⟩, standing := 1, need := none, serves := false }] } }

/-- A motion in another act. -/
def acting (act : MotionAct) (origin : Origin) : Motion := { travel with act := act, origin := origin }

/-- A change of the given step and wait. -/
def changing (step : ChangeStep) (wait : ChangeWait) : ChangeRecord :=
  { ChangeRecord.new 4 200 true with step := step, wait := wait, pick := some 0, drop := some 1 }

/-- A point at the given clock value. -/
def point (n : Nat) (report : Station) : Point :=
  { number := BitVec.ofNat 16 n, tag := 77, report := report, time := 9000, raw := ⟨0, 0, 0⟩, tip := ⟨0, 0, 0⟩,
    corrected := ⟨0, 0, 0⟩, probe := 100, radius := 20, temps := [],
    flags := { unsettled := false, degraded := false, uncorrected := false, shadow := false } }

/-- The state with a frame of its own on the line. -/
def sending (content : TxContent) (won : Bool) : State :=
  { cell with line := { cell.line with tx := some { offer content 15 with won := won } } }

/-! ## Published values -/

/-- The check value of the CRC of Table 3-1, over the bits of the digits 1 to 9. -/
theorem test_crc16_check_value : crc16 ((List.range 9).flatMap (fun n => bitsOf 8 (0x31 + n))) = 0x29B1#16 := by
  decide +kernel

/-- The three contenders of Table 3-2. -/
theorem test_arbitration_fields :
    (arbitrationField 1 5, arbitrationField 2 7, arbitrationField 3 2) = (13, 23, 26) := by decide

/-- Stuffing of five and six equal bits. -/
theorem test_stuffing : stuff (List.replicate 6 true) = List.replicate 5 true ++ [false, true] ∧
    unstuff (List.replicate 5 true ++ [false, true]) = some (List.replicate 6 true) ∧
    unstuff (List.replicate 6 true) = none := by decide +kernel

/-- A LEAVE of station 3, whose line has its first recessive bit in the arbitration field. -/
def leaveHeader : FrameHeader := { cls := 1, source := 3, kind := 0x0A, dest := 15, length := 0, seq := 1 }

/-- What the LEAVE's line reads with the bit at one place read as another level, and the rest as driven. -/
def misread (place : Nat) (level : Bool) : List Bool :=
  let line := (drivenBits leaveHeader []).map (·.level)
  line.take place ++ [level] ++ line.drop (place + 1)

/-- The sender of a LEAVE, 54 bits with four inserted: a recessive bit read dominant in the arbitration field (to place 5), in the body
(from place 6 to 57, the last of the CRC; place 21 is inserted), in the two slots and in End. -/
theorem test_sender_reads_back : (stuff (frameBits leaveHeader [])).length = 58 ∧ fieldLength leaveHeader [] = 6 ∧
    [2, 5, 8, 21, 57, 58, 59, 60].map (fun place => ((drivenBits leaveHeader [])[place]?.map (·.level),
      senderFinds leaveHeader [] (misread place false), (senderDrives leaveHeader [] (misread place false)).length)) =
    [(some true, .lost, 3), (some true, .lost, 6), (some true, .bitError, 15), (some true, .bitError, 28),
      (some true, .bitError, 64), (some true, .slots true false, 67), (some true, .slots false true, 67),
      (some true, .slots false false, 67)] := by
  decide +kernel

/-- A line that reads recessive throughout is a stuff violation at the sixth bit: the error flag follows it. -/
theorem test_sender_reads_six : senderFinds leaveHeader [] (List.replicate 67 true) = .bitError ∧
    senderDrives leaveHeader [] (List.replicate 67 true) =
      [false, false, true, false, true, true, false, false, false, false, false, false] ∧
    (∀ i < 6, (stuff (frameBits leaveHeader []))[i]? = some true → (List.replicate 67 true)[i]? = some true) := by
  decide +kernel

/-- The decision of R47 at the sender: another station in the roster, none, and no table; an ordinary and a founding JOIN. -/
theorem test_meets_OwnFrameEnd : tbl.roster.length = 8 ∧ (∃ n : Station, n ≠ cell.me ∧ (tbl.entry n).state.inCell = true) ∧
    (∀ n : Station, n ≠ State.reset.me → (Table.initial.entry n).state.inCell = false) ∧ Table.initial.roster.length = 8 ∧
    State.reset.table = none ∧ cell.table = some tbl ∧
    [false, true].map (fun f => State.reset.ownFrameEnd (offer (.share (.join f) (.join (State.reset.joinFields f))) 15)
      (.slots false false)) = [.ownFrameVoid, .ownFrameAccepted] := by
  decide +kernel

/-- Rounding to the nearest, halves away from zero. -/
theorem test_rounding : (roundDiv 7 2, roundDiv (-7) 2, roundDiv 5 4, roundDiv (-5) 4) = (4, -4, 1, -1) := by
  decide +kernel

/-! ## An image memory -/

/-- A number as bytes. -/
def bytes (n v : Nat) : List Byte := bytesOf n v

/-- One axis of an image memory. -/
def axisBytes : List Byte :=
  bytes 2 5 ++ bytes 1 0 ++ bytes 4 0xFF000000 ++ bytes 4 0x00FF0000 ++ bytes 4 1000 ++ bytes 2 10 ++ bytes 2 10 ++ bytes 4 1000

/-- One axis's homing fields. -/
def homeBytes : List Byte := bytes 4 0 ++ bytes 1 1 ++ bytes 2 50

/-- Bytes 0 to 102: header, axes, homing, zones. -/
def part0 : List Byte :=
  bytes 2 0x5201 ++ bytes 2 706 ++ axisBytes ++ axisBytes ++ axisBytes ++ homeBytes ++ homeBytes ++ homeBytes ++
    [2, 0, 1] ++ bytes 2 3 ++ bytes 2 1 ++ bytes 2 1

/-- Half of the rack geometry. -/
def part1 : List Byte := List.replicate 96 0

/-- Bytes 295 to 362: sphere, corridors, feeds, times, no probe definition. -/
def part3 : List Byte :=
  List.replicate 12 0 ++ bytes 4 250000 ++ List.replicate 12 0 ++ bytes 4 20000 ++ List.replicate 12 0 ++ bytes 2 16 ++
    bytes 2 32 ++ bytes 2 64 ++ bytes 2 500 ++ bytes 2 100 ++ bytes 2 100 ++ bytes 4 5000 ++ bytes 2 100 ++ bytes 2 500 ++
    bytes 2 500 ++ [5, 0]

/-- Half of the unused probe definitions. -/
def part4 : List Byte := List.replicate 84 0

/-- One channel. -/
def channelBytes : List Byte := [3, 2] ++ bytes 2 15000 ++ bytes 2 0xEC78

/-- Bytes 531 to 609: channels, cadence, one watch pair. -/
def part6 : List Byte :=
  channelBytes ++ channelBytes ++ channelBytes ++ channelBytes ++ channelBytes ++ channelBytes ++ channelBytes ++ channelBytes ++
    channelBytes ++ channelBytes ++ channelBytes ++ channelBytes ++ bytes 2 1000 ++ bytes 2 60 ++ [1, 1, 2]

/-- Bytes 610 to 701: the rest of the watch list, roles, coefficients, limits. -/
def part7 : List Byte :=
  List.replicate 46 0 ++ [0x80, 0, 0xFF, 0xFF, 0x80, 1, 0xFF, 0xFF, 0x80, 2, 0xFF, 0xFF, 1, 2, 0xFF, 0xFF, 0x80, 3, 0xFF, 0xFF] ++
    bytes 2 800 ++ bytes 2 800 ++ bytes 2 800 ++ bytes 2 100 ++ bytes 2 0 ++ [1] ++ bytes 2 100 ++ bytes 4 500 ++ [1, 4] ++
    bytes 2 100 ++ bytes 2 0x0FFF ++ [2] ++ bytes 2 0

/-- The 702 bytes before the CRC. -/
def body : List Byte := part0 ++ part1 ++ part1 ++ part3 ++ part4 ++ part4 ++ part6 ++ part7

/-- The image memory with its CRC. -/
def memory : List Byte := body ++ [0x5C, 0xE3, 0x49, 0x28]

set_option maxRecDepth 20000 in
theorem test_crc32_first : part0.foldl crc32Byte 0xFFFFFFFF#32 = 0x38b7e790#32 ∧
    part1.foldl crc32Byte 0x38b7e790#32 = 0xda69e13e#32 ∧ part1.foldl crc32Byte 0xda69e13e#32 = 0x2cb42c26#32 ∧
    part3.foldl crc32Byte 0x2cb42c26#32 = 0xee7c49f3#32 := by
  decide +kernel

set_option maxRecDepth 20000 in
theorem test_crc32_second : part4.foldl crc32Byte 0xee7c49f3#32 = 0xed2e69f8#32 ∧
    part4.foldl crc32Byte 0xed2e69f8#32 = 0x2ebf047b#32 ∧ part6.foldl crc32Byte 0x2ebf047b#32 = 0x38eaa606#32 ∧
    part7.foldl crc32Byte 0x38eaa606#32 = 0xa31cb6d7#32 := by
  decide +kernel

theorem test_crc32_of_image : crc32 body = 0x5CE34928#32 := by
  obtain ⟨a, b, c, d⟩ := test_crc32_first
  obtain ⟨e, f, g, h⟩ := test_crc32_second
  simp only [crc32, body, List.foldl_append, a, b, c, d, e, f, g, h]
  decide

/-- The memory holds an image (the hypothesis of LoadEndsAsTheImageIsJudged's good case). -/
theorem test_memory_is_an_image : (imageOf memory).isSome = true := by
  have i : imageIntact (readMemory 706 memory) = true := by
    have t : (readMemory 706 memory).take 702 = body := by decide +kernel
    simp only [imageIntact, t, test_crc32_of_image]
    decide +kernel
  have p : (imageFields (readMemory 706 memory)).isSome = true := by decide +kernel
  simp only [imageOf, i, if_true, p]

/-! ## Single steps -/

/-- The outcome's state, when it is one. -/
def after (o : Host.Outcome State Fault Refusal) : Option State :=
  match o with
  | .next t => some t
  | _ => none

theorem test_reset_queue_idles : (after (step State.reset)).map (·.clock) = some 1 := by decide +kernel

theorem test_empty_memory_is_no_image : (after (exec (.configLoadEnd [] false 0) State.reset)).map (·.setup.load) = some .fault := by
  decide +kernel

/-- The result of the worked qualification of chapter 9. -/
theorem test_qualification_example :
    qualify { conf with sphereCentre := ⟨12500000, 3000000, 8000000⟩, sphereDiameter := 250000, tolerance := 200 } 15000
      12359797 12639776 4059664 4339647 4639869 = .passed ⟨214, -1199656, 3500122⟩ 14991 := by decide +kernel

theorem test_go_starves : (after (exec (.go 7 []) cell)).map (fun t => (t.run.st, t.run.owner, t.line.m3.map (·.result))) =
    some (.starved, some 7, some .ok) := by decide +kernel

theorem test_seg_then_go_runs :
    ((after (exec (.seg 7 ([0, 77, 2, 0, 0, 10])) cell)).bind (fun t =>
      after (exec (.go 7 []) { t with line := { t.line with m3 := none } }))).map
      (fun t => (t.run.st, t.arm.st, t.arm.motion.map (·.act), t.run.queue.length)) =
    some (.active, .moving, some .dwell, 0) := by decide +kernel

theorem test_busy : (after (exec (.go 7 []) { cell with line := { cell.line with m3 := some ⟨7, 0x20, .ok, []⟩ } })).map
    (fun t => (t.run.st, t.line.m3.map (·.kind))) = some (.none, some 0x20) := by decide +kernel

theorem test_estop_cuts : (after (exec .estop (moving travel (seg (.move spec))))).map
    (fun t => (t.arm.st, t.arm.energized, t.run.st, t.estop)) = some (.off, false, .none, true) := by decide +kernel

theorem test_move_completes : (after (exec .travelComplete (moving travel (seg (.move spec))))).map
    (fun t => (t.arm.standing, t.run.st, t.setpoints)) = some (2, .starved, ⟨100, 200, 300⟩) := by decide +kernel

theorem test_contact_builds_point :
    (after (exec .contactAccepted { moving probing (seg (.probe false spec)) with
      trig := { high := true, latch := some { position := ⟨10, 20, 30⟩, width := 100 }, blocked := false } })).map
      (fun t => (t.cap.ring.map (·.tip), t.arm.stopping.map (·.fast))) = some ([⟨11, 22, 33⟩], some true) := by
  decide +kernel

theorem test_limit_cuts : (after (exec (.hwLimitAsserted .x .plus) (moving travel (seg (.move spec))))).map
    (fun t => (t.lastFault, t.arm.st)) = some (some .limit, .off) := by decide +kernel

theorem test_release_grants : ((({ tbl with claims := [⟨0, 4, 0⟩] } : Table).apply 3 (.release 4) 0).table.holder 2,
    (({ tbl with claims := [⟨0, 4, 0⟩] } : Table).apply 3 (.release 4) 0).table.claims.length) = (.station 0, 0) := by
  decide +kernel

theorem test_snapshot_round_trip : (tableOfParts ((tbl.image .join).foldl collectPart []) 5).map (·.1.holders) =
    some tbl.holders := by decide +kernel

/-! ## The hypotheses of the statements are met -/

/-- The cell with a payload's command still to come, in another arm state. -/
def withArm (f : Arm → Arm) : State := { cell with arm := f cell.arm }

/-- The cell in another run. -/
def withRun (f : Run → Run) (s : State) : State := { s with run := f s.run }

/-- The cell in another state of its line. -/
def withLine (f : Line → Line) : State := { cell with line := f cell.line }

/-- The cell in another state of its join unit. -/
def withJoin (f : Join → Join) : State := { cell with join := f cell.join }

/-- The arm in the seek of the first axis named. -/
def homing (seeks : List AxisName) (met : Bool) : State :=
  withArm (fun a => { a with st := .homing, motion := some (acting (.seek .z) .seek), seeks := seeks, markMet := met })

/-- An axis at a place with its setpoint at another. -/
def apart (pos setpoint : Lu) : State := { cell with axes := ⟨{ axis with pos := pos, setpoint := setpoint }, axis, axis⟩ }

/-- The cell about to take a segment, in a run of station 7. -/
def ready (g : Segment) : State := withRun (fun r => { r with st := .active, owner := some 7, queue := [g] }) cell

/-- A travel's fields with another need set. -/
def needing (z : ZoneSet) : TravelSpec := { spec with need := z }

theorem test_meets_Idle : State.reset.pending = [] ∧ State.reset.travelling = false ∧ (moving travel (seg (.move spec))).pending = [] ∧
    (moving travel (seg (.move spec))).travelling = true ∧ travel.origin ≠ .seek ∧
    travel.gone * travel.gone < pathSquare travel.startedAt ⟨100, 200, 300⟩ ∧
    pathSquare travel.startedAt ⟨100, 200, 300⟩ ≤ 400 * 400 ∧
    ((after (step (moving { travel with gone := 400 } (seg (.move spec))))).map (·.setpoints) = some ⟨100, 200, 300⟩) ∧
    ((after (step (moving travel (seg (.move spec))))).map (·.setpoints) = some ⟨27, 53, 80⟩) ∧
    ((after (step { moving travel (seg (.move spec)) with arm :=
      { (moving travel (seg (.move spec))).arm with shadow := true } })).map (·.positions) = some ⟨27, 53, 80⟩) ∧
    (moving { acting .dwell .segment with dwellLeft := some 5 } (seg (.dwell 10))).arm.motion.bind (·.dwellLeft) = some 5 ∧
    (homing [.z] false).travelling = true ∧ (homing [.z] false).arm.stopping = none ∧ (homing [.z] false).config = some conf ∧
    ((after (step (homing [.z] false))).map (fun t => (t.axes.z.setpoint, t.axes.x.setpoint))) = some (-100, 0) := by
  decide +kernel

theorem test_meets_Finish : cell.detachDue = none ∧ cell.arm.todo = none ∧ cell.run.queue = [] ∧ cell.chg.parked = false ∧
    dead.arm.st ≠ .still ∧ cell.settle.detachDue = none ∧
    ({ cell with detachDue := some .isolated } : State).detachDue = some .isolated ∧
    ({ ready (seg (.move (needing 2))) with line := { cell.line with m1 := List.replicate 8 .attach } } : State).settle.detachDue =
      some .mailboxFull ∧
    (withArm (fun a => { a with st := .claiming, todo := some .segment })).arm.todo = some .segment := by decide +kernel

/-- What a start needs, in the state of each clause about starts. -/
theorem test_meets_Starts : let ok (s : State) : Bool := decide (s.detachDue = none ∧ s.arm.st = .still ∧ s.run.st = .active ∧
      s.line.m1.length < 8 ∧ s.join.st = .attached ∧ s.agent.current = none ∧ s.chg.change = none ∧ s.chg.parked = false)
    let m := ready (seg (.move spec))
    let p := ready (seg (.probe false spec))
    let full : State := { p with cap := { p.cap with ring := List.replicate 64 (point 1 7) } }
    let deflected : State := { p with trig := { p.trig with high := true } }
    let bare : State := { p with mounted := .none }
    let lost : State := { m with axes := ⟨{ axis with referenced := false }, axis, axis⟩ }
    let past : State := { m with axes := ⟨{ axis with plusLimit := true }, axis, axis⟩ }
    let again : State := { m with
      run := { m.run with queue := [], current := some (seg (.move spec)) }
      arm := { m.arm with todo := some .segment, itemsHeld := true } }
    ok m = true ∧ ok p = true ∧ ok full = true ∧ ok deflected = true ∧ ok bare = true ∧ ok lost = true ∧ ok past = true ∧
    ok again = true ∧ ok (ready (seg (.dwell 10))) = true ∧ m.run.stack = [] ∧ m.run.current = none ∧ m.arm.todo = none ∧
    m.missing (zoneItems 2 ||| zoneItems m.keep) ≠ 0 ∧ m.missing (zoneItems 1 ||| zoneItems m.keep) = 0 ∧
    lost.unreferenced ≠ none ∧ m.unreferenced = none ∧ m.limitCheck ⟨100, 200, 300⟩ = none ∧
    past.limitCheck ⟨100, 200, 300⟩ ≠ none ∧ bare.mountedDetail ≠ none ∧ p.mountedDetail = none ∧
    p.mountedRecord = some record ∧ p.mustSoak = false ∧ 64 ≤ full.cap.ring.length ∧ p.cap.ring.length < 64 ∧
    deflected.blockedByTrigger = true ∧ p.blockedByTrigger = false ∧ m.missing (zoneItems m.keep) = 0 := by decide +kernel

/-- What those starts lead to. -/
theorem test_starts : let at_ (s : State) := (s.finish.arm.st, s.finish.lastFault, s.finish.arm.motion.map (·.probing))
    let p := ready (seg (.probe false spec))
    at_ (ready (seg (.move spec))) = (.moving, none, some false) ∧ at_ p = (.moving, none, some true) ∧
    at_ (ready (seg (.move (needing 2)))) = (.claiming, none, none) ∧ at_ (ready (seg (.dwell 10))) = (.moving, none, some false) ∧
    at_ { p with cap := { p.cap with ring := List.replicate 64 (point 1 7) } } = (.ringWait, none, none) ∧
    at_ { p with trig := { p.trig with high := true } } = (.still, some .probeDeflected, none) ∧
    at_ { p with mounted := .none } = (.still, some .noProbe, none) := by decide +kernel

/-- The last back-off of a qualification with the results given. -/
def qualifying (bx by_ : Lu) (st : ChannelState) : State :=
  { away .qualify (acting .backOff .backOff) with
    qual := some { id := 100, touch := 5, results := [0, bx, 0, by_], latched := some 40, legs := [], returning := false }
    thermal := { cell.thermal with
      channels := { Channel.off with st := st, filtered := some 2000 } :: List.replicate 11 Channel.off } }

theorem test_meets_Measurements : (qualifying 2540 2540 .fresh).config = some conf ∧
    (qualifying 2540 2540 .fresh).arm.st = .moving ∧ (qualifying 2540 2540 .fresh).arm.stopping = none ∧
    (qualifying 2540 2540 .fresh).arm.motion = some (acting .backOff .backOff) ∧
    (acting .backOff .backOff).thenHeld = false ∧ (qualifying 2540 2540 .fresh).run.stack ≠ [] ∧
    (qualifying 2540 2540 .fresh).chg.change = none ∧ (qualifying 2540 2540 .fresh).probe 100 = some record ∧
    (qualifying 2540 2540 .fresh).armNow = some 2000 ∧ (qualifying 2540 2540 .unavailable).armNow = none ∧
    cell.events.mask.getLsbD 3 = true ∧ cell.events.mask.getLsbD 8 = true := by decide +kernel

/-- What the end of a qualification leaves: the record's data, the fault, QUAL_END. -/
def qualEnds (s : State) : Option (Option QualData) × Option FaultCode × Option Event :=
  match after (exec .backOffEnd s) with
  | some t => ((t.probe 100).map (·.data), t.lastFault, (t.events.slots[3]?).bind (·.pending))
  | none => (none, none, none)

theorem test_qualification_passes : qualEnds (qualifying 2540 2540 .fresh) =
    (some (some ⟨⟨730, 730, 1430⟩, 20, 2000⟩), none, some (.qualEnd .done 20)) := by decide +kernel

theorem test_qualification_fails :
    qualEnds (qualifying 5000 5000 .fresh) = (some record.data, some .qualFail, some (.qualEnd .failed 0)) ∧
    qualEnds (qualifying 4000 1080 .fresh) = (some record.data, some .qualFail, some (.qualEnd .failed 0)) ∧
    qualEnds (qualifying 2540 2540 .unavailable) = (some record.data, some .qualNoTemp, some (.qualEnd .failed 0)) := by
  decide +kernel

theorem test_qualification_simulated :
    qualEnds { qualifying 2540 2540 .fresh with arm := { (qualifying 2540 2540 .fresh).arm with shadow := true } } =
      (some record.data, none, some (.qualEnd .simulated 0)) := by decide +kernel

/-- A scan that converts channel 0, with the values remembered. -/
def settling (history : List Temp) (since : Option Clock) (reading : Temp) : State :=
  { cell with thermal := { cell.thermal with
      scan := some { left := [], results := [(0, .good reading)] }
      channels := { Channel.off with st := .fresh, filtered := some reading, history := history } :: List.replicate 11 Channel.off
      steadySince := since } }

/-- What a scan's end leaves: steady-since, the settle state, the state of the record of probe 100. -/
def settleEnds (s : State) : Option Clock × Bool × Option QualState :=
  match after (exec .scanCompletion s) with
  | some t => (t.thermal.steadySince, t.thermal.settled, (t.probe 100).map (·.qual))
  | none => (none, false, none)

/-- The settle state at a scan: bad without rates; steady from now, or from an earlier scan; and the record beyond its band. -/
theorem test_settling : settleEnds (settling [2000] (some 9000) 2000) = (none, false, some .qualified) ∧
    settleEnds (settling (List.replicate 8 2000) none 2000) = (some 10000, true, some .qualified) ∧
    settleEnds (settling (List.replicate 8 2000) (some 9000) 2000) = (some 9000, true, some .qualified) ∧
    settleEnds (settling (List.replicate 8 2100) none 2100) = (some 10000, true, some .qualified) ∧
    settleEnds (settling (List.replicate 8 2101) none 2101) = (some 10000, true, some .stale) := by decide +kernel

/-- Sources of each state, and slots that name an identity. -/
theorem test_meets_Roles : (sourceReading (settling [2000] none 2000).thermal (.local 0)).1 = .fresh ∧
    (sourceReading cell.thermal (.local 0)).1 = .unavailable ∧ (sourceReading cell.thermal (.local 1)).1 = .off ∧
    (∃ r ∈ tbl.slots, r.contents = .probe 200) ∧ (∀ r ∈ tbl.slots, r.contents ≠ .probe 100) ∧
    mountedAfter tbl true (.unresolved (.id 100)) = .resolved 100 ∧
    mountedAfter tbl false (.unresolved (.id 100)) = .unresolved (.id 100) ∧
    mountedAfter tbl true (.resolved 200) = .unresolved (.id 200) := by decide +kernel

/-- The point corrected in the worked example of chapter 11. -/
theorem test_correction_example :
    (correctCoordinate 25000000 1150 (some 2150) 10000000 1170 (some 2230),
      correctCoordinate 8000000 1150 (some 2080) 0 1170 (some 2230),
      correctCoordinate 12000000 1150 (some 2120) 5000000 1170 (some 2230)) = (25000028, 7999858, 11999977) := by decide +kernel

theorem test_meets_CommandsLeaveOtherBlocksAlone : (after (exec (.go 7 []) cell)).isSome = true ∧
    (Instr.go 7 []).starts = false ∧ (Instr.go 7 []).movesTrigger = false ∧ (Instr.go 7 []).movesAxisInput = false ∧
    (Instr.go 7 []).isExpiry = false ∧ Instr.go 7 [] ≠ .estop ∧ Instr.go 7 [] ≠ .estopCleared := by decide +kernel

theorem test_meets_LoadEnds : State.reset.setup.load = .reading ∧ State.reset.line.active = false ∧
    State.reset.join.st = .listening ∧ imageOf [] = none ∧ wordAt (readMemory 706 []) 0 ≠ 0x5201 := by decide +kernel

theorem test_meets_Restart : cell.listensTo 7 = true ∧ cell.run.st = .none ∧ cell.arm.st = .still ∧ dead.arm.st = .off ∧
    dead.listensTo 7 = true ∧ cell.run.stack = [] ∧ cell.line.m1.length < 8 ∧ cell.chg.closing = [] ∧
    (moving travel (seg (.move spec))).listensTo 7 = true ∧ (moving travel (seg (.move spec))).run.st ≠ .none ∧
    (away .soak (acting .moveOut .excursion)).listensTo 7 = true ∧ (away .soak (acting .moveOut .excursion)).run.st = .none ∧
    (away .soak (acting .moveOut .excursion)).run.stack ≠ [] ∧ (away .soak (acting .moveOut .excursion)).stopGoverns = false ∧
    (homing [.z] false).listensTo 7 = true ∧ (homing [.z] false).run.st = .none ∧ (homing [.z] false).run.stack = [] ∧
    (homing [.z] false).arm.st ≠ .still ∧ (homing [.z] false).arm.st ≠ .off ∧
    ({ cell with setup := { cell.setup with load := .fault, image := none } } : State).receives 7 = true ∧
    cell.line.m3 = none := by
  decide +kernel

theorem test_meets_LeaveWaitEnd :
    (withJoin (fun j => { j with leaveWait := some 9990 })).join.leaveWait = some 9990 ∧
    (withJoin (fun j => { j with leaveWait := some 9990 })).leaveOnLine = false ∧
    (withJoin (fun j => { j with leaveWait := some 9990 })).join.st ≠ .quiet ∧ cell.setup.load = .loaded ∧
    (withJoin (fun j => { j with st := .quiet, leaveWait := some 9990 })).join.leaveWait = some 9990 ∧
    (withJoin (fun j => { j with st := .quiet, leaveWait := some 9990 })).leaveOnLine = false ∧
    cell.config = some conf := by decide +kernel

theorem test_meets_ScaleStep : State.reset.config = none ∧ cell.config = some conf := by decide +kernel

theorem test_meets_ScaleFault : cell.drivesHold ∧ dead.drivesHold ∧ cell.events.mask.getLsbD 0 = true ∧
    cell.events.slots.length = 12 ∧ (vget cell.axes .x).scaleFault = false ∧
    ({ cell with axes := ⟨{ axis with scaleFault := true }, axis, axis⟩ } : State).drivesHold ∧
    (vget ({ cell with axes := ⟨{ axis with scaleFault := true }, axis, axis⟩ } : State).axes .x).scaleFault = true := by
  unfold State.drivesHold; decide +kernel

theorem test_meets_Seeks : (homing [.z, .x, .y] false).config = some conf ∧ (homing [.z, .x, .y] false).arm.st = .homing ∧
    (homing [.z, .x, .y] false).arm.stopping = none ∧ (homing [.z, .x, .y] false).arm.seeks.head? = some .z ∧
    (homing [.z, .x, .y] false).arm.markMet = false ∧ (homing [.z] true).arm.markMet = true ∧
    (homing [.z] true).arm.seeks = [.z] ∧ (homing [.z, .x] true).arm.seeks = [.z, .x] ∧ cell.arm.st ≠ .homing ∧ seekBlocked axisConf axis = none ∧
    seekBlocked axisConf { axis with minusLimit := true } = some 2 := by decide +kernel

theorem test_meets_LimitInputs : (vget cell.axes .x).limitLevel .plus = false ∧ cell.arm.energized = true ∧
    cell.arm.shadow = false ∧ dead.arm.energized = false ∧
    ({ axis with plusLimit := true } : AxisChannel).limitLevel .plus = true ∧
    ((after (exec (.hwLimitAsserted .z .minus) (homing [.z] true))).map (·.lastFault)) = some (some .homeFail) ∧
    ((after (exec (.hwLimitAsserted .x .minus) (homing [.z] true))).map (·.lastFault)) = some (some .limit) := by decide +kernel

theorem test_meets_FollowingError : ((apart 0 1000).atLoopStep 0).setpoints = ⟨1000, 0, 0⟩ ∧ conf.axes.x.following = 1000 ∧
    ((after (exec (.followingError .x 0) (apart 0 1000))).map (·.lastFault)) = some none ∧
    ((after (exec (.followingError .x 0) (apart 0 1001))).map (·.lastFault)) = some (some .follow) ∧
    (apart 0 1001).travelling = false ∧ (apart 0 1001).config = some conf ∧ (apart 0 1001).arm.energized = true ∧
    (apart 0 1001).arm.shadow = false ∧ (homing [.z] false).arm.motion = some (acting (.seek .z) .seek) := by decide +kernel

theorem test_meets_EstopCuts : cell.estop = false ∧ ({ cell with estop := true } : State).estop = true ∧
    ({ cell with estop := true } : State).listensTo 7 = true ∧ (withArm (fun a => { a with shadow := true })).arm.shadow = true := by
  decide +kernel

theorem test_meets_DrivesStayOff : dead.arm.energized = false ∧ (step dead matches .next _) ∧
    ∀ sender payload rest, dead.pending ≠ .drivesOn sender payload :: rest := by
  refine ⟨by decide +kernel, by decide +kernel, fun sender payload rest h => by cases h⟩

theorem test_meets_DrivesGoOn : dead.listensTo 7 = true ∧ dead.estop = false ∧ dead.conflict = 0 ∧ dead.anyScaleFault = false ∧
    dead.arm.energized = false ∧ cell.arm.energized = true ∧
    ({ cell with axes := ⟨{ axis with scaleFault := true }, axis, axis⟩ } : State).anyScaleFault = true ∧
    dead.config = some conf ∧ cell.arm.shadow = false ∧ cell.travelling = false ∧ cell.pending = [] := by decide +kernel

/-- The rate of each setpoint in the first millisecond of a travel, and the demand that is none with the drives off. -/
theorem test_setpoint_rates : (moving travel (seg (.move spec))).setpointRates = ⟨27, 53, 80⟩ ∧ cell.setpointRates = ⟨0, 0, 0⟩ ∧
    (vget dead.driveDemands .x).isNone = true ∧ (vget cell.driveDemands .x).isSome = true := by decide +kernel

/-- The drive-enable outputs through SHADOW on and off, and with the drives off. -/
theorem test_drive_enables : let shadow := withArm (fun a => { a with shadow := true })
    cell.driveEnables = ⟨true, true, true⟩ ∧ dead.driveEnables = ⟨false, false, false⟩ ∧
    (after (exec (.shadowOn 7 [1#8]) cell)).map State.driveEnables = some ⟨false, false, false⟩ ∧
    (after (exec (.shadowOff 7 [0#8]) shadow)).map State.driveEnables = some ⟨true, true, true⟩ := by decide +kernel

/-- A travel in a stop, and a seek past its mark. -/
theorem test_meets_Slowing : let t := (moving travel (seg (.move spec)))
    let s : State := { t with arm := { t.arm with st := .decelerating, stopping := some ⟨false, .resume, true, false, false⟩ } }
    s.travelling = true ∧ s.arm.motion = some travel ∧ s.config = some conf ∧ s.arm.stopping ≠ none ∧ s.pending = [] ∧
    travel.target = some ⟨100, 200, 300⟩ ∧ travel.gone * travel.gone < pathSquare travel.startedAt ⟨100, 200, 300⟩ ∧
    travel.speed = 100 ∧ ({ travel with slowed := some 60 } : Motion).speed = 60 ∧ s.slowing travel = true ∧
    t.slowing travel = false ∧ (homing [.z] true).travelling = true ∧ (homing [.z] true).arm.markMet = true := by decide +kernel

/-- A SEG payload: a dwell of 10 ms with tag 77. -/
def dwellPayload : List Byte := [0, 77, 2, 0, 0, 10]

/-- A SEG payload: a MOVE to the origin. -/
def movePayload : List Byte := [0, 77, 0, 0] ++ List.replicate 12 0 ++ [0, 100, 0, 1, 0, 1]

theorem test_meets_SegJoins : cell.listensTo 7 = true ∧ 4 ≤ dwellPayload.length ∧ cell.run.owner = none ∧
    (cell.checkSeg dwellPayload).toOption = some (seg (.dwell 10)) ∧
    (cell.checkSeg movePayload).toOption.isSome = true ∧
    ((withRun (fun r => { r with queue := List.replicate 15 (seg (.dwell 10)), owner := some 7 }) cell).checkSeg
      dwellPayload).toOption = some (seg (.dwell 10)) := by decide +kernel

theorem test_meets_SegRefused :
    (withRun (fun r => { r with owner := some 6 }) cell).ownedByOther 7 = true ∧
    cell.ownedByOther 7 = false ∧
    (withRun (fun r => { r with queue := List.replicate 16 (seg (.dwell 10)) }) cell).run.queue.length = 16 ∧
    segTravels movePayload = true ∧
    ({ cell with axes := ⟨axis, { axis with referenced := false }, axis⟩ } : State).unreferenced ≠ none ∧
    segTravels dwellPayload = false ∧ cell.unreferenced = none ∧ segmentOf [0, 77, 9, 0] = none ∧
    (segmentOf [0, 77, 3, 0, 0, 9]).map (·.body) = some (.change 9) ∧
    segmentInRange conf (segMissOk [0, 77, 3, 0, 0, 9]) (.change 9) = true ∧ cell.probe 9 = none ∧
    segmentInRange conf false (.move { spec with feed := 0 }) = false ∧ ([0, 77, 2] : List Byte).length < 4 ∧
    (4 : Nat) ≤ movePayload.length := by decide +kernel

theorem test_meets_GoStarts : cell.listensTo 7 = true ∧ cell.run.st = .none ∧ cell.run.owner = none ∧ cell.run.queue = [] ∧
    (withRun (fun r => { r with queue := [seg (.dwell 10)], owner := some 7 }) cell).run.queue ≠ [] ∧
    (withRun (fun r => { r with owner := some 6 }) cell).run.owner = some 6 ∧ (6 : Station) ≠ 7 ∧
    cell.events.mask.getLsbD 6 = true ∧ cell.events.slots.length = 12 ∧ dead.arm.st ≠ .still ∧ dead.detachDue = none ∧
    dead.listensTo 7 = true := by decide +kernel

/-- The arm of a run of station 7 in another state. -/
def inRun (f : Arm → Arm) : State :=
  { withArm f with run := { Run.cold with st := .active, owner := some 7, current := some (seg (.move spec)) } }

theorem test_meets_Hold : let t := moving travel (seg (.move spec))
    let ok (s : State) : Bool := decide (s.listensTo 7 = true ∧ s.run.owner = some 7 ∧ s.run.st = .active ∧ s.detachDue = none ∧
      s.chg.parked = false)
    let d := moving { acting .dwell .segment with dwellLeft := some 5 } (seg (.dwell 10))
    let stop (after : AfterStop) : Stopping := ⟨false, after, false, false, false⟩
    ok t = true ∧ t.arm.st = .moving ∧ t.arm.stopping = none ∧ t.arm.motion = some travel ∧ travel.atTarget = false ∧
    ok (moving { travel with atTarget := true } (seg (.move spec))) = true ∧
    ok (moving (acting .inPlace .excursion) (seg (.move spec))) = true ∧
    ok d = true ∧ d.arm.motion.bind (·.dwellLeft) = some 5 ∧ d.arm.energized = true ∧
    ok (inRun (fun a => { a with st := .moving, motion := some travel, stopping := some (stop .backOff) })) = true ∧
    ok (inRun (fun a => { a with st := .moving, motion := some travel, stopping := some (stop (.endRun .stopped 0)) })) = true ∧
    ok (inRun (fun a => { a with st := .decelerating, motion := some travel, stopping := some (stop .still) })) = true ∧
    ok (inRun (fun a => { a with st := .decelerating, motion := some travel, stopping := some (stop .resume) })) = true ∧
    ok (inRun (fun a => { a with st := .claiming, todo := some .segment })) = true ∧
    ok (inRun (fun a => { a with st := .claiming, todo := some .home })) = true ∧
    ok (inRun (fun a => { a with st := .ringWait, todo := some .segmentPastRing })) = true ∧
    ok (inRun (fun a => { a with st := .homing })) = true ∧ ok (inRun (fun a => { a with st := .off })) = true ∧
    ok (inRun id) = true ∧ (inRun id).arm.st = .still ∧ (inRun id).arm.todo ≠ some .home ∧
    cell.run.owner ≠ some 7 ∧ (withRun (fun r => { r with st := .held, owner := some 7 }) cell).run.st ≠ .active := by
  decide +kernel

theorem test_meets_GoOn :
    let w : State := { withArm (fun a => { a with todo := some (.dwellOn 5) }) with
      run := { Run.cold with st := .held, owner := some 7 } }
    w.listensTo 7 = true ∧ w.run.owner = some 7 ∧ w.run.st = .held ∧ w.detachDue = none ∧ w.arm.st = .still ∧
    w.arm.todo = some (.dwellOn 5) ∧ w.agent.current = none ∧ w.missing (zoneItems w.keep) = 0 ∧ cell.run.owner ≠ some 7 ∧
    (moving travel (seg (.move spec))).run.st ≠ .held := by decide +kernel

theorem test_meets_Stop : let t := moving travel (seg (.move spec))
    t.listensTo 7 = true ∧ t.stopGoverns = false ∧ t.travelling = true ∧ t.run.st ≠ .none ∧
    t.arm.stopping.map (·.fast) ≠ some true ∧ cell.travelling = false ∧ cell.stopGoverns = false ∧
    t.events.mask.getLsbD 1 = true ∧ t.events.slots.length = 12 ∧ tbl.isPlanner 3 = false ∧ cell.receives 3 = true := by
  decide +kernel

/-- A station with a REPLY in M3 and a LEAVE that it waits for hears no command, and stops on CELL_STOP. -/
def deaf : State :=
  let t := moving travel (seg (.move spec))
  { t with line := { t.line with m3 := some ⟨7, 0x20, .ok, []⟩ }, join := { t.join with leaveWait := some 9990 } }

theorem test_meets_CellStopUnheard : deaf.listensTo 7 = false ∧ deaf.receives 7 = true ∧ deaf.table = some tbl ∧
    tbl.isPlanner 7 = true ∧ deaf.stopGoverns = false ∧ deaf.inFaultStop = false ∧
    (after (exec (.cellStop 7 9) deaf)).map (fun t => (t.arm.st, t.arm.stopping.map (·.after))) =
      some (.decelerating, some (.endRun .cellStopped 9)) ∧
    (after (exec (.stop 7 []) deaf)).map (·.arm.st) = some .moving := by decide +kernel

/-- The arm in the fast stop of a fault (`byFault`) or in a controlled stop, in a run that has been started since, or with a
segment queued and no run. -/
def stopped (byFault : Bool) (after : AfterStop) (run : Run) : State :=
  { withArm (fun a => { a with
      st := if byFault then .moving else .decelerating, motion := some travel, stopping := some ⟨byFault, after, false, false, byFault⟩ }) with
    run := run }

/-- A run of station 7, and a queue of station 7 without a run. -/
def runOf7 : Run := { Run.cold with st := .active, owner := some 7, queue := [seg (.dwell 10)] }
def queueOf7 : Run := { runOf7 with st := .none }

theorem test_meets_StopInAStop : (stopped true .still runOf7).listensTo 7 = true ∧
    (stopped true .still runOf7).inFaultStop = true ∧ (stopped true .still runOf7).stopGoverns = false ∧
    (stopped true .still queueOf7).inFaultStop = true ∧ (stopped true .still queueOf7).detachDue = none ∧
    (stopped true .still queueOf7).arm.st ≠ .still ∧ (stopped false (.endRun .stopped 0) runOf7).inFaultStop = false ∧
    (stopped false (.endRun .stopped 0) runOf7).stopGoverns = true ∧ runOf7.st ≠ .none ∧
    (stopped false .still queueOf7).inFaultStop = false ∧ (stopped false .still queueOf7).stopGoverns = true ∧
    queueOf7.st = .none := by decide +kernel

/-- In the fast stop of a fault STOP and CELL_STOP change nothing; in the stop of a STOP without a run the queue is flushed, and a
run started since ends. -/
theorem test_stop_in_a_stop : let ends (s : State) := (after (exec (.stop 7 []) s)).map (fun t =>
      (t.run.st, t.run.queue.length, t.run.owner, t.arm.stopping.map (·.after)))
    ends (stopped true .still queueOf7) = some (.none, 1, some 7, some .still) ∧
    ends (stopped true .still runOf7) = some (.active, 1, some 7, some .still) ∧
    ends (stopped false .still queueOf7) = some (.none, 0, none, some .still) ∧
    ends (stopped false .still runOf7) = some (.active, 0, some 7, some (.endRun .stopped 0)) ∧
    (after (exec (.cellStop 7 1) (stopped true .still runOf7))).map (·.run) = some runOf7 := by decide +kernel

/-- A COLLISION in a travel of a run makes the fast stop of a fault. -/
theorem test_collision_stops_fast :
    (after (exec .contactAccepted { moving travel (seg (.move spec)) with
      trig := { high := true, latch := some { position := ⟨1, 2, 3⟩, width := 100 }, blocked := false } })).map (fun t =>
        (t.arm.st, t.arm.stopping, t.inFaultStop)) =
      some (.moving, some ⟨true, .endRun .fault 0, false, false, true⟩, true) := by decide +kernel

/-- A run that waits for a claim in its list, with so many entries in M1. -/
def waiting (m1 : Nat) : State :=
  { inRun (fun a => { a with st := .claiming, todo := some .segment }) with
    agent := { cell.agent with current := some ⟨.motion, 3, 2, .pending, some 9000, 0⟩ }
    line := { cell.line with m1 := List.replicate m1 .attach } }

/-- A STOP at rest ends the run; where its WITHDRAW is a ninth entry of M1 the station detaches, and that ends the run. -/
theorem test_stop_at_rest : let ends (n : Nat) := (after (exec (.stop 7 []) (waiting n))).map (fun t =>
      (t.run.st, t.join.st, t.line.m1.length, (t.events.slots[1]?).bind (·.pending)))
    ends 7 = some (.none, .attached, 8, some (.runEnd .stopped 0)) ∧
    ends 8 = some (.none, .listening, 0, some (.runEnd .detached 0)) := by decide +kernel

theorem test_meets_Home : cell.listensTo 7 = true ∧ cell.config = some conf ∧ cell.run.st = .none ∧ cell.arm.st = .still ∧
    cell.arm.shadow = false ∧ cell.detachDue = none ∧ conf.order = .z :: [.x, .y] ∧
    seekBlocked (vget conf.axes .z) (vget cell.axes .z) = none ∧
    cell.missing (zoneItems conf.homeZones ||| zoneItems cell.keep) ≠ 0 ∧ cell.agent.current = none ∧
    cell.line.m1.length < 8 ∧
    ({ cell with table := some { tbl with holders := List.replicate 24 (.station 0) } } : State).agent.current = none ∧
    ({ cell with table := some { tbl with holders := List.replicate 24 (.station 0) } } : State).missing
      (zoneItems conf.homeZones ||| zoneItems cell.keep) = 0 := by decide +kernel

theorem test_meets_Shadow : cell.listensTo 7 = true ∧ cell.run.st = .none ∧ cell.arm.st = .still ∧ cell.run.queue = [] ∧
    cell.run.stack = [] ∧ cell.arm.shadow = false ∧ (withArm (fun a => { a with shadow := true })).arm.shadow = true ∧
    (withArm (fun a => { a with shadow := true })).listensTo 7 = true ∧ cell.events.mask.getLsbD 11 = true := by
  decide +kernel

/-- SHADOW off in CH_DONE of a rehearsed change, after completed moves: a STOP that follows interrupts no motion. -/
theorem test_shadow_off_then_stop : let rehearsed : State := { withArm (fun a => { a with shadow := true, phys := 1, begun := 0x10 }) with
      chg := { Changer.cold with change := some { ChangeRecord.new 4 200 true with step := .done } }
      run := { Run.cold with stack := [⟨.change, ⟨0, 0, 0⟩, 1, none, false⟩] } }
    ((after (exec (.shadowOff 7 [0]) rehearsed)).bind (fun t =>
      after (exec (.stop 7 []) { t with line := { t.line with m3 := none } }))).map (fun t => (t.arm.standing, t.run.stack)) =
      some (1, []) := by decide +kernel

theorem test_meets_Excursions : cell.listensTo 7 = true ∧ cell.config = some conf ∧ cell.table = some tbl ∧
    cell.run.st = .none ∧ cell.arm.st = .still ∧ cell.run.stack = [] ∧ dead.listensTo 7 = true ∧ dead.arm.st ≠ .still ∧ cell.probe 9 = none ∧ cell.probe 100 ≠ none ∧
    cell.detachDue = none ∧ cell.head.idRead = none ∧ cell.agent.current = none ∧ cell.line.m1.length < 8 ∧
    ({ cell with mounted := .none } : State).mounted = .none ∧ tbl.pickSlot 200 = some 0 ∧ tbl.pickSlot 100 = none ∧
    cell.missing (zoneItems conf.rackCorridor ||| slotItem 0 ||| zoneItems cell.keep) ≠ 0 ∧
    cell.missing (zoneItems conf.sphereCorridor ||| zoneItems cell.keep) ≠ 0 := by decide +kernel

/-- The cell with a second probe record, whose probe stands in slot 0, and with the mounted probe's home slot given. -/
def racked (home : Option (Fin 8)) (t : Table) : State :=
  { cell with
    probes := [{ record with homeSlot := home }, { record with defined := { record.defined with id := 200 } }]
    table := some t }

/-- A table without a slot that is EMPTY and free. -/
def fullRack : Table := { tbl with slots := ⟨.probe 200, .notReported⟩ :: List.replicate 7 ⟨.unknown, .notReported⟩ }

/-- What a stand-alone CHANGE leads to: the arm, the slots, the fault, CHANGE_END and the excursions on the stack. -/
def changeBegins (id : Nat) (s : State) :
    Option (ArmState × Option (Option (Fin 8) × Option (Fin 8)) × Option Event × Option Event × List ExcursionKind) :=
  (after (exec (.change 7 (bytesOf 2 id)) s)).map (fun t => (t.arm.st, t.chg.change.map (fun r => (r.pick, r.drop)),
    (t.events.slots[0]?).bind (·.pending), (t.events.slots[2]?).bind (·.pending), t.run.stack.map (·.kind)))

/-- The drop slot is the home slot, or the lowest EMPTY and free one; none is NO_SLOT with DROP; a mounted target is NONE_NEEDED. -/
theorem test_change_slots :
    changeBegins 200 (racked (some 5) tbl) = some (.claiming, some (some 0, some 5), none, none, [.change]) ∧
    changeBegins 200 (racked (some 0) tbl) = some (.claiming, some (some 0, some 1), none, none, [.change]) ∧
    changeBegins 200 (racked none tbl) = some (.claiming, some (some 0, some 1), none, none, [.change]) ∧
    changeBegins 200 (racked none fullRack) =
      some (.still, none, some (.fault ⟨.noSlot, 1, 0⟩ ⟨0, 0, 0⟩), some (.changeEnd .failed 100), []) ∧
    changeBegins 100 (racked none tbl) = some (.still, none, none, some (.changeEnd .noneNeeded 100), []) := by decide +kernel

/-- With auto-qualify on, a QUALIFY stands above a CHANGE that ended NONE_NEEDED for an unqualified probe. -/
theorem test_change_qualifies : changeBegins 100 { racked none tbl with
      setup := { cell.setup with image := some { conf with autoQualify := true } }
      probes := [{ record with qual := .unqualified }] } =
    some (.claiming, none, none, some (.changeEnd .noneNeeded 100), [.qualify, .change]) := by decide +kernel

theorem test_meets_Changes : (racked (some 5) tbl).listensTo 7 = true ∧ (racked (some 5) tbl).probe 200 ≠ none ∧
    (racked (some 5) tbl).mounted ≠ .resolved 200 ∧ (racked (some 5) tbl).mounted ≠ .none ∧
    (racked (some 5) tbl).mounted = .resolved 100 ∧ (racked (some 5) tbl).mountedRecord.bind (·.homeSlot) = some 5 ∧
    tbl.contents 5 = .empty ∧ tbl.holder (16 + 5) = .free ∧ tbl.contents 0 ≠ .empty ∧ tbl.contents 1 = .empty ∧
    tbl.holder (16 + 1) = .free ∧ (∀ n : Fin 8, fullRack.contents n.val ≠ .empty) ∧ cell.chg.parked = false ∧
    conf.autoQualify = false ∧ cell.events.mask.getLsbD 2 = true := by decide +kernel

/-- A PROBEDEF payload for the ID given. -/
def probePayload (id : Nat) : List Byte :=
  bytes 2 id ++ bytes 4 20 ++ List.replicate 12 0 ++ [0, 0, 100]

theorem test_meets_Probedef : cell.listensTo 7 = true ∧ (probePayload 100).length = 21 ∧
    (probeDefOf (probePayload 9)).map (·.id) = some 9 ∧ probeDefOf (probePayload 0) = none ∧
    cell.probe 9 = none ∧ cell.probes.length < 8 ∧ (List.replicate 8 record).length = 8 ∧ cell.probe 100 ≠ none ∧
    cell.mounted.id = some 100 ∧ cell.probeInUse = false ∧
    (moving travel (seg (.move spec))).probeInUse = true := by decide +kernel

theorem test_meets_Settings : cell.listensTo 7 = true ∧ (List.replicate 14 (0 : Byte)).length = 14 ∧
    (fieldAt [1, 0, 10] 0 1, fieldAt [1, 0, 10] 1 2) = (1, 10) ∧
    (fieldAt [32, 19, 136] 0 1, fieldAt [32, 19, 136] 1 2) = (32, 5000) ∧ fieldAt [33, 0, 10] 0 1 = 33 ∧
    fieldAt [15, 255] 0 2 = 4095 ∧ fieldAt [16, 0] 0 2 = 4096 := by decide +kernel

theorem test_meets_Ask : cell.listensTo 7 = true ∧ cell.thermal.peers[0]?.isSome = true ∧ cell.thermal.peers[1]? = none ∧
    cell.probe (BitVec.ofNat 16 100) = some record ∧ cell.probe (BitVec.ofNat 16 9) = none ∧
    cell.arm.motion = none ∧ cell.viewQueue[5]? = some (.u8 0) ∧
    ([point 5 7].find? (fun q => q.number == BitVec.ofNat 16 5)).isSome = true ∧
    cell.cap.ring.find? (fun q => q.number == BitVec.ofNat 16 5) = none := by decide +kernel

/-- The edges of ASK's arguments: channels 11 and 12, items 23 and 24. -/
theorem test_ask_edges : let r (c : Instr) := (after (exec c cell)).map (fun t => t.line.m3.map (·.result))
    r (.askChannel 7 [2, 0, 11, 0]) = some (some .ok) ∧ r (.askChannel 7 [2, 0, 12, 0]) = some (some .bad) ∧
    r (.askShare 7 [7, 0, 23, 0]) = some (some .ok) ∧ r (.askShare 7 [7, 0, 24, 0]) = some (some .bad) := by decide +kernel

theorem test_meets_CommandTests : (Instr.go 7 []).header = some ⟨7, 0x21, false, true⟩ ∧
    (Instr.askIdent 7 []).header = some ⟨7, 0x2E, true, false⟩ ∧ cell.receives 0 = false ∧ cell.receives 7 = true ∧
    cell.line.m3 = none ∧ (withLine (fun l => { l with m3 := some ⟨7, 0x20, .ok, []⟩ })).line.m3 ≠ none ∧
    State.reset.setup.load = .reading ∧ ({ cell with setup := { cell.setup with load := .fault } } : State).receives 7 = true ∧
    (withJoin (fun j => { j with leaveWait := some 9990 })).join.leaveWait ≠ none ∧ cell.fromPlanner 3 = false ∧
    cell.fromPlanner 7 = true ∧ (Instr.go 7 [0]).header = some ⟨7, 0x21, false, false⟩ := by decide +kernel

theorem test_meets_FrameHeard : cell.line.active = true ∧ (7 : Station) ≠ cell.me ∧ goodHeader.source = 7 ∧
    headerMalformed goodHeader = false ∧ cell.vetoesHeader goodHeader = false ∧ cell.join.st ≠ .quiet ∧
    presenceHeader.source = 3 ∧ headerMalformed presenceHeader = false ∧ cell.vetoesHeader presenceHeader = false ∧
    (withJoin (fun j => { j with st := .listening, window := some 9000 })).join.st = .listening ∧ cell.setup.load = .loaded ∧
    (withLine (fun l => { l with lastHeard := updateAt (fun _ => some 9000) 7 l.lastHeard })).line.lastHeard[7]? =
      some (some 9000) ∧
    (withJoin (fun j => { j with st := .quiet })).join.st = .quiet := by decide +kernel

theorem test_meets_Mismatch : cell.table = some tbl ∧ (5 : BitVec 16) ≠ tbl.seq + 1 ∧
    (Instr.attach 3 5).shareFrame = some (3, 5, .attach) ∧
    headerMalformed { cls := 1, source := 3, kind := 0x09, dest := 15, length := 0, seq := 5 } = false ∧
    isShareKind 0x09 = true ∧ (0x09 : Nat) ≠ joinKind := by decide +kernel

theorem test_meets_Detach : State.reset.join.st = .listening ∧ cell.join.st = .attached ∧ cell.mounted = .resolved 100 ∧
    cell.chg.change = none ∧ cell.events.mask.getLsbD 9 = true ∧ cell.events.slots.length = 12 := by decide +kernel

theorem test_meets_Vetoes : abandons .stuffViolation = true ∧
    abandons (.header { goodHeader with dest := 9 }) = true ∧ cell.line.active = true ∧ cell.join.st ≠ .quiet ∧
    (withLine (fun l => { l with crcVetoes := 6 })).line.crcVetoes < 7 ∧
    7 ≤ (withLine (fun l => { l with crcVetoes := 7 })).line.crcVetoes ∧
    (withJoin (fun j => { j with st := .listening })).join.st = .listening := by decide +kernel

/-- The state with an event pending. -/
def pendingEvent : State := cell.emit .attach

theorem test_meets_FrameBegin : cell.line.active = true ∧ cell.line.tx = none ∧ cell.join.st ≠ .quiet ∧
    cell.setup.load ≠ .reading ∧ cell.table ≠ none ∧ (withLine (fun l => { l with lostSet := 8 })).line.lostSet ≠ 0 ∧
    cell.line.lostSet = 0 ∧ cell.line.m1 = [] ∧ cell.line.m2 = [] ∧ cell.line.m3 = none ∧
    pendingEvent.events.pending = [.attach] ∧ cell.events.pending = [] ∧ cell.cap.ring.take cell.line.points = [] ∧
    cell.line.thermal = none ∧ (withLine (fun l => { l with presence := true })).line.presence = true ∧
    cell.line.presence = false ∧ (sending (.reply ⟨7, 0x20, .ok, []⟩) false).line.tx ≠ none ∧
    (withLine (fun l => { l with m1 := [.attach] })).line.m1 = [.attach] ∧ (M1Entry.join true).isJoin = true ∧
    (withLine (fun l => { l with m2 := [⟨3, ⟨3, .claims []⟩⟩] })).line.m2 = [⟨3, ⟨3, .claims []⟩⟩] ∧
    (withLine (fun l => { l with m3 := some ⟨7, 0x20, .ok, []⟩ })).line.m3 = some ⟨7, 0x20, .ok, []⟩ ∧
    [point 1 7].take 1 = [point 1 7] ∧
    (withLine (fun l => { l with thermal := some ⟨1000, [(0, .fresh, 2000)]⟩ })).line.thermal =
      some ⟨1000, [(0, .fresh, 2000)]⟩ := by decide +kernel

theorem test_meets_Arbitration : ((sending (.reply ⟨7, 0x20, .ok, []⟩) false).line.tx.map (·.won)) = some false ∧
    (TxContent.reply ⟨7, 0x20, .ok, []⟩).isWithdraw = false ∧ (TxContent.share .attach .attach).isWithdraw = false ∧
    (TxContent.share .withdraw .withdraw).isWithdraw = true ∧
    ((sending (.share .withdraw .withdraw) false).line.tx.map (·.won)) = some false ∧ cell.table = some tbl ∧
    ({ cell with agent := ⟨some ⟨.home, 3, 2, .expiring, none, 0⟩, none, 1, none⟩ } : State).agent.current =
      some ⟨.home, 3, 2, .expiring, none, 0⟩ := by decide +kernel

/-- The WITHDRAW of a requester's EXPIRING claim on the line: at its win the run and the fault, and the retired claim. -/
def withdrawWins (r : Requester) : Option (RunState × Option FaultCode × Option RetiredPhase × Option (BitVec 16)) :=
  (after (exec .arbitrationWon { sending (.share .withdraw .withdraw) false with
    run := { Run.cold with st := .active, owner := some 7 }
    agent := ⟨some ⟨r, 3, 2, .expiring, none, 0⟩, none, 1, none⟩ })).map (fun t =>
      (t.run.st, t.lastFault, t.agent.retired.map (·.phase), t.line.tx.map (·.seq)))

theorem test_meets_WithdrawWins : [Requester.motion, .lookahead, .conflict].map withdrawWins =
      [some (.none, some .zoneTimeout, some .withdrawing, some 4), some (.active, none, some .withdrawing, some 4),
        some (.active, none, some .withdrawing, some 4)] ∧
    cell.agent.current = none ∧ (sending (.share .withdraw .withdraw) false).table = some tbl := by decide +kernel

/-- A station without a table in a join state. -/
def outside_ (st : JoinState) (f : Join → Join) : State := { cell with table := none, join := f { Join.cold with st := st } }

/-- PRESENCE fields. -/
def shown : PresenceFields := cell.presenceFields

theorem test_meets_OwnAccepted : ((sending (.lost 8) true).line.tx.map (fun t => (t.won, t.stale, t.renewed))) =
      some (true, false, false) ∧ (sending (.event [.attach]) true).line.tx.isSome = true ∧
    pendingEvent.events.slots[10]? = some { pending := some .attach, renewed := false } ∧
    (sending (.presence shown) true).table = some tbl ∧
    (outside_ .joining (fun j => { j with logging := true })).join.logging = true ∧
    (outside_ .joining (fun j => { j with logging := true })).join.presences.length < 64 ∧
    (outside_ .listening id).join.st = .listening ∧ JoinShown.showsCell .listening = false ∧
    (sending (.share .attach .attach) true).join.image = none ∧ ShareFrame.attach ≠ .leave ∧
    (sending (.thermal ⟨1000, [(0, .fresh, 2000)]⟩) true).line.tx.isSome = true := by decide +kernel

/-- The state with an own share frame on the line that stands at the head of M1. -/
def sharing (e : M1Entry) (f : ShareFrame) (stale : Bool) (s : State) : State :=
  { s with line := { s.line with m1 := [e], tx := some { offer (.share e f) 15 with won := true, stale := stale } } }

/-- What the acceptance of that frame leaves of M1, of the frame to apply, and of the join state. -/
def sharingEnds (s : State) : Option (List M1Entry × Option ShareFrame × JoinState) :=
  (after (exec .ownFrameAccepted s)).map (fun t => (t.line.m1, t.line.awaiting, t.join.st))

/-- A stale frame takes nothing out of M1; it goes to its block all the same, but in QUIET to none. -/
theorem test_stale_frame : sharingEnds (sharing .attach .attach false cell) = some ([], some .attach, .attached) ∧
    sharingEnds (sharing .attach .attach true (outside_ .listening id)) = some ([.attach], some .attach, .listening) ∧
    sharingEnds (sharing .attach .attach true (outside_ .quiet id)) = some ([.attach], none, .quiet) := by
  decide +kernel

/-- The fields of an ordinary JOIN. -/
def joinFields : JoinFields := { role := .arm, standing := 1, founding := false, serves := true }

theorem test_meets_SharesAccepted :
    sharingEnds (sharing (.join false) (.join joinFields) false (outside_ .listening id)) = some ([], none, .joining) ∧
    sharingEnds (sharing (.join true) (.join { joinFields with founding := true }) false (outside_ .listening id)) =
      some ([], some (.join { joinFields with founding := true }), .listening) ∧
    (sharing (.join false) (.join joinFields) false (outside_ .listening id)).join.image = none ∧
    (outside_ .listening (fun j => { j with image := some tbl })).join.image ≠ none ∧
    (outside_ .quiet id).join.st = .quiet ∧ (outside_ .listening id).join.st ≠ .quiet := by decide +kernel

theorem test_meets_OwnVoid : ((sending (.lost 8) true).line.tx.map (·.won)) = some true ∧
    ((sending (.lost 8) false).line.tx.map (·.won)) = some false ∧ (sending (.lost 8) true).line.voids < 3 ∧
    3 ≤ (withLine (fun l => { l with voids := 3 })).line.voids ∧ cell.join.st = .attached ∧
    (outside_ .listening id).join.st = .listening ∧ (outside_ .quiet id).join.st = .quiet := by decide +kernel

/-- The fourth void detaches with VOID_LIMIT, a QUIET station counts none, and a CLAIM of the retired claim leaves M1 at its void. -/
theorem test_voids : ((after (exec .bitError { sending (.lost 8) true with line :=
      { (sending (.lost 8) true).line with voids := 3 } })).map (fun t =>
      (t.line.voids, t.join.st, (t.events.slots[9]?).bind (·.pending)))) = some (0, .listening, some (.detach .voidLimit)) ∧
    ((after (exec .bitError { outside_ .quiet id with
      line := { (sending (.lost 8) true).line with voids := 3 } })).map (fun t => (t.line.voids, t.line.tx))) = some (3, none) ∧
    ((after (exec .ownFrameVoid { sending (.share (.claim 2 5) (.claim 2)) true with
      line := { (sending (.share (.claim 2 5) (.claim 2)) true).line with m1 := [.claim 2 5] }
      agent := { cell.agent with retired := some ⟨2, .retiring, 5⟩ } })).map (fun t => (t.line.m1, t.agent.retired))) =
      some ([], none) := by decide +kernel

theorem test_meets_LineTimers : cell.line.presenceTimer = some 9990 ∧ State.reset.line.presenceTimer = none ∧
    (withLine (fun l => { l with lastHeard := updateAt (fun _ => some 9000) 3 l.lastHeard, heardAny := some 9000 })).line.lastHeard.getD
      3 none = some 9000 ∧ cell.join.st = .attached ∧ cell.notAlone = true ∧
    ({ cell with table := some Table.initial } : State).notAlone = false ∧
    ({ cell with cap := { cell.cap with ring := [point 1 7] } } : State).cap.ring = [point 1 7] ∧ cell.cap.ring = [] ∧
    ({ cell with agent := ⟨some ⟨.home, 3, 2, .pending, some 9000, 0⟩, none, 1, none⟩ } : State).agent.current =
      some ⟨.home, 3, 2, .pending, some 9000, 0⟩ ∧ cell.agent.current = none ∧ cell.line.m1.length < 8 ∧
    State.reset.join.st = .listening ∧ State.reset.line.m1 = [] ∧ State.reset.detachDue = none ∧
    State.reset.arm.st ≠ .still ∧ State.reset.m1OnLine = false ∧ (cell.join.st ≠ .quiet ∧ cell.join.st ≠ .listening) ∧
    (withLine (fun l => { l with m1 := [.join false] })).m1OnLine = false ∧ State.reset.join.window = none ∧
    ({ Join.cold with window := some 0 } : Join).window = some 0 ∧ ({ Join.cold with wait := some 0 } : Join).wait = some 0 ∧
    cell.join.wait = none ∧ ({ Join.cold with st := .quiet, quietSince := some 0 } : Join).quietSince = some 0 := by
  decide +kernel

theorem test_meets_ReportDecision : cell.pointsOnLine = false ∧ (sending (.points [point 1 7]) true).pointsOnLine = true ∧
    cell.cap.ring = [] ∧ (({ cell with cap := { cell.cap with ring := [point 1 7, point 2 6] } } : State).reportDue = true) ∧
    (point 1 7).report ≠ (point 2 6).report := by decide +kernel

/-- A station about to found its cell, with the drives off. -/
def founder : State :=
  { dead with
    table := none
    join := Join.cold
    line := { dead.line with awaiting := some (.join { role := .arm, standing := 1, founding := true, serves := true }) } }

theorem test_meets_FoundingJoin : founder.line.awaiting =
      some (.join { role := .arm, standing := 1, founding := true, serves := true }) ∧ founder.table = none ∧
    founder.join.st = .listening ∧ founder.line.m1 = [] ∧ founder.setup.straps.rackHost = true ∧
    founder.events.mask.getLsbD 10 = true ∧ founder.events.slots.length = 12 := by decide +kernel

/-- The founder is ATTACHED with the drives off, and with the arm STILL in an ACTIVE run too, which then takes its head segment. -/
theorem test_founding_join : let still : State := { founder with arm := cell.arm, run := runOf7 }
    (after (exec .foundingJoin founder)).map (fun t => (t.join.st, t.table.map (·.seq), t.line.m1)) =
      some (.attached, some 1, [.slotSense 0]) ∧
    (after (exec .foundingJoin still)).map (fun t => (t.join.st, t.arm.st, t.run.queue.length)) = some (.attached, .moving, 0) := by
  decide +kernel

/-- A JOINING station that logs, with four of the five parts of an image. -/
def joiner (parts : List SnapshotPart) : State :=
  { cell with
    table := none
    join := { Join.cold with
      st := .joining, logging := true, parts := parts
      log := [{ sender := 0, seq := 3, frame := .join { role := .arm, standing := 1, founding := false, serves := true } }] } }

theorem test_meets_Snapshot : (joiner []).line.active = true ∧ (3 : Station) ≠ (joiner []).me ∧ (joiner []).join.st = .joining ∧
    (joiner []).join.logging = true ∧ (joiner []).table = none ∧ cell.join.st ≠ .joining ∧
    (∃ q ∈ tbl.image .join, q.seq ≠ (4 : BitVec 16)) ∧ (∀ q ∈ tbl.image .join, q.seq = (3 : BitVec 16)) ∧
    (tableOfParts (collectPart [] ⟨3, .zonesLow (List.replicate 8 .free)⟩) 0).isNone = true ∧
    (tableOfParts (collectPart ((tbl.image .join).take 4) ⟨3, .claims []⟩) 0).map (·.2) = some .join ∧
    imagePlace .join 3 (joiner []).join.log = some 1 ∧ imagePlace .takeover 4 (joiner []).join.log = none ∧
    (joiner []).line.m1.length < 8 := by decide +kernel

theorem test_meets_Presence : cell.line.active = true ∧ (3 : Station) ≠ cell.me ∧ cell.table = some tbl ∧
    (tbl.entry 3).state = .attached ∧ (3 : Station).val < tbl.roster.length ∧ (tbl.entry 1).state = .absent ∧
    (joiner []).table = none ∧ (joiner []).join.presences.length < 64 := by decide +kernel

/-- A JOINING station with so many presence records. -/
def recorded (n : Nat) : State :=
  { joiner [] with join := { (joiner []).join with presences := List.replicate n { sender := 3, standing := 4, before := 1 } } }

/-- A LISTENING station with the given M1. -/
def listening (m1 : List M1Entry) : State := { outside_ .listening id with line := { cell.line with m1 := m1 } }

theorem test_meets_PresenceOutside : 64 ≤ (recorded 64).join.presences.length ∧ (recorded 64).line.m1.length < 8 ∧
    (recorded 64).join.logging = true ∧ (recorded 64).join.st = .joining ∧ (listening []).table = none ∧
    (listening []).join.st = .listening ∧ (listening []).setup.load = .loaded ∧ (listening []).line.m1 = [] ∧
    (listening [.join true]).line.m1 = [.join true] ∧ (listening [.join true]).m1OnLine = false ∧
    shown.join = .attached := by decide +kernel

/-- The 64th record is kept and the 65th fails the join; a LISTENING station hears the cell from a station shown ATTACHED and not from
one shown LISTENING. -/
theorem test_presence_outside : let ends (s : State) (j : JoinShown) := (after (exec (.presence 3 { shown with join := j }) s)).map (fun t =>
      (t.join.presences.length, t.join.log.length, t.line.m1, t.join.window))
    ends (recorded 63) .attached = some (64, 1, [], none) ∧ ends (recorded 64) .attached = some (0, 0, [.join false], none) ∧
    ends (listening []) .attached = some (0, 0, [.join false], some 10000) ∧
    ends (listening [.join true]) .joinConflict = some (0, 0, [.join false], some 10000) ∧
    ends (listening [.join true]) .listening = some (0, 0, [.join true], none) ∧
    ends (listening []) .quiet = some (0, 0, [], some 10000) := by decide +kernel

/-- The table in which the station is JOINING with a conflict set. -/
def joiningTable (conflict : ZoneSet) : Table :=
  { tbl with roster := updateAt (fun r => { r with state := .joining, conflict := conflict }) 0 tbl.roster }

/-- The station whose own ATTACH awaits its application. -/
def attaching (conflict : ZoneSet) : State :=
  { cell with
    table := some (joiningTable conflict)
    join := { Join.cold with st := .joining }
    line := { cell.line with awaiting := some .attach } }

theorem test_meets_ShareFrames : (Instr.release 3 4 4).shareFrame = some (3, 4, .release 4) ∧ (3 : Station) ≠ cell.me ∧
    (4 : BitVec 16) = tbl.seq + 1 ∧ (Instr.release 0 4 4).shareFrame = some (0, 4, .release 4) ∧
    (withLine (fun l => { l with awaiting := some (.release 4) })).line.awaiting = some (.release 4) ∧
    (0 : Station) = cell.me ∧ (Instr.lost 3 4 1).shareFrame = some (3, 4, .lost 1) ∧
    (1 : StationSet).getLsbD cell.me.val = true ∧ (tbl.entry cell.me).state.inCell = true ∧ cell.join.st = .attached ∧
    cell.chg.change = none ∧ cell.chg.closing = [] ∧
    ((tbl.apply 5 (.join { role := .arm, standing := 0, founding := false, serves := true }) 0).capture.map (·.by_)) = some cell.me ∧
    (joiner []).table = none ∧ (joiner []).join.log.length < 32 ∧ (outside_ .listening id).line.m1 = [] ∧
    (outside_ .listening id).setup.load = .loaded ∧ (outside_ .listening id).join.heardShare = false := by
  decide +kernel

/-- The owner of a run, at rest or in a travel, leaves the cell, and a peer whose reading is FRESH. -/
theorem test_meets_OwnerGone : let t := moving travel (seg (.move spec))
    let frame : ShareFrame := .lost 0x88
    (Instr.lost 3 4 0x88).shareFrame = some (3, 4, frame) ∧ (tbl.leaving 3 frame).getLsbD 7 = true ∧
    (0x88 : StationSet).getLsbD cell.me.val = false ∧
    (withRun (fun _ => queueOf7) cell).run.owner = some 7 ∧ queueOf7.st = .none ∧
    (inRun id).run.owner = some 7 ∧ (inRun id).run.st ≠ .none ∧ (inRun id).stopGoverns = false ∧ (inRun id).travelling = false ∧
    t.run.owner = some 7 ∧ t.run.st ≠ .none ∧ t.stopGoverns = false ∧ t.travelling = true ∧
    t.arm.stopping.map (·.fast) ≠ some true ∧ (stopped false (.endRun .stopped 0) runOf7).stopGoverns = true ∧
    t.events.mask.getLsbD 1 = true ∧ cell.thermal.peers[0]?.isSome = true := by decide +kernel

/-- What the other blocks do when the owner is declared lost, with its LEAVE, and in a governed stop. -/
theorem test_owner_gone : let fresh (s : State) : State := { s with
      thermal := { s.thermal with peers := s.thermal.peers.map (fun e => { e with st := .fresh, value := some 2000 }) } }
    let ends (c : Instr) (s : State) := (after (exec c (fresh s))).map (fun t =>
      (t.run.st, t.arm.stopping.map (·.after), (t.events.slots[1]?).bind (·.pending), t.thermal.peers.map (·.st)))
    ends (.lost 3 4 0x88) (inRun id) = some (.none, none, some (.runEnd .ownerLost 0), [.subst]) ∧
    ends (.leave 7 4) (moving travel (seg (.move spec))) = some (.active, some (.endRun .ownerLost 0), none, [.fresh]) ∧
    ends (.leave 7 4) (stopped false (.endRun .stopped 0) runOf7) = some (.active, some (.endRun .stopped 0), none, [.fresh]) ∧
    ends (.leave 7 4) (withRun (fun _ => queueOf7) cell) = some (.none, none, none, [.fresh]) := by decide +kernel

/-- A share frame of the station's own that is applied without a table: the join unit takes it as another station's. -/
theorem test_own_share_without_table : let ends (st : JoinState) := (after (exec (.claim 0 4 2) { outside_ st id with
      line := { cell.line with awaiting := some (.claim 2) } })).map (fun t =>
      (t.line.m1, t.line.awaiting, t.join.heardShare, t.join.window))
    ends .listening = some ([.join false], none, true, none) ∧ ends .quiet = some ([], none, false, none) := by
  decide +kernel

/-- The station's own ATTACH, without a conflict and with one. -/
theorem test_own_attach : let ends (c : ZoneSet) := (after (exec (.attach 0 4) (attaching c))).map (fun t =>
      (t.join.st, t.arm.energized, t.agent.current.map (·.items)))
    ends 0 = some (.attached, true, none) ∧ ends 4 = some (.attached, false, some 4) := by decide +kernel

/-- A LISTENING station queues an ordinary JOIN at an observed founding JOIN, and keeps its image. -/
theorem test_listening_founding : ((after (exec (.observedFoundingJoin 3 1 ⟨.arm, 4, true, true⟩) (outside_ .listening id))).map
    (fun t => (t.line.m1, t.join.image.map (·.seq), t.join.heardShare))) = some ([.join false], some 1, true) := by decide +kernel

/-- A JOINING station logs a frame, overflows at a full log, and detaches at a LOST that names it. -/
theorem test_joining_logs : let full : State := { joiner [] with
      join := { (joiner []).join with log := List.replicate 32 { sender := 3, seq := 3, frame := .attach } } }
    ((after (exec (.attach 3 4) (joiner []))).map (fun t => t.join.log.length)) = some 2 ∧
    ((after (exec (.attach 3 4) full)).map (fun t => (t.join.log.length, t.join.logging, t.line.m1))) =
      some (0, false, [.join false]) ∧
    ((after (exec (.lost 3 4 1) (joiner []))).map (fun t => (t.join.st, (t.events.slots[9]?).bind (·.pending)))) =
      some (.listening, some (.detach .declaredLost)) := by decide +kernel

theorem test_meets_TableRules : tbl.wellShaped ∧ (tbl.entry 0).state = .attached ∧ (tbl.entry 0).role = .arm ∧
    (∀ e ∈ tbl.claims, e.station ≠ 0) ∧ tbl.claims.length < 8 ∧ (2 : ItemSet) &&& ~~~ tbl.heldBy 0 ≠ 0 ∧
    (1 : ItemSet) &&& ~~~ tbl.heldBy 0 = 0 ∧
    (∃ e ∈ ({ tbl with claims := [⟨0, 2, 0⟩] } : Table).claims, e.station = 0) ∧ (tbl.entry 0).state.inCell = true ∧
    (tbl.entry 1).state.inCell = false ∧ tbl.isPlanner 7 = true ∧ (∀ n, tbl.holder (16 + (7 : Byte).toNat) ≠ .station n) ∧
    ({ tbl with holders := List.replicate 24 (.station 0) } : Table).holder (16 + (7 : Byte).toNat) = .station 0 ∧
    (tbl.entry 7).role ≠ .arm ∧ tbl.answering = none ∧ ((joiningTable 0).lowest (fun r => r.state == .joining)) = some 0 ∧
    ((((joiningTable 0).apply 3 .leave 0).table.entry 3).state ≠ .attached) := by
  unfold Table.wellShaped; decide +kernel

/-- A JOIN takes its free zones and keeps the others as its conflict set; a slot that is freed is tested. -/
theorem test_join_applies : let t := ({ tbl with
      holders := [.station 0, .free, .station 3, .fenced 5] ++ List.replicate 12 .free ++ .station 5 :: List.replicate 7 .free
      slots := ⟨.probe 200, .absent⟩ :: tbl.slots.drop 1 } : Table).apply 5 (.join ⟨.arm, 7, false, true⟩) 0
    ((t.table.entry 5).conflict, t.table.holder 0, t.table.holder 1, t.table.holder 3, t.table.holder 16, t.table.contents 0) =
      (5, .station 0, .station 5, .free, .free, .unknown) := by decide +kernel

theorem test_meets_ReleaseWithdrawAndClear : tbl.nothingGrantable ∧ tbl.wellShaped ∧
    (∀ i : Nat, i < 24 → (2 : ItemSet).getLsbD i = true → tbl.holder i ≠ .station 0) ∧ (∀ e ∈ tbl.claims, e.station ≠ 0) ∧
    tbl.isPlanner 3 = false ∧ 24 ≤ (24 : Byte).toNat ∧ tbl.holder (2 : Byte).toNat = .station 3 := by
  refine ⟨?_, by unfold Table.wellShaped; decide +kernel, by decide +kernel, by decide +kernel, by decide +kernel,
    by decide, by decide +kernel⟩
  intro before after e h
  simp [tbl, Table.initial] at h

/-- An entry that names an item of another station stays; the one behind it is granted. -/
theorem test_meets_GrantWalk : tbl.wellShaped ∧
    ({ tbl with claims := [⟨0, 4, 0⟩, ⟨3, 2, 0⟩] } : Table).grantWalk.1.claims = [⟨0, 4, 0⟩] ∧
    ({ tbl with claims := [⟨0, 4, 0⟩, ⟨3, 2, 0⟩] } : Table).grantWalk.1.holder 1 = .station 3 := by
  unfold Table.wellShaped; decide +kernel

theorem test_meets_SameContent : tbl.content = ({ tbl with answering := some 3 } : Table).content := by decide +kernel

/-- The state with a scan in flight. -/
def scanning (left : List Nat) (results : List (Nat × Judged)) (st : ChannelState) : State :=
  { cell with thermal := { cell.thermal with
      scan := some { left := left, results := results }
      channels := { Channel.off with st := st, filtered := some 2000 } :: List.replicate 11 Channel.off } }

theorem test_meets_Scans : cell.config = some conf ∧ cell.thermal.cadence = some 9000 ∧ cell.thermal.scan = none ∧
    enabledChannels conf.channels ≠ [] ∧ enabledChannels ({ conf with channels := [] } : Image).channels = [] ∧ (scanning [0] [] .fresh).thermal.scan ≠ none ∧
    conf.channels[0]? = some ⟨true, true, 2, 15000, 0xEC78⟩ ∧
    (scanning [0] [] .fresh).thermal.channels[0]? = some { Channel.off with st := .fresh, filtered := some 2000 } ∧
    ([(0, Judged.good 2100)] : List (Nat × Judged)).find? (fun r => r.1 == 0) = some (0, .good 2100) ∧
    ([(0, Judged.bad)] : List (Nat × Judged)).find? (fun r => r.1 == 0) = some (0, .bad) ∧ 0 < conf.ageLimit.toNat ∧
    conf.soakLimit ≠ 0 ∧ ({ cell with soak := some 9000 } : State).soak = some 9000 := by decide +kernel

/-- The further forms of a channel and of a peer entry at a scan completion. -/
theorem test_meets_ScanForms : let ch (st : ChannelState) : Channel := { Channel.off with st := st, since := some 0 }
    let e (st : ChannelState) : PeerEntry := ⟨3, 2, some 2000, st, some 1000, [], none, some 7000, some 0⟩
    (ch .subst).since = some 0 ∧ 1000 * conf.ageLimit.toNat ≤ ((60000 : Clock) - 0).toNat ∧
    ¬ 1000 * conf.ageLimit.toNat ≤ ((59999 : Clock) - 0).toNat ∧ (ch .unavailable).st = .unavailable ∧
    ([] : List (Nat × Judged)).find? (fun r => r.1 == 0) = none ∧ (e .fresh).cadence = some 1000 ∧ (e .fresh).updated = some 7000 ∧
    (e .subst).since = some 0 ∧ (List.replicate 8 (2000 : Temp)).length = 8 := by decide +kernel

/-- Channel 0 of the test image is enabled and shared: its scan fills the THERMAL slot beside a THERMAL on the line. Without such a
channel the slot stays as it is. -/
theorem test_meets_ThermalSlot : (conf.channels[0]?.map (fun c => (c.enabled, c.shared))) = some (true, true) ∧
    (scanning [] [(0, .good 2100)] .fresh).thermal.channels.length = 12 ∧
    (after (exec .scanCompletion { scanning [] [(0, .good 2100)] .fresh with
      line := (sending (.thermal ⟨1000, [(0, .fresh, 2000)]⟩) false).line })).map (fun t =>
        (t.line.thermal, t.line.tx.map (·.renewed))) = some (some ⟨1000, [(0, .fresh, 2025)]⟩, some true) ∧
    (∀ n : Nat, ({ conf with channels := [] } : Image).channels[n]? = none) := by
  refine ⟨by decide +kernel, by decide +kernel, by decide +kernel, fun _ => rfl⟩

/-- A channel and a peer entry at the edges of their ages, and a ninth good reading, which gives the rate. -/
theorem test_scan_ages : let ch (st : ChannelState) : Channel := { Channel.off with st := st, since := some 0, rate := some 5 }
    let e (st : ChannelState) : PeerEntry := ⟨3, 2, some 2000, st, some 1000, [], none, some 7000, some 0⟩
    let at_ (now : Clock) (c : Channel) (p : PeerEntry) (r : List (Nat × Judged)) := (after (exec .scanCompletion
      { scanning [] r .fresh with
        clock := now
        thermal := { (scanning [] r .fresh).thermal with channels := [c], peers := [p] } })).map (fun t =>
          (t.thermal.channels.map (fun c => (c.st, c.rate)), t.thermal.peers.map (·.st)))
    at_ 59999 (ch .subst) (e .subst) [(0, .bad)] = some ([(.subst, some 5)], [.subst]) ∧
    at_ 60000 (ch .subst) (e .subst) [(0, .bad)] = some ([(.unavailable, none)], [.unavailable]) ∧
    at_ 9999 (ch .unavailable) (e .fresh) [(0, .bad)] = some ([(.unavailable, some 5)], [.fresh]) ∧
    at_ 10000 (ch .subst) (e .fresh) [(0, .good 2000)] = some ([(.fresh, none)], [.subst]) ∧
    at_ 10000 { ch .fresh with filtered := some 2000, history := List.replicate 8 1960 } (e .unavailable) [(0, .good 2000)] =
      some ([(.fresh, some 300)], [.unavailable]) := by decide +kernel

/-- The edges of a conversion's judgement: at the open threshold bad, just below it good; at the short threshold bad. -/
theorem test_judge_edges : let c : ChannelConf := ⟨true, true, 2, 15000, 0xEC78⟩
    c.judge 15000 = .bad ∧ c.judge 14999 = .good 14999 ∧ c.judge 0xEC78 = .bad ∧ c.judge 0xEC79 = .good 0xEC79 := by
  decide +kernel

theorem test_meets_Thermal : cell.receives 3 = true ∧ (tbl.entry 3).state.inCell = true ∧ (tbl.entry 1).state.inCell = false ∧
    ((cell.thermal.peers[0]?).map (fun e => (e.station.toNat, e.channel.toNat))) = some (3, 2) ∧
    bytesOf 2 100 ++ bytesOf 1 (16 * 2 + 0) ++ bytesOf 2 2100 = [0, 100, 32, 8, 52] ∧
    (after (exec (.thermal 3 [0, 100, 32, 8, 52]) cell)).bind (fun t => (t.thermal.peers[0]?).bind (·.value)) =
      some 2100 := by decide +kernel

/-- A frame of several channels gives the watched one its value, with a state code above 2 none; a length that is not 2 plus a
multiple of 3 and a cadence of 99 or 10001 are not taken. -/
theorem test_thermal_frames : let value (p : List Byte) := (after (exec (.thermal 3 p) cell)).map (fun t =>
      (t.thermal.peers[0]?).bind (·.value))
    value ([0, 100] ++ [16, 0, 5] ++ [32, 8, 52] ++ [48, 0, 6]) = some (some 2100) ∧
    value ([0, 100] ++ [16, 0, 5] ++ [35, 8, 52]) = some none ∧ value ([0, 100] ++ [35, 0, 5] ++ [32, 8, 52]) = some (some 2100) ∧
    value [0, 100, 32, 8, 52, 0] = some none ∧ value [0, 99, 32, 8, 52] = some none ∧
    value [0x27, 0x11, 32, 8, 52] = some none ∧ value [0x27, 0x10, 32, 8, 52] = some (some 2100) ∧
    ([(1, 0, 5), (2, 0, 2100), (3, 0, 6)] : List (Nat × Nat × Temp)).flatMap (fun x =>
      bytesOf 1 (16 * x.1 + x.2.1) ++ bytesOf 2 x.2.2.toNat) = [16, 0, 5, 32, 8, 52, 48, 0, 6] := by decide +kernel

/-- A probing travel with a pending latch, the input asserted. -/
def touching (falses : Nat) : State :=
  { moving { probing with falseTriggers := falses } (seg (.probe false spec)) with
    trig := { high := true, latch := some { position := ⟨1, 2, 3⟩, width := 100 }, blocked := false } }

theorem test_meets_Trigger : cell.trig.high ≠ true ∧ cell.armed = false ∧
    (moving travel (seg (.probe false spec))).armed = true ∧
    (moving travel (seg (.probe false spec))).mountedRecord = some record ∧
    (moving travel (seg (.probe false spec))).assertedLevel = some true ∧
    (moving travel (seg (.probe false spec))).trig.high ≠ true ∧
    ({ moving travel (seg (.probe false spec)) with trig := { high := true, latch := none, blocked := true } } : State).armed = true ∧
    (after (exec (.triggerReturnUnasserted false) { moving travel (seg (.probe false spec)) with
      trig := { high := true, latch := none, blocked := true } })).map (·.trig.blocked) = some false ∧
    (moving travel (seg (.probe false spec))).trig.latch = none ∧
    (moving travel (seg (.probe false spec))).trig.blocked = false ∧ record.defined.width ≠ 0 ∧
    (touching 6).armed = true ∧ (touching 6).trig.latch.isSome = true ∧
    (touching 6).assertedLevel = some (touching 6).trig.high ∧ (touching 6).probing = true ∧
    ({ moving travel (seg (.move spec)) with trig := (touching 0).trig } : State).probing = false ∧
    ({ moving travel (seg (.move spec)) with trig := (touching 0).trig } : State).armed = true ∧
    (touching 0).qual = none ∧ (touching 0).config = some conf ∧ record.data.isSome = true ∧
    ((touching 0).arm.motion.map (fun m => (m.act, m.probing, m.atTarget))) = some (.travel, true, false) ∧
    (touching 0).arm.st = .moving ∧ (touching 0).arm.stopping = none ∧ (touching 0).cap.ring.length < 64 := by decide +kernel

/-- A touch, and a probing travel that a detach or a STOP already stops, with a pending latch. -/
theorem test_meets_Contacts : let touch : State := { away .qualify { probing with act := .touch, origin := .touch } with
      trig := (touching 0).trig
      qual := some { id := 100, touch := 1, results := [], latched := none, legs := [], returning := false } }
    let stopping (after : AfterStop) : State := { touching 0 with arm := { (touching 0).arm with
      st := .decelerating, stopping := some ⟨false, after, false, false, false⟩ } }
    touch.armed = true ∧ ((after (exec .contactAccepted touch)).map (fun t => (t.qual.bind (·.latched), t.lastFault))) =
      some (some 1, none) ∧
    (∀ a ∈ [AfterStop.still, .endRun .stopped 0], (stopping a).armed = true ∧
      ((after (exec .contactAccepted (stopping a))).map (fun t => (t.arm.stopping.map (·.fast), t.lastFault, t.cap.ring.length))) =
        some (some true, none, 0)) := by decide +kernel

/-- A contact while the travel of a PROBE, or a touch, decelerates for a hold: the point is built, and the run is HELD after the
back-off. -/
theorem test_contact_in_a_hold : let holding (s : State) : State := { s with arm := { s.arm with
      st := .decelerating, stopping := some ⟨false, .resume, true, false, false⟩ } }
    let touch : State := { away .qualify { probing with act := .touch, origin := .touch } with
      trig := (touching 0).trig
      qual := some { id := 100, touch := 1, results := [], latched := none, legs := [], returning := false } }
    let ends (s : State) := (after (exec .contactAccepted s)).map (fun t =>
      (t.arm.st, t.arm.stopping, t.cap.ring.map (·.raw), t.qual.bind (·.latched)))
    (holding (touching 0)).armed = true ∧
    ends (holding (touching 0)) = some (.moving, some ⟨true, .backOff, false, true, false⟩, [⟨1, 2, 3⟩], none) ∧
    ends (holding touch) = some (.moving, some ⟨true, .backOff, false, true, false⟩, [], some 1) := by decide +kernel

/-- The eighth false trigger of a motion is PROBE_NOISY, the seventh is not. -/
theorem test_false_trigger_edges : ((after (exec .falseTrigger (touching 6))).map (·.lastFault)) = some none ∧
    ((after (exec .falseTrigger (touching 7))).map (·.lastFault)) = some (some .probeNoisy) := by decide +kernel

/-- A change in progress on the stack. -/
def change (r : ChangeRecord) (m : Motion) : State :=
  { away .change m with chg := { Changer.cold with change := some r } }

/-- The same change with its window open, with the head and the pulse given. -/
def inStep (step : ChangeStep) (wait : ChangeWait) (seated : Bool) (pulse : Option Pulse) : State :=
  { change { changing step wait with window := true } (acting .inPlace .excursion) with
    head := { cell.head with seated := seated, pulse := pulse } }

theorem test_meets_Head : cell.line.active = true ∧ cell.inWindow = false ∧ cell.head.seated = true ∧
    ({ cell with head := { cell.head with seated := false } } : State).head.seated = false ∧
    (moving travel (seg (.move spec))).executing = true ∧ cell.chg.change = none ∧ cell.chg.closing = [] ∧
    (inStep .unlock (.release 9000) true none).inWindow = true ∧ (inStep .unlock (.release 9000) true none).arm.shadow = false ∧
    (changing .unlock (.release 9000)).step = .unlock ∧ (changing .unlock (.release 9000)).drop = some 1 ∧
    (changing .lock (.seat 9000)).pick = some 0 ∧ (inStep .lock (.seat 9000) false none).inWindow = true ∧
    (inStep .lock (.seat 9000) false none).line.m1.length < 8 ∧ cell.mounted = .resolved 100 ∧
    cell.setup.straps.rackHost = true ∧ cell.rack.getLsbD 0 ≠ true ∧ cell.join.st = .attached ∧ cell.line.m1 = [] ∧
    (withJoin (fun j => { j with st := .joining })).join.st ≠ .attached ∧
    ({ cell with head := { cell.head with pulse := some ⟨.lock, 4, true⟩ } } : State).head.pulse = some ⟨.lock, 4, true⟩ := by
  decide +kernel

/-- The steps of a change at the head: it empties, it seats, its read ends. -/
theorem test_head_empties :
    ((after (exec (.headFilterEnd false) (inStep .unlock (.release 9000) true none))).map (fun t =>
      (t.chg.change.map (·.step), t.mounted, t.line.m1.head?))) =
      some (some .leaveDrop, .none, some (.slotSet 1 (.probe 100))) := by decide +kernel

theorem test_head_seats :
    ((after (exec (.headFilterEnd true) (inStep .lock (.seat 9000) false none))).map (fun t =>
      (t.chg.change.map (·.step), t.head.idRead.map (·.forChange)))) = some (some .ident, some true) := by decide +kernel

theorem test_head_identified :
    ((after (exec (.idReadEnd (some 200)) { inStep .ident .read true none with
      head := { cell.head with idRead := some { IdRead.started with forChange := true } } })).map (fun t =>
      (t.chg.change.map (·.window), t.mounted, t.line.m1.head?))) =
      some (some false, .unresolved (.id 200), some (.slotSet 0 .empty)) := by decide +kernel

/-- What the end of the change's own pulse leaves: step and wait, the mounted probe, the dropped identity, M1. -/
def pulseEnds (step : ChangeStep) (wait : ChangeWait) (seated shadow : Bool) :
    Option (Option (ChangeStep × ChangeWait) × Mounted × Option ReadResult × List M1Entry) :=
  let s := inStep step wait seated (some ⟨.lock, 4, true⟩)
  (after (exec .lockPulseEnd { s with arm := { s.arm with shadow := shadow } })).map (fun t =>
    (t.chg.change.map (fun r => (r.step, r.wait)), t.mounted, t.chg.change.bind (·.dropped), t.line.m1))

theorem test_pulse_ends :
    pulseEnds .unlock .pulse true false = some (some (.unlock, .release 10000), .resolved 100, none, []) ∧
    pulseEnds .unlock .pulse false false = some (some (.leaveDrop, .none), .none, some (.id 100),
      [.slotSet 1 (.probe 100), .claim 0x10 0]) ∧
    pulseEnds .unlock .relock true false = some (some (.unlock, .none), .resolved 100, none, [.claim 0x10 0]) ∧
    pulseEnds .lock .pulse true false = some (some (.ident, .read), .resolved 100, none, []) ∧
    pulseEnds .lock .pulse false false = some (some (.lock, .seat 10000), .resolved 100, none, []) ∧
    pulseEnds .unlock .pulse true true = some (some (.leaveDrop, .none), .resolved 100, some (.id 100),
      [.claim 0x10 0]) ∧
    pulseEnds .lock .pulse false true = some (some (.leavePick, .none), .resolved 100, none, [.claim 0x10 0]) := by decide +kernel

theorem test_meets_PulseEnds : (inStep .unlock .pulse true (some ⟨.lock, 4, true⟩)).head.pulse = some ⟨.lock, 4, true⟩ ∧
    (inStep .unlock .pulse true none).chg.closing = [] ∧ (changing .unlock .pulse).serial = 4 ∧
    (changing .unlock .pulse).drop = some 1 ∧ (inStep .unlock .pulse true none).arm.shadow = false ∧
    (inStep .unlock .pulse true none).line.m1.length < 8 := by decide +kernel

/-- The end of a segment releases the zones held outside the end set and the head segment's need set (R30), and merges them into a
RELEASE that waits at the tail of M1. -/
theorem test_segment_releases :
    let ends (queue : List Segment) (m1 : List M1Entry) : Option (List M1Entry) :=
      let s := withRun (fun r => { r with queue := queue }) (moving travel (seg (.move spec)))
      (after (exec .travelComplete { s with
        arm := { s.arm with energized := false }, line := { s.line with m1 := m1 } })).map (·.line.m1)
    ends [] [] = some [.release 1] ∧ ends [] [.release 4] = some [.release 5] ∧
    ends [seg (.move spec)] [] = some [] ∧ ends [] [.attach] = some [.attach, .release 1] := by decide +kernel

/-- A PROBE at its target in shadow mode: a point there with SHADOW set, and the back-off. -/
def rehearsal : State :=
  let s := moving probing (seg (.probe false spec))
  { s with arm := { s.arm with shadow := true, phys := 1 } }

theorem test_simulated_contact : (after (exec .travelComplete rehearsal)).map (fun t =>
      (t.cap.ring.map (fun p => (p.raw, p.flags.shadow)), t.arm.motion.map (·.act), t.cap.counter)) =
    some ([(⟨100, 200, 300⟩, true)], some .backOff, 1) := by decide +kernel

theorem test_meets_Simulated : rehearsal.arm.st = .moving ∧ rehearsal.arm.stopping = none ∧
    rehearsal.arm.motion = some probing ∧ rehearsal.run.current = some (seg (.probe false spec)) ∧ rehearsal.run.stack = [] ∧
    rehearsal.qual = none ∧ rehearsal.run.st = .active ∧ rehearsal.detachDue = none ∧ rehearsal.arm.shadow = true ∧
    rehearsal.config = some conf ∧ rehearsal.run.owner = some 7 ∧ rehearsal.mountedRecord = some record ∧
    record.data.isSome = true ∧ rehearsal.cap.ring.length < 64 ∧ rehearsal.agent.current = none ∧ rehearsal.m1OnLine = false ∧
    (({ rehearsal with axes := vmap (fun a ch => { ch with
      setpoint := vget ⟨100, 200, 300⟩ a, pos := vget ⟨100, 200, 300⟩ a }) rehearsal.axes } : State).limitCheck
        (backOffTarget 0 conf.retract ⟨0, 0, 0⟩ ⟨100, 200, 300⟩ ⟨100, 200, 300⟩)) = none := by decide +kernel

theorem test_meets_Segments : let t := moving travel (seg (.probe true spec))
    t.arm.st = .moving ∧ t.arm.stopping = none ∧ t.arm.motion = some travel ∧ t.run.current = some (seg (.probe true spec)) ∧
    t.detachDue = none ∧ t.line.m1.length < 8 ∧ t.run.stack = [] ∧ t.qual = none ∧ t.run.st = .active ∧ travel.atTarget = false ∧
    travel.target.isSome = true ∧ t.arm.shadow = false ∧ t.trig.latch = none ∧ (touching 0).trig.latch ≠ none ∧
    t.events.mask.getLsbD 4 = true ∧ t.events.slots.length = 12 := by decide +kernel

/-- A PROBE with MISS_OK whose travel waits at its target for its latch, held there or not. -/
def latched (held : Bool) : State :=
  { moving { probing with atTarget := true, thenHeld := held } (seg (.probe true spec)) with
    trig := { high := true, latch := some { position := ⟨1, 2, 3⟩, width := 100 }, blocked := false } }

/-- A hold that pends makes the run HELD as the segment completes: at the end of a back-off, and at the miss of a travel that waits. -/
theorem test_meets_HeldSegments : let back := moving { acting .backOff .backOff with thenHeld := true } (seg (.probe false spec))
    let ends (c : Instr) (s : State) := (after (exec c s)).map (fun t => (t.run.st, t.arm.standing, t.arm.st))
    back.arm.st = .moving ∧ back.arm.stopping = none ∧ (latched true).armed = true ∧ (latched true).deflected = true ∧
    (latched true).trig.latch.isSome = true ∧ probing.falseTriggers ≠ 7 ∧ (latched true).run.stack = [] ∧
    ends .backOffEnd back = some (.held, 2, .still) ∧ ends .falseTrigger (latched true) = some (.held, 2, .still) ∧
    ends .falseTrigger (latched false) = some (.starved, 2, .still) := by decide +kernel

theorem test_meets_Stops : ∀ after ∈ [AfterStop.resume, .still, .endRun .stopped 0, .backOff],
    let t := withRun (fun r => { r with st := .active, owner := some 7 }) (withArm (fun a => { a with
      st := .decelerating, motion := some travel, stopping := some ⟨false, after, false, false, false⟩ }))
    t.arm.motion = some travel ∧ t.arm.stopping = some ⟨false, after, false, false, false⟩ ∧ t.config = some conf ∧
    travel.target = some ⟨100, 200, 300⟩ ∧
    (let stood : State := { t with axes := vmap (fun a ch => { ch with
        setpoint := vget ⟨50, 60, 70⟩ a, pos := if t.arm.shadow then vget ⟨50, 60, 70⟩ a else ch.pos }) t.axes }
     stood.limitCheck (backOffTarget 0 conf.retract travel.startedAt ⟨100, 200, 300⟩ stood.positions) = none) ∧
    t.run.st ≠ .none ∧ t.events.mask.getLsbD 1 = true := by decide +kernel

theorem test_stop_has_no_seek : ∀ a, travel.act ≠ .seek a := by
  intro a; cases a <;> decide

theorem test_meets_Ends : (away .soak (acting .moveOut .excursion)).config = some conf ∧
    (away .soak (acting .moveOut .excursion)).arm.st = .moving ∧
    (away .soak (acting .moveOut .excursion)).arm.stopping = none ∧
    (away .soak (acting .moveOut .excursion)).arm.motion = some (acting .moveOut .excursion) ∧
    ((away .soak (acting .moveOut .excursion)).run.stack.map (fun r => (r.kind, r.serves))) = [(.soak, false)] ∧
    (away .soak (acting .moveOut .excursion)).thermal.settled = false ∧
    ({ away .qualify (acting .leg .excursion) with
      qual := some ⟨100, 1, [], none, [⟨0, 0, 5⟩], false⟩ } : State).qual.map (·.legs) = some [⟨0, 0, 5⟩] ∧
    (change (changing .toDrop .none) (acting (.changeMove .dropDock) .excursion)).chg.change = some (changing .toDrop .none) ∧
    (change (changing .toDrop .none) (acting (.changeMove .dropDock) .excursion)).head.pulse = none ∧
    ({ changing .leavePick .none with read := some (.id 200) } : ChangeRecord).target = 200 := by decide +kernel

/-- The move out of a QUALIFY ends with the sphere corridor, and its transfer to touch 1 begins. -/
theorem test_qualify_arrives : (after (exec .excursionArrival (away .qualify (acting .moveOut .excursion)))).map (fun t =>
      (t.qual.map (fun q => (q.id, q.touch)), t.arm.standing, t.arm.st)) = some (some (100, 1), 0x20, .claiming) ∧
    (away .qualify (acting .moveOut .excursion)).mountedRecord = some record ∧
    (after (exec .excursionArrival { away .qualify (acting .moveOut .excursion) with mounted := .none })).map (·.lastFault) =
      some (some .noProbe) := by decide +kernel

/-- The end of a move of a change with the record given: its step, the fault, standing set and M1. -/
def moveEnds (m : ChangeMove) (r : ChangeRecord) (seated : Bool) :
    Option (Option ChangeStep × Option FaultCode × ZoneSet × List M1Entry × Mounted) :=
  let s := change r (acting (.changeMove m) .excursion)
  (after (exec .changeMoveArrival { s with head := { s.head with seated := seated } })).map (fun t =>
    (t.chg.change.map (·.step), t.lastFault, t.arm.standing, t.line.m1, t.mounted))

theorem test_change_moves_end : let stuck (f : FaultCode) : ChangeRecord := { changing .unlock .none with failing := some f, window := true }
    let read (r : ReadResult) : ChangeRecord := { changing .leavePick .none with read := some r }
    moveEnds .dropApproach (changing .toDrop .none) true = some (some .toDrop, none, 0x10, [.claim 0x10 0], .resolved 100) ∧
    (moveEnds .leaveDrop (stuck .changeStuck) true).map (·.2.1) = some (some .changeStuck) ∧
    (moveEnds .leavePick (stuck .changeEmpty) false).map (fun t => (t.2.1, t.2.2.2.2)) = some (some .changeEmpty, .none) ∧
    (moveEnds .leavePick (read (.id 200)) true).map (fun t => (t.1, t.2.2.2.1)) = some (some .done, [.release 0x30000]) ∧
    (moveEnds .leavePick (read (.id 7)) true).map (·.2.1) = some (some .changeMismatch) ∧
    (moveEnds .leavePick (read .unreadable) true).map (·.2.1) = some (some .changeUnread) := by decide +kernel

/-- A return move ends with so many records beneath. -/
def returning (kind : ExcursionKind) (serves : Bool) (rest : List ReturnRecord) (queue : List Segment) : State :=
  let s := away kind (acting .returnMove .excursion)
  { s with
    arm := { s.arm with energized := false }
    qual := some ⟨100, 3, [1], none, [], true⟩
    run := { s.run with
      st := .active, owner := some 7, current := some (seg .qualify), queue := queue
      stack := ⟨kind, ⟨0, 0, 0⟩, 2, none, serves⟩ :: rest } }

/-- The record of a segment completes it; a QUALIFY beneath begins again at touch 1, a CHANGE beneath its return. -/
theorem test_pops : let ends (s : State) := (after (exec .returnMoveEnd s)).map (fun t =>
      (t.run.st, t.arm.todo, t.qual.map (fun q => (q.touch, q.results)), t.line.m1, (t.events.slots[4]?).bind (·.pending)))
    ends (returning .qualify true [] []) = some (.starved, none, none, [.release 1], some (.segDone 77 .done)) ∧
    ends (returning .soak false [⟨.qualify, ⟨0, 0, 0⟩, 1, none, true⟩] []) =
      some (.active, some .leg, some (1, []), [], none) ∧
    ends (returning .qualify false [⟨.change, ⟨0, 0, 0⟩, 1, none, true⟩] []) =
      some (.active, some .beginReturn, none, [], none) := by decide +kernel

theorem test_meets_MovesEnd : (returning .soak false [⟨.qualify, ⟨0, 0, 0⟩, 1, none, true⟩] []).config = some conf ∧
    (returning .qualify true [] []).arm.st = .moving ∧ (returning .qualify true [] []).arm.stopping = none ∧
    (returning .qualify true [] []).detachDue = none ∧ (returning .qualify true [] []).line.m1.length < 8 ∧
    (returning .soak false [⟨.qualify, ⟨0, 0, 0⟩, 1, none, true⟩] []).probe 100 = some record ∧
    (changing .leavePick .none).pick = some 0 ∧ (changing .leaveDrop .none).drop = some 1 ∧
    (changing .unlock .none).step ≠ .done ∧
    (change (changing .unlock .none) (acting (.changeMove .leaveDrop) .excursion)).chg.closing = [] ∧
    (change (changing .unlock .none) (acting (.changeMove .leaveDrop) .excursion)).table ≠ none ∧
    (inStep .unlock .pulse false none).head.waiting = none ∧ (7 : ProbeId) ≠ (changing .leavePick .none).target := by decide +kernel

theorem test_invariants_meet : cell.drivesHold ∧ cell.bounded ∧ State.reset.imageJudged := by
  refine ⟨by unfold State.drivesHold; decide +kernel, by unfold State.bounded; decide +kernel, ?_, ?_⟩
  · decide +kernel
  · intro c hc
    cases hc

end Sys2Proof.Tests
end

section
/-! PROOF. The share table (chapter 4). First, what RELEASE, WITHDRAW and CLEAR do to a table, and the application of a frame
that touches no roster entry (O45). Then what a grant does, and why one pass of the grant walk is enough (O47): a grant takes
only items that no kept entry names, so no kept entry becomes grantable by it. -/

namespace Sys2Proof.Machine

open Sys2Proof

/-! ## Lists -/

/-- A list whose entry at a place the change leaves alone. -/
theorem updateAt_of_fixed {α : Type} {f : α → α} {n : Nat} {l : List α} (h : ∀ a, l[n]? = some a → f a = a) :
    updateAt f n l = l := by
  apply List.ext_getElem?
  intro i
  rw [updateAt_getElem?]
  split
  · next hi =>
    subst hi
    cases get : l[i]? with
    | none => rfl
    | some a => simp [h a get]
  · rfl

/-! ## An application that leaves the roster alone -/

/-- The application of a frame that leaves the roster alone and orders no capture is its change and the grant walk (R62). -/
theorem Table.apply_of_roster {t r : Table} {p : Station} {f : ShareFrame} {now : Clock}
    (change : { t with seq := t.seq + 1 }.change p f now = r) (roster : r.roster = t.roster)
    (serves : ∀ u : Table, u.serve p f = (u, none)) :
    t.apply p f now = { table := r.grantWalk.1, granted := r.grantWalk.2, capture := none } := by
  subst change
  simp only [Table.apply, Table.dropLeavers_of_roster t _ roster, serves]

/-- A frame that changes nothing only counts, on a table with no grantable entry (R62, R66). -/
theorem Table.apply_table_of_unchanged {t : Table} {p : Station} {f : ShareFrame} {now : Clock}
    (h : t.nothingGrantable) (change : { t with seq := t.seq + 1 }.change p f now = { t with seq := t.seq + 1 })
    (serves : ∀ u : Table, u.serve p f = (u, none)) : (t.apply p f now).table = { t with seq := t.seq + 1 } := by
  rw [Table.apply_of_roster change rfl serves]
  exact Table.grantWalk_of_none t _ h rfl rfl

/-! ## Item holders -/

/-- A well-shaped table has a holder at the place of every item. -/
theorem Table.holders_get_of_shape {t : Table} {i : Nat} (shape : t.wellShaped) (hi : i < 24) :
    t.holders[i]? = some (t.holder i) :=
  Table.holders_get (shape.2.1 ▸ hi)

theorem Table.holder_of_get {t : Table} {i : Nat} {h : Holder} (get : t.holders[i]? = some h) : t.holder i = h := by
  rw [Table.holder, List.getD_eq_getElem?_getD, get, Option.getD_some]

/-! ## RELEASE -/

/-- The items that a RELEASE frees are those of its set that its sender holds (R69). -/
theorem Table.released_bit {t : Table} {i : Nat} (p : Station) (items : ItemSet) (shape : t.wellShaped) (hi : i < 24) :
    (items &&& t.heldBy p).getLsbD i = true ↔ items.getLsbD i = true ∧ t.holder i = .station p := by
  rw [BitVec.getLsbD_and, Bool.and_eq_true, Table.heldBy_bit p (shape.2.1 ▸ hi) hi]

theorem Table.release_holder {t : Table} {i : Nat} (p : Station) (items : ItemSet) (shape : t.wellShaped) (hi : i < 24) :
    (t.release p items).holder i =
      if items.getLsbD i = true ∧ t.holder i = .station p then .free else t.holder i := by
  apply Table.holder_of_get
  simp only [Table.release, mapFrom_getElem?, Table.holders_get_of_shape shape hi, Nat.zero_add, Option.map_some]
  simp only [Table.released_bit p items shape hi]

theorem Table.release_slot {t : Table} {n : Nat} (p : Station) (items : ItemSet) (shape : t.wellShaped) (hn : n < 8) :
    (t.release p items).slots[n]? =
      if items.getLsbD (16 + n) = true ∧ t.holder (16 + n) = .station p
        then t.slots[n]?.map SlotRec.tested else t.slots[n]? := by
  have freed := Table.released_bit (i := 16 + n) p items shape (by omega)
  simp only [Table.release, testSlots, mapFrom_getElem?, Nat.zero_add]
  by_cases h : items.getLsbD (16 + n) = true ∧ t.holder (16 + n) = .station p
  · simp only [freed.2 h, if_pos h, if_true]
  · simp only [mt freed.1 h, if_neg h, if_false, Bool.false_eq_true, Option.map_id']

/-- A RELEASE of items that its sender does not hold leaves the table alone (R69). -/
theorem Table.release_of_none {t : Table} {p : Station} {items : ItemSet} (shape : t.wellShaped)
    (unheld : ∀ i : Nat, i < 24 → items.getLsbD i = true → t.holder i ≠ .station p) : t.release p items = t := by
  have freed : items &&& t.heldBy p = 0 := by
    apply BitVec.eq_of_getLsbD_eq
    intro i hi
    refine (Bool.eq_false_iff.2 fun bit => ?_).trans BitVec.getLsbD_zero.symm
    obtain ⟨named, held⟩ := (Table.released_bit p items shape hi).1 bit
    exact unheld i hi named held
  simp [Table.release, testSlots, freed, mapFrom_id]

/-! ## WITHDRAW -/

/-- A WITHDRAW of a station without an entry leaves the table alone (R68). -/
theorem Table.withdraw_of_none {t : Table} {p : Station} (noEntry : ∀ e ∈ t.claims, e.station ≠ p) : t.withdraw p = t := by
  have keeps : t.claims.filter (fun e => e.station != p) = t.claims :=
    List.filter_eq_self.2 (fun e he => bne_iff_ne.2 (noEntry e he))
  simp [Table.withdraw, keeps]

/-! ## CLEAR -/

/-- A CLEAR changes nothing but item holders (R70). -/
theorem Table.clear_frame (p : Station) (item : Byte) (t : Table) :
    (t.clear p item).seq = t.seq ∧ (t.clear p item).roster = t.roster ∧ (t.clear p item).slots = t.slots ∧
    (t.clear p item).claims = t.claims ∧ (t.clear p item).answering = t.answering := by
  unfold Table.clear
  split <;> simp

/-- A FENCED item made free; the holder of any other item (R70). -/
def unfence : Holder → Holder
  | .fenced _ => .free
  | h => h

theorem unfence_eq (h : Holder) :
    unfence h = if ∃ n : Station, h = .fenced n then .free else h := by
  cases h <;> simp [unfence]

/-- A CLEAR unfences the item it names when its sender is an ATTACHED planner and the item exists (R70). -/
theorem Table.clear_holders (p : Station) (item : Byte) (t : Table) :
    (t.clear p item).holders =
      if t.isPlanner p && item.toNat < 24 then updateAt unfence item.toNat t.holders else t.holders := by
  unfold Table.clear
  split <;> rfl

theorem Table.clear_holder {t : Table} {i : Nat} (p : Station) (item : Byte) (shape : t.wellShaped) (hi : i < 24) :
    (t.clear p item).holder i =
      if t.isPlanner p = true ∧ item.toNat = i ∧ (∃ n : Station, t.holder i = .fenced n) then .free
      else t.holder i := by
  apply Table.holder_of_get
  have get := Table.holders_get_of_shape shape hi
  rw [Table.clear_holders]
  by_cases names : item.toNat = i
  · subst names
    cases planner : t.isPlanner p <;> simp [updateAt_getElem?, get, hi, unfence_eq]
  · split <;> simp [updateAt_getElem?, get, names, Ne.symm names]

/-- A CLEAR of a station that is no ATTACHED planner, beyond the items, or of an item that is not FENCED leaves the table
alone (R70). -/
theorem Table.clear_of_none {t : Table} {p : Station} {item : Byte}
    (inert : t.isPlanner p = false ∨ 24 ≤ item.toNat ∨ ∀ n : Station, t.holder item.toNat ≠ .fenced n) :
    t.clear p item = t := by
  have holders : (t.clear p item).holders = t.holders := by
    rw [Table.clear_holders]
    obtain stranger | beyond | unfenced := inert
    · simp [stranger]
    · simp [Nat.not_lt.2 beyond]
    · have fixed : updateAt unfence item.toNat t.holders = t.holders := by
        refine updateAt_of_fixed fun h get => ?_
        rw [unfence_eq, if_neg fun ⟨n, fenced⟩ => unfenced n ((Table.holder_of_get get).trans fenced)]
      rw [fixed, ite_self]
  obtain ⟨seq, roster, slots, claims, answering⟩ := t.clear_frame p item
  cases hr : t.clear p item
  cases t
  simp_all

/-- Settles O45: the change of each frame at every place, then what it leaves alone. -/
theorem releaseWithdrawAndClearAreApplied : Obligations.ReleaseWithdrawAndClearAreApplied := by
  intro t p now shape
  let u : Table := { t with seq := t.seq + 1 }
  have shape' : u.wellShaped := shape
  refine ⟨fun items => ⟨?_, fun h inert => ?_⟩, ⟨?_, fun h inert => ?_⟩, fun item => ⟨?_, fun h inert => ?_⟩⟩
  · have applied := Table.apply_of_roster (t := t) (p := p) (f := .release items) (now := now) rfl rfl (fun _ => rfl)
    exact ⟨u.release p items, congrArg Applied.table applied, congrArg Applied.granted applied, rfl, rfl, rfl, rfl,
      fun i hi => Table.release_holder p items shape' hi, fun n hn => Table.release_slot p items shape' hn⟩
  · exact Table.apply_table_of_unchanged h (Table.release_of_none shape' inert) (fun _ => rfl)
  · have applied := Table.apply_of_roster (t := t) (p := p) (f := .withdraw) (now := now) rfl rfl (fun _ => rfl)
    exact ⟨u.withdraw p, congrArg Applied.table applied, congrArg Applied.granted applied, rfl⟩
  · exact Table.apply_table_of_unchanged h (Table.withdraw_of_none (t := u) inert) (fun _ => rfl)
  · obtain ⟨seq, roster, slots, claims, answering⟩ := u.clear_frame p item
    have applied := Table.apply_of_roster (t := t) (p := p) (f := .clear item) (now := now) rfl roster (fun _ => rfl)
    exact ⟨u.clear p item, congrArg Applied.table applied, congrArg Applied.granted applied, seq, roster,
      claims, answering, slots, fun i hi => Table.clear_holder p item shape' hi⟩
  · exact Table.apply_table_of_unchanged h (Table.clear_of_none (t := u) inert) (fun _ => rfl)

/-! ## Grantable entries and grants -/

/-- An entry is grantable when none of its items is closed to its claimant or named before it (R66). -/
theorem Table.grantable_bits (t : Table) (before : List ClaimEntry) (e : ClaimEntry) :
    t.grantable before e = true ↔ ∀ i : Nat, i < 24 → e.items.getLsbD i = true →
      (t.closedTo e.station).getLsbD i = false ∧ ∀ b ∈ before, b.items.getLsbD i = false := by
  unfold Table.grantable
  rw [beq_iff_eq]
  constructor
  · intro h i _ named
    have bit := congrArg (fun items : ItemSet => items.getLsbD i) h
    simpa [named, claimedItems_bit] using bit
  · intro h
    apply BitVec.eq_of_getLsbD_eq
    intro i hi
    cases named : e.items.getLsbD i with
    | false => simp [named]
    | true =>
      obtain ⟨opened, unnamed⟩ := h i hi named
      simp [named, opened, (claimedItems_bit before i).2 unnamed]

theorem Table.grantable_iff {t : Table} (before : List ClaimEntry) (e : ClaimEntry) (shape : t.wellShaped) :
    t.grantable before e = true ↔ ∀ i : Nat, i < 24 → e.items.getLsbD i = true →
      (t.holder i = .free ∨ t.holder i = .station e.station) ∧ ∀ b ∈ before, b.items.getLsbD i = false := by
  rw [Table.grantable_bits]
  refine forall₂_congr fun i hi => ?_
  rw [Table.closedTo_bit e.station (shape.2.1 ▸ hi) hi]

theorem Table.grant_holder {t : Table} {i : Nat} (e : ClaimEntry) (shape : t.wellShaped) (hi : i < 24) :
    (t.grant e).holder i = if e.items.getLsbD i = true then .station e.station else t.holder i := by
  apply Table.holder_of_get
  simp [Table.grant, mapFrom_getElem?, Table.holders_get_of_shape shape hi]

theorem Table.grant_entry {t : Table} (e : ClaimEntry) (n : Station) (shape : t.wellShaped) :
    (t.grant e).entry n = if n = e.station then { t.entry n with conflict := 0 } else t.entry n := by
  have get : n.val < t.roster.length := by rw [shape.1]; exact n.isLt
  rw [Table.entry, Table.grant, List.getD_eq_getElem?_getD, updateAt_getElem?]
  by_cases claimant : n = e.station
  · rw [if_pos claimant, if_pos (congrArg Fin.val claimant)]
    simp [Table.entry, get]
  · rw [if_neg claimant, if_neg (mt Fin.val_inj.1 claimant)]
    simp [Table.entry]

/-- A grant opens or closes no item but those granted (R66). -/
theorem Table.grant_closedTo_bit {t : Table} {e : ClaimEntry} {i : Nat} (n : Station) (hi : i < 24)
    (unnamed : e.items.getLsbD i = false) : ((t.grant e).closedTo n).getLsbD i = (t.closedTo n).getLsbD i := by
  simp only [Table.closedTo, Table.grant, placesMask_getLsbD _ _ _ _ _ hi, mapFrom_getElem?]
  simp [unnamed]

/-- A grant leaves alone whether an entry is grantable that shares no item with the entry granted (R66). -/
theorem Table.grantable_grant (t : Table) (before : List ClaimEntry) (e k : ClaimEntry)
    (apart : ∀ i : Nat, i < 24 → k.items.getLsbD i = true → e.items.getLsbD i = false) :
    (t.grant e).grantable before k = t.grantable before k := by
  rw [Bool.eq_iff_iff, Table.grantable_bits, Table.grantable_bits]
  refine forall₃_congr fun i hi named => ?_
  rw [Table.grant_closedTo_bit k.station hi (apart i hi named)]

/-! ## The walk -/

/-- A list none of whose entries is grantable on a table (R66). -/
def Table.noneGrantable (t : Table) (l : List ClaimEntry) : Prop :=
  ∀ (before after : List ClaimEntry) (e : ClaimEntry), l = before ++ e :: after → t.grantable before e = false

theorem Table.nothingGrantable_iff (t : Table) : t.nothingGrantable ↔ t.noneGrantable t.claims := Iff.rfl

/-- The list with one more entry at its tail that is not grantable. -/
theorem Table.noneGrantable_append {t : Table} {l : List ClaimEntry} {e : ClaimEntry} (stuck : t.noneGrantable l)
    (blocked : t.grantable l e = false) : t.noneGrantable (l ++ [e]) := by
  intro before after k cut
  rcases List.eq_nil_or_concat after with rfl | ⟨init, last, rfl⟩
  · obtain ⟨rfl, rfl⟩ := List.append_singleton_inj.1 cut
    exact blocked
  · have cut' : l ++ [e] = (before ++ k :: init) ++ [last] := by simpa using cut
    exact stuck before init k (List.append_singleton_inj.1 cut').1

/-- The grant of an entry that was grantable behind a list leaves that list without a grantable entry: it takes no item that
the list names (R66). -/
theorem Table.noneGrantable_grant {t : Table} {l : List ClaimEntry} {e : ClaimEntry} (stuck : t.noneGrantable l)
    (passes : t.grantable l e = true) : (t.grant e).noneGrantable l := by
  intro before after k cut
  rw [Table.grantable_grant]
  · exact stuck before after k cut
  · intro i hi named
    refine Bool.eq_false_iff.2 fun taken => ?_
    obtain ⟨-, unnamed⟩ := (Table.grantable_bits t l e).1 passes i hi taken
    exact Bool.false_ne_true ((unnamed k (by simp [cut])).symm.trans named)

/-- One pass over the rest of the list leaves nothing grantable, when nothing is among the entries kept (R66). -/
theorem Table.walk_nothingGrantable (rest kept : List ClaimEntry) (t : Table) (stuck : t.noneGrantable kept) :
    (Table.walk kept rest t).1.nothingGrantable := by
  induction rest generalizing kept t with
  | nil => exact (Table.nothingGrantable_iff _).2 stuck
  | cons e rest ih =>
    unfold Table.walk
    split
    · next passes => exact ih kept (t.grant e) (Table.noneGrantable_grant stuck passes)
    · next blocked => exact ih (kept ++ [e]) t (Table.noneGrantable_append stuck (Bool.eq_false_iff.2 blocked))

theorem Table.grantWalk_nothingGrantable (t : Table) : t.grantWalk.1.nothingGrantable :=
  Table.walk_nothingGrantable t.claims [] t (fun before after e cut => by simp at cut)

/-! ## Every application ends in a walk -/

/-- No frame's own change touches the sequence (R62). -/
theorem Table.change_seq (p : Station) (f : ShareFrame) (now : Clock) (t : Table) : (t.change p f now).seq = t.seq := by
  cases f with
  | lost stations => rfl
  | join fields => rfl
  | attach => simp only [Table.change, Table.attach]; split <;> rfl
  | leave => simp only [Table.change, Table.leave]; split <;> rfl
  | claim items => simp only [Table.change, Table.claim]; (repeat' split) <;> rfl
  | withdraw => rfl
  | release items => rfl
  | clear item => exact (t.clear_frame p item).1
  | slotSet slot code => simp only [Table.change, Table.slotSet]; (repeat' split) <;> rfl
  | slotSense presences => simp only [Table.change, Table.slotSense]; split <;> rfl

/-- The choice of the answering station changes that field alone (R84). -/
theorem Table.serve_eq (p : Station) (f : ShareFrame) (t : Table) :
    (t.serve p f).1 = { t with answering := (t.serve p f).1.answering } := by
  obtain ⟨seq, roster, holders, slots, claims⟩ := t.serve_frame p f
  cases hr : (t.serve p f).1
  simp_all

/-- An application counts one, walks once, and then chooses the answering station alone (R62). -/
theorem Table.apply_walks (t : Table) (p : Station) (f : ShareFrame) (now : Clock) :
    ∃ r : Table, r.seq = t.seq + 1 ∧ (t.apply p f now).granted = r.grantWalk.2 ∧
      (t.apply p f now).table = { r.grantWalk.1 with answering := (t.apply p f now).table.answering } :=
  let counted : Table := { t with seq := t.seq + 1 }
  let r : Table := (counted.change p f now).dropLeavers t
  ⟨r, counted.change_seq p f now, rfl, r.grantWalk.1.serve_eq p f⟩

theorem Table.apply_nothingGrantable (t : Table) (p : Station) (f : ShareFrame) (now : Clock) :
    (t.apply p f now).table.nothingGrantable := by
  obtain ⟨r, -, -, table⟩ := t.apply_walks p f now
  rw [table]
  exact r.grantWalk_nothingGrantable

/-- Settles O47: what a grant does, how the walk goes, and that one walk is enough, by induction on the list. -/
theorem grantWalkLeavesNothingGrantable : Obligations.GrantWalkLeavesNothingGrantable := by
  refine ⟨fun _ before e shape => Table.grantable_iff before e shape, fun _ e _ shape hi => Table.grant_holder e shape hi,
    fun _ e n shape => Table.grant_entry e n shape, fun _ _ _ _ => rfl,
    fun t => ⟨fun empty => ?_, fun e rest cut => ?_⟩,
    fun _ _ => rfl, Table.apply_walks, Table.grantWalk_nothingGrantable, Table.apply_nothingGrantable⟩
  · cases t
    subst empty
    rfl
  · unfold Table.grantWalk
    rw [cut]
    rfl

end Sys2Proof.Machine
end

section
/-! PROOF. Start-up (chapter 13) and what commands leave alone. -/

namespace Sys2Proof.Machine

open Sys2Proof

/-- Settles O1: `step` takes the command at the front. -/
theorem stepRunsTheFrontCommand : Obligations.StepRunsTheFrontCommand := fun _ _ _ => rfl

/-- Settles O5, by evaluation of the one reset state; only its three axes and its lists need a case split. -/
theorem resetLeavesEveryBlockCold : Obligations.ResetLeavesEveryBlockCold := by
  refine ⟨rfl, rfl, rfl, rfl, ?axes, rfl, rfl, rfl, rfl, rfl, rfl, rfl, rfl, rfl, rfl, rfl, rfl, rfl, rfl, rfl, rfl, rfl, rfl,
    rfl, rfl, rfl, rfl, rfl, ?channels, ?events, rfl, rfl, rfl, rfl, rfl, rfl⟩
  case axes =>
    intro a
    cases a <;> exact ⟨rfl, rfl, rfl, rfl, rfl⟩
  case channels =>
    intro c hc
    rw [List.eq_of_mem_replicate hc]
    rfl
  case events =>
    intro e he
    rw [List.eq_of_mem_replicate he]

/-- Settles O6: both sides are the cold state, field by field. -/
theorem coldResetSamplesTheStraps : Obligations.ColdResetSamplesTheStraps := fun _ _ => rfl

/-- Settles O60. -/
theorem resetMeetsTheInvariants : Obligations.ResetMeetsTheInvariants := by
  refine ⟨⟨by decide, fun _ => ⟨rfl, rfl, rfl⟩⟩, ?_, ⟨by decide, fun c hc => by cases hc⟩⟩
  refine ⟨?_, ?_, ?_, ?_, ?_, ?_, ?_, ?_, ?_, List.length_replicate, ?_, ?_, ?_, ?_⟩ <;>
    first | exact Nat.zero_le _ | (intro t ht; cases ht)

end Sys2Proof.Machine
end

section
/-! PROOF. What the rows leave alone (`CommandsLeaveOtherBlocksAlone`). The blocks that nearly every row leaves alone are read
together, so that one equation speaks of all of them; a row that changes one of them has its equation with that one put back. -/

namespace Sys2Proof.Machine

open Sys2Proof

/-- The blocks that nearly every row leaves alone. -/
structure Blocks where
  pending : List Instr
  setup : Setup
  part : PartData
  rack : SlotSet
  estop : Bool
  high : Bool
  seated : Bool
  inputs : Vec3 (BitVec 32 × Bool × Bool × Bool)
  clock : Clock

/-- These blocks of a state. -/
def State.blocks (s : State) : Blocks :=
  { pending := s.pending, setup := s.setup, part := s.part, rack := s.rack, estop := s.estop, high := s.trig.high,
    seated := s.head.seated, inputs := axisInputs s.axes, clock := s.clock }

/-- The state that a step goes on with, read by `g`, is `b`. -/
def leaves {α : Type} (g : State → α) (b : α) : Host.Outcome State Fault Refusal → Prop
  | .next t => g t = b
  | _ => True

@[simp] theorem leaves_next {α : Type} (g : State → α) (b : α) (t : State) : leaves g b (.next t) ↔ g t = b := Iff.rfl

/-- A change of one axis is a change of the axes alone. -/
@[simp] theorem State.updateAxis_frame (a : AxisName) (f : AxisChannel → AxisChannel) (s : State) :
    (s.updateAxis a f).pending = s.pending ∧ (s.updateAxis a f).setup = s.setup ∧ (s.updateAxis a f).clock = s.clock ∧
    (s.updateAxis a f).freeCount = s.freeCount ∧ (s.updateAxis a f).detachDue = s.detachDue ∧
    (s.updateAxis a f).estop = s.estop ∧ (s.updateAxis a f).lastFault = s.lastFault ∧ (s.updateAxis a f).arm = s.arm ∧
    (s.updateAxis a f).run = s.run ∧ (s.updateAxis a f).chg = s.chg ∧ (s.updateAxis a f).qual = s.qual ∧
    (s.updateAxis a f).soak = s.soak ∧ (s.updateAxis a f).line = s.line ∧ (s.updateAxis a f).join = s.join ∧
    (s.updateAxis a f).table = s.table ∧ (s.updateAxis a f).agent = s.agent ∧ (s.updateAxis a f).probes = s.probes ∧
    (s.updateAxis a f).mounted = s.mounted ∧ (s.updateAxis a f).head = s.head ∧ (s.updateAxis a f).trig = s.trig ∧
    (s.updateAxis a f).cap = s.cap ∧ (s.updateAxis a f).part = s.part ∧ (s.updateAxis a f).thermal = s.thermal ∧
    (s.updateAxis a f).events = s.events ∧ (s.updateAxis a f).rack = s.rack :=
  ⟨rfl, rfl, rfl, rfl, rfl, rfl, rfl, rfl, rfl, rfl, rfl, rfl, rfl, rfl, rfl, rfl, rfl, rfl, rfl, rfl, rfl, rfl, rfl, rfl, rfl⟩

/-- A change of one axis that leaves its own count and input levels alone leaves those of all axes alone. -/
theorem State.updateAxis_inputs (a : AxisName) (f : AxisChannel → AxisChannel) (s : State)
    (h : (f (vget s.axes a)).inputs = (vget s.axes a).inputs) : axisInputs (s.updateAxis a f).axes = axisInputs s.axes := by
  cases a
  · exact congrArg (fun i => (⟨i, _, _⟩ : Vec3 _)) h
  · exact congrArg (fun i => (⟨_, i, _⟩ : Vec3 _)) h
  · exact congrArg (fun i => (⟨_, _, i⟩ : Vec3 _)) h

theorem State.atLoopStep_blocks (since : BitVec 32) (s : State) : (s.atLoopStep since).blocks = s.blocks := by
  unfold State.atLoopStep
  (repeat' split) <;> simp [State.blocks]

/-- A command row leaves the blocks alone when its own effects do. -/
theorem State.command_blocks (sender : Station) (kind : Nat) (inFault lengthOk : Bool) (own : State → Taken) (s : State)
    (effect : ∀ t : State, (own t).1.blocks = t.blocks) :
    (s.command sender kind inFault lengthOk own).blocks = s.blocks :=
  State.command_keeps State.blocks sender kind inFault lengthOk own s (fun t => by simp [State.blocks])
    (fun t r data => by simp [State.blocks]) effect

theorem State.ask_blocks (code : Nat) (view : AskFields → State → Result × List ViewField) (sender : Station) (p : List Byte)
    (s : State) : (s.ask code view sender p).blocks = s.blocks := by
  refine State.command_blocks _ _ _ _ _ s fun t => ?_
  split <;> rfl

theorem State.share_blocks (sender : Station) (seq : BitVec 16) (f : ShareFrame) (s : State) :
    (s.share sender seq f).blocks = s.blocks := by
  simp [State.blocks]

/-- Rows of runs, motions and settings. -/
theorem exec_command_blocks (c : Instr) (s : State) (command : c.header.isSome = true) (restart : ∀ p q, c ≠ .restart p q)
    (part : ∀ p q, c ≠ .part p q) : leaves State.blocks s.blocks (exec c s) := by
  cases c with
  | restart p q => exact absurd rfl (restart p q)
  | part p q => exact absurd rfl (part p q)
  | askStatus | askPosition | askChannel | askPeer | askProbe | askPoint | askQueue | askShare | askIdent =>
    exact State.ask_blocks _ _ _ _ s
  | seg | go | hold | goOn | stop | home | drivesOn | drivesOff | change | qualify | probedef | reportmark | evmask | shadowOn
  | shadowOff =>
    exact State.command_blocks _ _ _ _ _ s fun t => by simp [State.blocks, answer]
  | _ => cases command

/-- PART sets the part data alone of these blocks (R160). -/
theorem exec_part_blocks (p : Station) (q : List Byte) (s : State) :
    leaves (fun t => ({ t.blocks with part := s.part } : Blocks)) s.blocks (exec (.part p q) s) :=
  State.command_keeps (fun t => ({ t.blocks with part := s.part } : Blocks)) p 0x2A false (q.length == 14)
    (fun t => answer .ok { t with part := partOf q }) s (fun t => by simp [State.blocks])
    (fun t r data => by simp [State.blocks]) (fun _ => rfl)

/-- RESTART in CONFIG_FAULT reads the memory again (R180), and leaves every other of these blocks alone. -/
theorem exec_restart_blocks (p : Station) (q : List Byte) (s : State) :
    leaves (fun t => ({ t.blocks with setup := s.setup } : Blocks)) s.blocks (exec (.restart p q) s) :=
  State.command_keeps (fun t => ({ t.blocks with setup := s.setup } : Blocks)) p 0x2F true (q.length == 0)
    State.takeRestart s (fun t => by simp [State.blocks]) (fun t r data => by simp [State.blocks])
    (fun t => by simp [State.blocks])

/-- The rows of frames on the line. -/
def lineRow : Instr → Bool
  | .cellStop .. | .lost .. | .join .. | .foundingJoin | .observedFoundingJoin .. | .attach .. | .leave .. | .claim ..
  | .withdraw .. | .release .. | .clear .. | .slotSet .. | .slotSense .. | .snapshot .. | .thermal .. | .presence ..
  | .otherFrameAccepted .. | .receivedFrameVoid .. | .crcVeto | .frameAbandoned .. | .frameBegin | .arbitrationLost
  | .arbitrationWon | .bitError | .ownFrameAccepted | .ownFrameVoid => true
  | _ => false

theorem exec_line_blocks (c : Instr) (s : State) (frame : lineRow c = true) : leaves State.blocks s.blocks (exec c s) := by
  cases c with
  | lost | join | observedFoundingJoin | attach | leave | claim | withdraw | release | clear | slotSet | slotSense =>
    exact State.share_blocks _ _ _ s
  | foundingJoin =>
    simp only [exec, execFoundingJoin]
    split
    · exact State.share_blocks _ _ _ s
    · rfl
  | cellStop | snapshot | thermal | presence | otherFrameAccepted | receivedFrameVoid =>
    simp only [exec, execCellStop, execSnapshot, execThermal, execPresence, execOtherFrameAccepted, execReceivedFrameVoid]
    (repeat' split) <;> simp [State.blocks]
  | crcVeto | frameAbandoned | frameBegin | arbitrationLost | arbitrationWon | bitError | ownFrameAccepted | ownFrameVoid =>
    simp only [exec, execCrcVeto, execFrameAbandoned, execFrameBegin, execArbitrationLost, execArbitrationWon, execBitError,
      execOwnFrameAccepted, execOwnFrameVoid]
    (repeat' split) <;> simp [State.blocks]
  | _ => cases frame

/-- The rows that stand for the end of a time bring the clock to that end (log 2), and leave every other of these blocks alone. -/
theorem exec_expiry_blocks (c : Instr) (s : State) (expiry : c.isExpiry = true) :
    leaves (fun t => ({ t.blocks with clock := s.clock } : Blocks)) s.blocks (exec c s) := by
  cases c with
  | presenceTimerExpiry | peerSilence | isolation | joinWindowExpiry | joinWaitExpiry | quietEnd | leaveWaitEnd =>
    simp only [exec, execPresenceTimerExpiry, execPeerSilence, execIsolation, execJoinWindowExpiry, execJoinWaitExpiry,
      execQuietEnd, execLeaveWaitEnd]
    (repeat' split) <;> simp [State.blocks]
  | claimTimerExpiry | reportTimerExpiry | cadenceTimerExpiry | soakLimitExpiry | releaseTimeExpiry | seatTimeExpiry =>
    simp only [exec, execClaimTimerExpiry, execReportTimerExpiry, execCadenceTimerExpiry, execSoakLimitExpiry,
      execReleaseTimeExpiry, execSeatTimeExpiry]
    (repeat' split) <;> simp [State.blocks]
  | _ => cases expiry

/-- The rows in which the trigger input changes its level leave every other of these blocks alone. -/
theorem exec_trigger_blocks (c : Instr) (s : State) (trigger : c.movesTrigger = true) :
    leaves (fun t => ({ t.blocks with high := s.trig.high } : Blocks)) s.blocks (exec c s) := by
  cases c with
  | triggerEdge | triggerReturnUnasserted | falseTrigger =>
    simp only [exec, execTriggerEdge, execTriggerReturnUnasserted, execFalseTrigger]
    split <;> simp [State.blocks]
  | _ => cases trigger

/-- The rows in which an axis counts or one of its inputs changes leave every other of these blocks alone. -/
theorem exec_axisInput_blocks (c : Instr) (s : State) (input : c.movesAxisInput = true) :
    leaves (fun t => ({ t.blocks with inputs := axisInputs s.axes } : Blocks)) s.blocks (exec c s) := by
  cases c with
  | scaleStep | scaleFaultInput | scaleFaultCleared | hwLimitAsserted | hwLimitCleared =>
    simp only [exec, execScaleStep, execScaleFaultInput, execScaleFaultCleared, execHwLimitAsserted, execHwLimitCleared]
    (repeat' split) <;> simp [State.blocks]
  | _ => cases input

theorem exec_headFilterEnd_blocks (seated : Bool) (s : State) :
    leaves (fun t => ({ t.blocks with seated := s.head.seated } : Blocks)) s.blocks (exec (.headFilterEnd seated) s) := by
  simp only [exec, execHeadFilterEnd]
  (repeat' split) <;> simp [State.blocks]

theorem exec_slotFilterEnd_blocks (slot : Fin 8) (present : Bool) (s : State) :
    leaves (fun t => ({ t.blocks with rack := s.rack } : Blocks)) s.blocks (exec (.slotFilterEnd slot present) s) := by
  simp only [exec, execSlotFilterEnd]
  (repeat' split) <;> simp [State.blocks]

theorem exec_estop_blocks (s : State) :
    leaves (fun t => ({ t.blocks with estop := s.estop } : Blocks)) s.blocks (exec .estop s) := by
  simp only [exec, execEstop]
  (repeat' split) <;> simp [State.blocks]

theorem exec_estopCleared_blocks (s : State) :
    leaves (fun t => ({ t.blocks with estop := s.estop } : Blocks)) s.blocks (exec .estopCleared s) := rfl

/-- The other rows of axes, motions, probes and temperatures. -/
def siteRow : Instr → Bool
  | .scaleCountFault .. | .referenceMark .. | .seekEnd .. | .followingError .. | .conversionEnd .. | .scanCompletion
  | .dwellEnd | .contactAccepted | .idReadEnd .. | .lockPulseEnd | .travelComplete | .controlledStopEnd .. | .backOffEnd
  | .excursionArrival | .returnMoveEnd | .changeMoveArrival | .transferLegEnd => true
  | _ => false

theorem exec_site_blocks (c : Instr) (s : State) (site : siteRow c = true) : leaves State.blocks s.blocks (exec c s) := by
  cases c with
  | scaleCountFault | conversionEnd | scanCompletion | dwellEnd | contactAccepted | idReadEnd | lockPulseEnd =>
    simp only [exec, execScaleCountFault, execConversionEnd, execScanCompletion, execDwellEnd, execContactAccepted,
      execIdReadEnd, execLockPulseEnd]
    (repeat' split) <;> simp [State.blocks]
  | referenceMark | seekEnd =>
    simp only [exec, execReferenceMark, execSeekEnd]
    (repeat' split) <;> simp [State.blocks]
    exact State.updateAxis_inputs _ _ _ rfl
  | followingError axis since =>
    have now := s.atLoopStep_blocks since
    simp only [exec, execFollowingError]
    (repeat' split) <;> simp_all [State.blocks]
  | travelComplete | controlledStopEnd | backOffEnd | excursionArrival | returnMoveEnd | changeMoveArrival | transferLegEnd =>
    simp only [exec, execTravelComplete, execControlledStopEnd, execBackOffEnd, execExcursionArrival, execReturnMoveEnd,
      execChangeMoveArrival, execTransferLegEnd]
    (repeat' split) <;> simp [State.blocks]
  | _ => cases site

/-- Two states that agree on these blocks agree on each, the axes' inputs axis by axis. -/
theorem blocks_eq_iff (s t : State) : t.blocks = s.blocks ↔
    t.pending = s.pending ∧ t.setup = s.setup ∧ t.part = s.part ∧ t.rack = s.rack ∧ t.estop = s.estop ∧
    t.trig.high = s.trig.high ∧ t.head.seated = s.head.seated ∧ axisInputs t.axes = axisInputs s.axes ∧ t.clock = s.clock := by
  simp [State.blocks]

theorem State.startSensing_pending (headHigh : Bool) (slotInputs : SlotSet) (s : State) :
    (s.startSensing headHigh slotInputs).pending = s.pending := by
  unfold State.startSensing
  dsimp only
  split <;> rfl

/-- What `CommandsLeaveOtherBlocksAlone` says of one row. -/
def leavesOthers (c : Instr) (s t : State) : Prop :=
  t.pending = s.pending ∧
  (c.starts = false →
    ((∀ p q, c ≠ .restart p q) → t.setup = s.setup) ∧
    ((∀ p q, c ≠ .part p q) → t.part = s.part) ∧
    ((∀ slot present, c ≠ .slotFilterEnd slot present) → t.rack = s.rack) ∧
    (c ≠ .estop → c ≠ .estopCleared → t.estop = s.estop) ∧
    (c.movesTrigger = false → t.trig.high = s.trig.high) ∧
    ((∀ seated, c ≠ .headFilterEnd seated) → t.head.seated = s.head.seated) ∧
    (c.movesAxisInput = false → ∀ a, (vget t.axes a).inputs = (vget s.axes a).inputs) ∧
    (c.isExpiry = false → t.clock = s.clock))

theorem leavesOthers_of_blocks {c : Instr} {s t : State} (h : t.blocks = s.blocks) : leavesOthers c s t := by
  obtain ⟨pending, setup, part, rack, estop, high, seated, inputs, clock⟩ := (blocks_eq_iff s t).1 h
  exact ⟨pending, fun _ => ⟨fun _ => setup, fun _ => part, fun _ => rack, fun _ _ => estop, fun _ => high, fun _ => seated,
    fun _ => axisInputs_get inputs, fun _ => clock⟩⟩

/-- A row that moves the clock alone of these blocks. -/
theorem leavesOthers_of_expiry {c : Instr} {s t : State} (expiry : c.isExpiry = true)
    (h : ({ t.blocks with clock := s.clock } : Blocks) = s.blocks) : leavesOthers c s t := by
  simp only [State.blocks, Blocks.mk.injEq] at h
  obtain ⟨pending, setup, part, rack, estop, high, seated, inputs, -⟩ := h
  exact ⟨pending, fun _ => ⟨fun _ => setup, fun _ => part, fun _ => rack, fun _ _ => estop, fun _ => high, fun _ => seated,
    fun _ => axisInputs_get inputs, fun h => by simp [expiry] at h⟩⟩

/-- A row that moves the trigger level alone of these blocks. -/
theorem leavesOthers_of_trigger {c : Instr} {s t : State} (trigger : c.movesTrigger = true)
    (h : ({ t.blocks with high := s.trig.high } : Blocks) = s.blocks) : leavesOthers c s t := by
  simp only [State.blocks, Blocks.mk.injEq] at h
  obtain ⟨pending, setup, part, rack, estop, -, seated, inputs, clock⟩ := h
  exact ⟨pending, fun _ => ⟨fun _ => setup, fun _ => part, fun _ => rack, fun _ _ => estop, fun h => by simp [trigger] at h,
    fun _ => seated, fun _ => axisInputs_get inputs, fun _ => clock⟩⟩

/-- A row that moves the axes' inputs alone of these blocks. -/
theorem leavesOthers_of_axisInput {c : Instr} {s t : State} (input : c.movesAxisInput = true)
    (h : ({ t.blocks with inputs := axisInputs s.axes } : Blocks) = s.blocks) : leavesOthers c s t := by
  simp only [State.blocks, Blocks.mk.injEq] at h
  obtain ⟨pending, setup, part, rack, estop, high, seated, -, clock⟩ := h
  exact ⟨pending, fun _ => ⟨fun _ => setup, fun _ => part, fun _ => rack, fun _ _ => estop, fun _ => high, fun _ => seated,
    fun h => by simp [input] at h, fun _ => clock⟩⟩

/-- Settles O4: the rows by families, and one row at a time where a row changes a block of its own. -/
theorem commandsLeaveOtherBlocksAlone : Obligations.CommandsLeaveOtherBlocksAlone := by
  intro c s t step
  have row {α : Type} {g : State → α} {b : α} (h : leaves g b (exec c s)) : g t = b := by rwa [step] at h
  change leavesOthers c s t
  cases c with
  | coldReset straps =>
    cases step
    exact ⟨rfl, fun h => by cases h⟩
  | configLoadEnd memory headHigh slotInputs =>
    have pending : leaves State.pending s.pending (exec (.configLoadEnd memory headHigh slotInputs) s) := by
      simp only [exec, execConfigLoadEnd, State.loadEnded]
      (repeat' split) <;> simp [State.takeImage, State.takeNoImage, State.startSensing_pending]
    exact ⟨row pending, fun h => by cases h⟩
  | restart p q =>
    have h := row (exec_restart_blocks p q s)
    simp only [State.blocks, Blocks.mk.injEq] at h
    obtain ⟨pending, -, part, rack, estop, high, seated, inputs, clock⟩ := h
    exact ⟨pending, fun _ => ⟨fun h => absurd rfl (h p q), fun _ => part, fun _ => rack, fun _ _ => estop, fun _ => high,
      fun _ => seated, fun _ => axisInputs_get inputs, fun _ => clock⟩⟩
  | part p q =>
    have h := row (exec_part_blocks p q s)
    simp only [State.blocks, Blocks.mk.injEq] at h
    obtain ⟨pending, setup, -, rack, estop, high, seated, inputs, clock⟩ := h
    exact ⟨pending, fun _ => ⟨fun _ => setup, fun h => absurd rfl (h p q), fun _ => rack, fun _ _ => estop, fun _ => high,
      fun _ => seated, fun _ => axisInputs_get inputs, fun _ => clock⟩⟩
  | slotFilterEnd slot present =>
    have h := row (exec_slotFilterEnd_blocks slot present s)
    simp only [State.blocks, Blocks.mk.injEq] at h
    obtain ⟨pending, setup, part, -, estop, high, seated, inputs, clock⟩ := h
    exact ⟨pending, fun _ => ⟨fun _ => setup, fun _ => part, fun h => absurd rfl (h slot present), fun _ _ => estop,
      fun _ => high, fun _ => seated, fun _ => axisInputs_get inputs, fun _ => clock⟩⟩
  | headFilterEnd seated =>
    have h := row (exec_headFilterEnd_blocks seated s)
    simp only [State.blocks, Blocks.mk.injEq] at h
    obtain ⟨pending, setup, part, rack, estop, high, -, inputs, clock⟩ := h
    exact ⟨pending, fun _ => ⟨fun _ => setup, fun _ => part, fun _ => rack, fun _ _ => estop, fun _ => high,
      fun h => absurd rfl (h seated), fun _ => axisInputs_get inputs, fun _ => clock⟩⟩
  | estop =>
    have h := row (exec_estop_blocks s)
    simp only [State.blocks, Blocks.mk.injEq] at h
    obtain ⟨pending, setup, part, rack, -, high, seated, inputs, clock⟩ := h
    exact ⟨pending, fun _ => ⟨fun _ => setup, fun _ => part, fun _ => rack, fun h => absurd rfl h, fun _ => high,
      fun _ => seated, fun _ => axisInputs_get inputs, fun _ => clock⟩⟩
  | estopCleared =>
    have h := row (exec_estopCleared_blocks s)
    simp only [State.blocks, Blocks.mk.injEq] at h
    obtain ⟨pending, setup, part, rack, -, high, seated, inputs, clock⟩ := h
    exact ⟨pending, fun _ => ⟨fun _ => setup, fun _ => part, fun _ => rack, fun _ h => absurd rfl h, fun _ => high,
      fun _ => seated, fun _ => axisInputs_get inputs, fun _ => clock⟩⟩
  | seg | go | hold | goOn | stop | home | drivesOn | drivesOff | change | qualify | probedef | reportmark | evmask | shadowOn
  | shadowOff | askStatus | askPosition | askChannel | askPeer | askProbe | askPoint | askQueue | askShare | askIdent =>
    exact leavesOthers_of_blocks (row (exec_command_blocks _ s rfl nofun nofun))
  | presenceTimerExpiry | peerSilence | isolation | joinWindowExpiry | joinWaitExpiry | quietEnd | leaveWaitEnd
  | claimTimerExpiry | reportTimerExpiry | cadenceTimerExpiry | soakLimitExpiry | releaseTimeExpiry | seatTimeExpiry =>
    exact leavesOthers_of_expiry rfl (row (exec_expiry_blocks _ s rfl))
  | triggerEdge | triggerReturnUnasserted | falseTrigger =>
    exact leavesOthers_of_trigger rfl (row (exec_trigger_blocks _ s rfl))
  | scaleStep | scaleFaultInput | scaleFaultCleared | hwLimitAsserted | hwLimitCleared =>
    exact leavesOthers_of_axisInput rfl (row (exec_axisInput_blocks _ s rfl))
  | cellStop | lost | join | foundingJoin | observedFoundingJoin | attach | leave | claim | withdraw | release | clear | slotSet
  | slotSense | snapshot | thermal | presence | otherFrameAccepted | receivedFrameVoid | crcVeto | frameAbandoned | frameBegin
  | arbitrationLost | arbitrationWon | bitError | ownFrameAccepted | ownFrameVoid =>
    exact leavesOthers_of_blocks (row (exec_line_blocks _ s rfl))
  | scaleCountFault | referenceMark | seekEnd | followingError | conversionEnd | scanCompletion | dwellEnd | contactAccepted
  | idReadEnd | lockPulseEnd | travelComplete | controlledStopEnd | backOffEnd | excursionArrival | returnMoveEnd
  | changeMoveArrival | transferLegEnd =>
    exact leavesOthers_of_blocks (row (exec_site_blocks _ s rfl))

end Sys2Proof.Machine
end

section
/-! PROOF. A LOADED station holds an image that passed the four judgements, and no other station holds one
(`StepsKeepTheImageJudged`). Start-up changes in three rows only: the cold reset, the end of a load, and a RESTART. -/

namespace Sys2Proof.Machine

open Sys2Proof

/-- A command keeps what hearing a frame, placing a REPLY and the command's own effects keep. -/
theorem State.command_invariant {P : State → Prop} (sender : Station) (kind : Nat) (inFault lengthOk : Bool)
    (own : State → Taken) (s : State) (h : P s) (heard : ∀ t, P t → P (t.heard sender true))
    (reply : ∀ t r data, P t → P (t.reply sender kind r data)) (effect : ∀ t, P t → P (own t).1) :
    P (s.command sender kind inFault lengthOk own) := by
  have taken := effect _ (heard s h)
  unfold State.command
  dsimp only
  split
  · exact h
  · split
    · exact heard s h
    · split
      · exact reply _ _ _ (heard s h)
      · split
        · exact reply _ _ _ taken
        · exact taken

/-- Whether the image is judged is a question about start-up alone. -/
theorem State.imageJudged_of_setup {s t : State} (h : s.imageJudged) (setup : t.setup = s.setup) : t.imageJudged := by
  unfold State.imageJudged
  rw [setup]
  exact h

/-- Without an image and not LOADED there is nothing to judge. -/
theorem State.imageJudged_of_none {s : State} (load : s.setup.load ≠ .loaded) (image : s.setup.image = none) :
    s.imageJudged := by
  refine ⟨⟨fun h => absurd h load, fun h => by simp [image] at h⟩, fun c hc => ?_⟩
  rw [image] at hc
  cases hc

/-- The end of a load leaves the state that its judgement gives (R178, R179). -/
theorem State.loadEnded_setup (image : Option Image) (format : BitVec 16) (headHigh : Bool) (slotInputs : SlotSet)
    (s : State) : (s.loadEnded image format headHigh slotInputs).setup =
      { s.setup with load := if image.isSome then .loaded else .fault, image := image, format := format } := by
  cases image <;> cases active : s.line.active <;> cases headHigh <;>
    simp [State.loadEnded, State.startSensing, State.takeImage, State.takeNoImage, active]

theorem State.loadEnded_imageJudged (memory : List Byte) (format : BitVec 16) (headHigh : Bool) (slotInputs : SlotSet)
    (s : State) : (s.loadEnded (imageOf memory) format headHigh slotInputs).imageJudged := by
  unfold State.imageJudged
  rw [State.loadEnded_setup]
  refine ⟨?_, fun c hc => ⟨memory, hc⟩⟩
  cases (imageOf memory).isSome <;> simp

/-- A RESTART leaves the image as it is, or discards it to read the memory again (R180). -/
theorem State.takeRestart_imageJudged (s : State) (h : s.imageJudged) : s.takeRestart.1.imageJudged := by
  unfold State.takeRestart
  split
  · exact State.imageJudged_of_none (by simp [State.reload]) (by simp [State.reload])
  · split
    · exact State.imageJudged_of_setup h (by simp)
    · exact h

theorem exec_imageJudged (c : Instr) (s t : State) (h : s.imageJudged) (step : exec c s = .next t) : t.imageJudged := by
  obtain ⟨-, others⟩ := commandsLeaveOtherBlocksAlone c s t step
  cases c with
  | coldReset straps =>
    cases step
    exact State.imageJudged_of_none nofun rfl
  | configLoadEnd memory headHigh slotInputs =>
    simp only [exec, execConfigLoadEnd] at step
    split at step
    · cases step
      exact s.loadEnded_imageJudged memory _ headHigh slotInputs
    · cases step
      exact h
  | restart sender payload =>
    cases step
    exact State.command_invariant (P := State.imageJudged) sender 0x2F true _ State.takeRestart s h
      (fun t ht => State.imageJudged_of_setup ht (by simp)) (fun t r data ht => State.imageJudged_of_setup ht (by simp))
      State.takeRestart_imageJudged
  | _ => exact State.imageJudged_of_setup h ((others rfl).1 nofun)

/-- Settles O59: by the rows, a millisecond leaving start-up alone. -/
theorem stepsKeepTheImageJudged : Obligations.StepsKeepTheImageJudged := by
  intro s t h step
  unfold Machine.step at step
  split at step
  · next c rest queue => exact exec_imageJudged c { s with pending := rest } t h step
  · cases step
    refine State.imageJudged_of_setup h ?_
    unfold State.tick State.advanceSetpoints
    (repeat' split) <;> simp

end Sys2Proof.Machine
end

section
/-! PROOF. What each operation keeps of the drives' invariant (R3, R10, Table 2-4): one lemma per operation that touches the arm
  or the
axes, in the form in which `simp` chains them. An operation that starts a motion has the drives ENERGIZED as its hypothesis. The
  chains
need `implicitDefEqProofs := false`: the hypotheses of a lemma are discharged through equations that hold by `rfl`. -/

namespace Sys2Proof.Machine

open Sys2Proof

/-- While the drives are DE_ENERGIZED each setpoint equals its position (R3). -/
def level (energized : Bool) (axes : Vec3 AxisChannel) : Prop :=
  energized = false → vmap (fun _ a => a.setpoint) axes = vmap (fun _ a => a.pos) axes

/-- What `State.drivesHold` says, of the five parts of a state that it speaks of. -/
def sound (st : ArmState) (energized : Bool) (motion : Option Motion) (stopping : Option Stopping) (axes : Vec3 AxisChannel) :
    Prop :=
  (st = .off ↔ energized = false) ∧ (energized = false → motion = none ∧ stopping = none) ∧ level energized axes

theorem State.drivesHold_iff (s : State) :
    s.drivesHold ↔ sound s.arm.st s.arm.energized s.arm.motion s.arm.stopping s.axes := by
  unfold State.drivesHold sound level State.setpoints State.positions
  constructor
  · rintro ⟨off, rest⟩
    exact ⟨off, fun e => ⟨(rest e).1, (rest e).2.1⟩, fun e => (rest e).2.2⟩
  · rintro ⟨off, rest, even⟩
    exact ⟨off, fun e => ⟨(rest e).1, (rest e).2, even e⟩⟩

@[simp] theorem level_true (axes : Vec3 AxisChannel) : level true axes := fun h => by cases h

@[simp] theorem level_held (energized : Bool) (axes : Vec3 AxisChannel) :
    level energized (vmap (fun _ a => { a with setpoint := a.pos }) axes) := fun _ => rfl

/-- With the drives ENERGIZED the arm is not OFF, and nothing more is said. -/
@[simp] theorem sound_on (st : ArmState) (motion : Option Motion) (stopping : Option Stopping) (axes : Vec3 AxisChannel) :
    sound st true motion stopping axes ↔ st ≠ .off := by
  simp [sound]

@[simp] theorem sound_off (st : ArmState) (motion : Option Motion) (stopping : Option Stopping) (axes : Vec3 AxisChannel) :
    sound st false motion stopping axes ↔ st = .off ∧ motion = none ∧ stopping = none ∧ level false axes := by
  simp [sound, and_assoc]

@[simp] theorem State.level_of_sound (s : State) (axes : Vec3 AxisChannel)
    (h : sound s.arm.st s.arm.energized s.arm.motion s.arm.stopping axes) : level s.arm.energized axes := h.2.2

/-- An arm that is not OFF has its drives ENERGIZED, and nothing more is said. -/
@[simp] theorem sound_up {st : ArmState} (up : st ≠ .off) (energized : Bool) (motion : Option Motion)
    (stopping : Option Stopping) (axes : Vec3 AxisChannel) :
    sound st energized motion stopping axes ↔ energized = true := by
  cases energized <;> simp [up]

@[simp] theorem sound_moving (st : ArmState) (energized : Bool) (m : Motion) (stopping : Option Stopping)
    (axes : Vec3 AxisChannel) :
    sound st energized (some m) stopping axes ↔ energized = true ∧ st ≠ .off := by
  cases energized <;> simp

@[simp] theorem sound_stopping (st : ArmState) (energized : Bool) (motion : Option Motion) (p : Stopping)
    (axes : Vec3 AxisChannel) :
    sound st energized motion (some p) axes ↔ energized = true ∧ st ≠ .off := by
  cases energized <;> simp

@[simp] theorem sound_standing (energized : Bool) {_ : Decidable (energized = true)} (axes : Vec3 AxisChannel) :
    sound (if energized = true then .still else .off) energized none none axes ↔ level energized axes := by
  cases energized <;> simp

@[simp] theorem sound_map (st : ArmState) (energized : Bool) (motion : Option Motion) (f : Motion → Motion)
    (stopping : Option Stopping) (axes : Vec3 AxisChannel) :
    sound st energized (motion.map f) stopping axes ↔ sound st energized motion stopping axes := by
  simp [sound]

section

variable {s : State} {axes : Vec3 AxisChannel} (h : sound s.arm.st s.arm.energized s.arm.motion s.arm.stopping axes)

include h

/-- An arm in any state but OFF has its drives ENERGIZED. -/
theorem State.on_of_up (up : s.arm.st ≠ .off) : s.arm.energized = true := (sound_up up _ _ _ _).1 h

/-- An arm in motion has its drives ENERGIZED. -/
theorem State.on_of_motion {m : Motion} (moving : s.arm.motion = some m) : s.arm.energized = true ∧ s.arm.st ≠ .off := by
  rw [moving] at h
  exact (sound_moving _ _ _ _ _).1 h

/-- An arm with a stop under way has its drives ENERGIZED. -/
theorem State.on_of_stopping {p : Stopping} (stopping : s.arm.stopping = some p) :
    s.arm.energized = true ∧ s.arm.st ≠ .off := by
  rw [stopping] at h
  exact (sound_stopping _ _ _ _ _).1 h

theorem State.on_of_executing (executing : s.executing = true) : s.arm.energized = true ∧ s.arm.st ≠ .off := by
  have up : s.arm.st ≠ .off := fun off => by simp [State.executing, off] at executing
  exact ⟨State.on_of_up h up, up⟩

theorem State.on_of_travelling (travelling : s.travelling = true) : s.arm.energized = true ∧ s.arm.st ≠ .off := by
  simp only [State.travelling, Bool.and_eq_true] at travelling
  exact State.on_of_executing h travelling.1

end

theorem State.raiseAt_travelling (r : FaultReport) (position : Vec3 Lu) (s : State) :
    (s.raiseAt r position).travelling = s.travelling := by
  simp [State.travelling, State.executing]

@[simp] theorem State.recordContact_drives (position : Vec3 Lu) (s : State) :
    (s.recordContact position).arm = s.arm ∧ (s.recordContact position).axes = s.axes := by
  unfold State.recordContact
  (repeat' split) <;> simp

@[simp] theorem State.gateItems_energized (t : Start) (s : State) :
    (s.gateItems t).1.arm.energized = s.arm.energized := by
  unfold State.gateItems State.waitForItems
  dsimp only
  (repeat' split) <;> simp

@[simp] theorem State.stopFast_holds (p : Stopping) (s : State) (axes : Vec3 AxisChannel) (on : s.arm.energized = true) :
    sound (s.stopFast p).arm.st (s.stopFast p).arm.energized (s.stopFast p).arm.motion (s.stopFast p).arm.stopping axes := by
  simp (maxDischargeDepth := 9) (implicitDefEqProofs := false) [State.stopFast, on]

@[simp] theorem State.faultFast_holds (r : FaultReport) (position : Vec3 Lu) (s : State) (axes : Vec3 AxisChannel)
    (h : sound s.arm.st s.arm.energized s.arm.motion s.arm.stopping axes) :
    sound (s.faultFast r position).arm.st (s.faultFast r position).arm.energized (s.faultFast r position).arm.motion
      (s.faultFast r position).arm.stopping axes := by
  unfold State.faultFast
  dsimp only
  rw [State.raiseAt_travelling]
  split
  · next moving =>
    obtain ⟨on, up⟩ := State.on_of_travelling h moving
    (repeat' split) <;> simp (maxDischargeDepth := 9) (implicitDefEqProofs := false) [on]
  · simp (maxDischargeDepth := 9) (implicitDefEqProofs := false) [h]

@[simp] theorem State.bringToRest_holds (after : AfterStop) (s : State) (axes : Vec3 AxisChannel)
    (h : sound s.arm.st s.arm.energized s.arm.motion s.arm.stopping axes) :
    sound (s.bringToRest after).arm.st (s.bringToRest after).arm.energized (s.bringToRest after).arm.motion
      (s.bringToRest after).arm.stopping axes := by
  unfold State.bringToRest
  split
  · next moving =>
    obtain ⟨on, up⟩ := State.on_of_travelling h moving
    dsimp only
    split <;> simp (maxDischargeDepth := 9) (implicitDefEqProofs := false) [on, up]
  · simp (maxDischargeDepth := 9) (implicitDefEqProofs := false) [h]

@[simp] theorem State.stopAll_holds (reason : RunEndReason) (reasonByte : Byte) (s : State) (axes : Vec3 AxisChannel)
    (h : sound s.arm.st s.arm.energized s.arm.motion s.arm.stopping axes) :
    sound (s.stopAll reason reasonByte).arm.st (s.stopAll reason reasonByte).arm.energized
      (s.stopAll reason reasonByte).arm.motion (s.stopAll reason reasonByte).arm.stopping axes := by
  unfold State.stopAll
  dsimp only
  (repeat' split) <;> simp (maxDischargeDepth := 9) (implicitDefEqProofs := false) [*]

@[simp] theorem State.stopTaken_holds (reason : RunEndReason) (reasonByte : Byte) (s : State) (axes : Vec3 AxisChannel)
    (h : sound s.arm.st s.arm.energized s.arm.motion s.arm.stopping axes) :
    sound (s.stopTaken reason reasonByte).arm.st (s.stopTaken reason reasonByte).arm.energized
      (s.stopTaken reason reasonByte).arm.motion (s.stopTaken reason reasonByte).arm.stopping axes := by
  unfold State.stopTaken
  (repeat' split) <;> simp (maxDischargeDepth := 9) (implicitDefEqProofs := false) [*]

@[simp] theorem State.setTodo_arm (t : Start) (s : State) :
    (s.setTodo t).arm = { s.arm with todo := some t, itemsHeld := false } := rfl

@[simp] theorem State.formMotion_holds (m : Motion) (s : State) (axes : Vec3 AxisChannel) (on : s.arm.energized = true) :
    sound (s.formMotion m).arm.st (s.formMotion m).arm.energized (s.formMotion m).arm.motion (s.formMotion m).arm.stopping axes := by
  simp (maxDischargeDepth := 9) (implicitDefEqProofs := false) [State.formMotion, on]

@[simp] theorem State.startStraight_holds (act : MotionAct) (origin : Origin) (target : Vec3 Lu) (feed : BitVec 16)
    (required : ZoneSet) (s : State) (on : s.arm.energized = true) :
    sound (s.startStraight act origin target feed required).arm.st (s.startStraight act origin target feed required).arm.energized
      (s.startStraight act origin target feed required).arm.motion (s.startStraight act origin target feed required).arm.stopping
      (s.startStraight act origin target feed required).axes := by
  unfold State.startStraight
  (repeat' split) <;> simp (maxDischargeDepth := 9) (implicitDefEqProofs := false) [*]

@[simp] theorem State.standInPlace_holds (s : State) (axes : Vec3 AxisChannel) (on : s.arm.energized = true) :
    sound s.standInPlace.arm.st s.standInPlace.arm.energized s.standInPlace.arm.motion s.standInPlace.arm.stopping axes := by
  simp (maxDischargeDepth := 9) (implicitDefEqProofs := false) [State.standInPlace, on]

@[simp] theorem State.moveAlong_drives (m : Motion) (more : Nat) (s : State) :
    (s.moveAlong m more).arm.energized = s.arm.energized ∧ (s.moveAlong m more).arm.st = s.arm.st := by
  unfold State.moveAlong
  (repeat' split) <;> simp

@[simp] theorem State.pushOut_holds (kind : ExcursionKind) (need : Option ZoneSet) (serves : Bool) (s : State)
    (h : sound s.arm.st s.arm.energized s.arm.motion s.arm.stopping s.axes) :
    sound (s.pushOut kind need serves).arm.st (s.pushOut kind need serves).arm.energized (s.pushOut kind need serves).arm.motion
      (s.pushOut kind need serves).arm.stopping (s.pushOut kind need serves).axes := by
  simp (maxDischargeDepth := 9) (implicitDefEqProofs := false) [State.pushOut, h]

@[simp] theorem State.pushChange_holds (target : ProbeId) (serves : Bool) (s : State)
    (h : sound s.arm.st s.arm.energized s.arm.motion s.arm.stopping s.axes) :
    sound (s.pushChange target serves).arm.st (s.pushChange target serves).arm.energized (s.pushChange target serves).arm.motion
      (s.pushChange target serves).arm.stopping (s.pushChange target serves).axes := by
  simp (maxDischargeDepth := 9) (implicitDefEqProofs := false) [State.pushChange, h]

@[simp] theorem State.completeSegment_holds (outcome : SegOutcome) (endSet : ZoneSet) (hold : Bool) (s : State)
    (axes : Vec3 AxisChannel) (h : sound s.arm.st s.arm.energized s.arm.motion s.arm.stopping axes) :
    sound (s.completeSegment outcome endSet hold).arm.st (s.completeSegment outcome endSet hold).arm.energized
      (s.completeSegment outcome endSet hold).arm.motion (s.completeSegment outcome endSet hold).arm.stopping axes := by
  unfold State.completeSegment
  dsimp only
  (repeat' split) <;> simp (maxDischargeDepth := 9) (implicitDefEqProofs := false) [*]

@[simp] theorem State.goToTouch_holds (q : Qualification) (touch : Nat) (s : State)
    (h : sound s.arm.st s.arm.energized s.arm.motion s.arm.stopping s.axes) :
    sound (s.goToTouch q touch).arm.st (s.goToTouch q touch).arm.energized (s.goToTouch q touch).arm.motion
      (s.goToTouch q touch).arm.stopping (s.goToTouch q touch).axes := by
  unfold State.goToTouch
  (repeat' split) <;> simp (maxDischargeDepth := 9) (implicitDefEqProofs := false) [*]

@[simp] theorem State.beginTouches_holds (s : State) (h : sound s.arm.st s.arm.energized s.arm.motion s.arm.stopping s.axes) :
    sound s.beginTouches.arm.st s.beginTouches.arm.energized s.beginTouches.arm.motion s.beginTouches.arm.stopping
      s.beginTouches.axes := by
  unfold State.beginTouches
  (repeat' split) <;> simp (maxDischargeDepth := 9) (implicitDefEqProofs := false) [*]

@[simp] theorem State.pop_holds (s : State) (h : sound s.arm.st s.arm.energized s.arm.motion s.arm.stopping s.axes) :
    sound s.pop.arm.st s.pop.arm.energized s.pop.arm.motion s.pop.arm.stopping s.pop.axes := by
  unfold State.pop
  dsimp only
  (repeat' split) <;> simp (maxDischargeDepth := 9) (implicitDefEqProofs := false) [*]

@[simp] theorem State.afterChange_holds (s : State) (h : sound s.arm.st s.arm.energized s.arm.motion s.arm.stopping s.axes) :
    sound s.afterChange.arm.st s.afterChange.arm.energized s.afterChange.arm.motion s.afterChange.arm.stopping s.afterChange.axes
      := by
  unfold State.afterChange
  (repeat' split) <;> simp (maxDischargeDepth := 9) (implicitDefEqProofs := false) [*]

@[simp] theorem State.claimSlots_holds (pick : Fin 8) (drop : Option (Fin 8)) (s : State)
    (h : sound s.arm.st s.arm.energized s.arm.motion s.arm.stopping s.axes) :
    sound (s.claimSlots pick drop).arm.st (s.claimSlots pick drop).arm.energized (s.claimSlots pick drop).arm.motion
      (s.claimSlots pick drop).arm.stopping (s.claimSlots pick drop).axes := by
  simp (maxDischargeDepth := 9) (implicitDefEqProofs := false) [State.claimSlots, h]

@[simp] theorem State.chooseSlots_holds (r : ChangeRecord) (s : State)
    (h : sound s.arm.st s.arm.energized s.arm.motion s.arm.stopping s.axes) :
    sound (s.chooseSlots r).arm.st (s.chooseSlots r).arm.energized (s.chooseSlots r).arm.motion (s.chooseSlots r).arm.stopping
      (s.chooseSlots r).axes := by
  unfold State.chooseSlots
  (repeat' split) <;> simp (maxDischargeDepth := 9) (implicitDefEqProofs := false) [*]

@[simp] theorem State.beginChange_holds (s : State) (on : s.arm.energized = true) (up : s.arm.st ≠ .off) :
    sound s.beginChange.arm.st s.beginChange.arm.energized s.beginChange.arm.motion s.beginChange.arm.stopping s.beginChange.axes
      := by
  unfold State.beginChange
  (repeat' split) <;> simp (maxDischargeDepth := 9) (implicitDefEqProofs := false) [*]

@[simp] theorem State.changeHeld_holds (s : State) (h : sound s.arm.st s.arm.energized s.arm.motion s.arm.stopping s.axes) :
    sound s.changeHeld.arm.st s.changeHeld.arm.energized s.changeHeld.arm.motion s.changeHeld.arm.stopping s.changeHeld.axes := by
  unfold State.changeHeld
  (repeat' split) <;> simp (maxDischargeDepth := 9) (implicitDefEqProofs := false) [*]

@[simp] theorem State.startChangeMove_holds (m : ChangeMove) (s : State) (on : s.arm.energized = true) (up : s.arm.st ≠ .off) :
    sound (s.startChangeMove m).arm.st (s.startChangeMove m).arm.energized (s.startChangeMove m).arm.motion
      (s.startChangeMove m).arm.stopping (s.startChangeMove m).axes := by
  unfold State.startChangeMove
  (repeat' split) <;> simp (maxDischargeDepth := 9) (implicitDefEqProofs := false) [*]

@[simp] theorem State.queueSlotSet_holds (slot : Option (Fin 8)) (contents : Contents) (s : State)
    (h : sound s.arm.st s.arm.energized s.arm.motion s.arm.stopping s.axes) :
    sound (s.queueSlotSet slot contents).arm.st (s.queueSlotSet slot contents).arm.energized
      (s.queueSlotSet slot contents).arm.motion (s.queueSlotSet slot contents).arm.stopping (s.queueSlotSet slot contents).axes := by
  unfold State.queueSlotSet
  (repeat' split) <;> simp (maxDischargeDepth := 9) (implicitDefEqProofs := false) [*]

@[simp] theorem State.pulseStep_holds (step : ChangeStep) (kind : PulseKind) (s : State) (on : s.arm.energized = true) :
    sound (s.pulseStep step kind).arm.st (s.pulseStep step kind).arm.energized (s.pulseStep step kind).arm.motion
      (s.pulseStep step kind).arm.stopping (s.pulseStep step kind).axes := by
  unfold State.pulseStep
  dsimp only
  (repeat' split) <;> simp (maxDischargeDepth := 9) (implicitDefEqProofs := false) [*]

@[simp] theorem State.leaveDock_holds (m : ChangeMove) (s : State)
    (h : sound s.arm.st s.arm.energized s.arm.motion s.arm.stopping s.axes) :
    sound (s.leaveDock m).arm.st (s.leaveDock m).arm.energized (s.leaveDock m).arm.motion (s.leaveDock m).arm.stopping
      (s.leaveDock m).axes := by
  simp (maxDischargeDepth := 9) (implicitDefEqProofs := false) [State.leaveDock, h]

@[simp] theorem State.headEmptied_holds (r : ChangeRecord) (s : State)
    (h : sound s.arm.st s.arm.energized s.arm.motion s.arm.stopping s.axes) :
    sound (s.headEmptied r).arm.st (s.headEmptied r).arm.energized (s.headEmptied r).arm.motion (s.headEmptied r).arm.stopping
      (s.headEmptied r).axes := by
  unfold State.headEmptied
  dsimp only
  (repeat' split) <;> simp (maxDischargeDepth := 9) (implicitDefEqProofs := false) [*]

@[simp] theorem State.unlockEnded_holds (r : ChangeRecord) (s : State)
    (h : sound s.arm.st s.arm.energized s.arm.motion s.arm.stopping s.axes) :
    sound (s.unlockEnded r).arm.st (s.unlockEnded r).arm.energized (s.unlockEnded r).arm.motion (s.unlockEnded r).arm.stopping
      (s.unlockEnded r).axes := by
  unfold State.unlockEnded
  (repeat' split) <;> simp (maxDischargeDepth := 9) (implicitDefEqProofs := false) [*]

@[simp] theorem State.headSeated_holds (r : ChangeRecord) (s : State)
    (h : sound s.arm.st s.arm.energized s.arm.motion s.arm.stopping s.axes) :
    sound (s.headSeated r).arm.st (s.headSeated r).arm.energized (s.headSeated r).arm.motion (s.headSeated r).arm.stopping
      (s.headSeated r).axes := by
  unfold State.headSeated
  (repeat' split) <;> simp (maxDischargeDepth := 9) (implicitDefEqProofs := false) [*]

@[simp] theorem State.lockEnded_holds (r : ChangeRecord) (s : State)
    (h : sound s.arm.st s.arm.energized s.arm.motion s.arm.stopping s.axes) :
    sound (s.lockEnded r).arm.st (s.lockEnded r).arm.energized (s.lockEnded r).arm.motion (s.lockEnded r).arm.stopping
      (s.lockEnded r).axes := by
  unfold State.lockEnded
  (repeat' split) <;> simp (maxDischargeDepth := 9) (implicitDefEqProofs := false) [*]

@[simp] theorem State.pulseEnded_holds (s : State) (h : sound s.arm.st s.arm.energized s.arm.motion s.arm.stopping s.axes) :
    sound s.pulseEnded.arm.st s.pulseEnded.arm.energized s.pulseEnded.arm.motion s.pulseEnded.arm.stopping s.pulseEnded.axes := by
  unfold State.pulseEnded
  (repeat' split) <;> simp (maxDischargeDepth := 9) (implicitDefEqProofs := false) [*]

@[simp] theorem State.unlockStuck_holds (r : ChangeRecord) (s : State)
    (h : sound s.arm.st s.arm.energized s.arm.motion s.arm.stopping s.axes) :
    sound (s.unlockStuck r).arm.st (s.unlockStuck r).arm.energized (s.unlockStuck r).arm.motion (s.unlockStuck r).arm.stopping
      (s.unlockStuck r).axes := by
  simp (maxDischargeDepth := 9) (implicitDefEqProofs := false) [State.unlockStuck, h]

@[simp] theorem State.lockEmpty_holds (r : ChangeRecord) (s : State)
    (h : sound s.arm.st s.arm.energized s.arm.motion s.arm.stopping s.axes) :
    sound (s.lockEmpty r).arm.st (s.lockEmpty r).arm.energized (s.lockEmpty r).arm.motion (s.lockEmpty r).arm.stopping
      (s.lockEmpty r).axes := by
  simp (maxDischargeDepth := 9) (implicitDefEqProofs := false) [State.lockEmpty, h]

@[simp] theorem State.identified_holds (r : ChangeRecord) (result : ReadResult) (s : State)
    (h : sound s.arm.st s.arm.energized s.arm.motion s.arm.stopping s.axes) :
    sound (s.identified r result).arm.st (s.identified r result).arm.energized (s.identified r result).arm.motion
      (s.identified r result).arm.stopping (s.identified r result).axes := by
  unfold State.identified
  (repeat' split) <;> simp (maxDischargeDepth := 9) (implicitDefEqProofs := false) [*]

@[simp] theorem State.raiseFailing_holds (r : ChangeRecord) (f : FaultCode) (s : State)
    (h : sound s.arm.st s.arm.energized s.arm.motion s.arm.stopping s.axes) :
    sound (s.raiseFailing r f).arm.st (s.raiseFailing r f).arm.energized (s.raiseFailing r f).arm.motion
      (s.raiseFailing r f).arm.stopping (s.raiseFailing r f).axes := by
  simp (maxDischargeDepth := 9) (implicitDefEqProofs := false) [State.raiseFailing, h]

@[simp] theorem State.judgeIdentity_holds (r : ChangeRecord) (s : State)
    (h : sound s.arm.st s.arm.energized s.arm.motion s.arm.stopping s.axes) :
    sound (s.judgeIdentity r).arm.st (s.judgeIdentity r).arm.energized (s.judgeIdentity r).arm.motion
      (s.judgeIdentity r).arm.stopping (s.judgeIdentity r).axes := by
  unfold State.judgeIdentity
  (repeat' split) <;> simp (maxDischargeDepth := 9) (implicitDefEqProofs := false) [*]

@[simp] theorem State.changeArrived_holds (m : ChangeMove) (r : ChangeRecord) (s : State) (on : s.arm.energized = true) :
    sound (s.changeArrived m r).arm.st (s.changeArrived m r).arm.energized (s.changeArrived m r).arm.motion
      (s.changeArrived m r).arm.stopping (s.changeArrived m r).axes := by
  unfold State.changeArrived
  (repeat' split) <;> simp (maxDischargeDepth := 9) (implicitDefEqProofs := false) [*]

@[simp] theorem State.finishChange_holds (s : State) (h : sound s.arm.st s.arm.energized s.arm.motion s.arm.stopping s.axes) :
    sound s.finishChange.arm.st s.finishChange.arm.energized s.finishChange.arm.motion s.finishChange.arm.stopping
      s.finishChange.axes := by
  unfold State.finishChange
  dsimp only
  (repeat' split) <;> simp (maxDischargeDepth := 9) (implicitDefEqProofs := false) [*]

@[simp] theorem State.changeReleased_holds (items : ItemSet) (s : State)
    (h : sound s.arm.st s.arm.energized s.arm.motion s.arm.stopping s.axes) :
    sound (s.changeReleased items).arm.st (s.changeReleased items).arm.energized (s.changeReleased items).arm.motion
      (s.changeReleased items).arm.stopping (s.changeReleased items).axes := by
  unfold State.changeReleased
  (repeat' split) <;> simp (maxDischargeDepth := 9) (implicitDefEqProofs := false) [*]

@[simp] theorem State.waitForItems_holds (s : State) (axes : Vec3 AxisChannel) (on : s.arm.energized = true) :
    sound s.waitForItems.arm.st s.waitForItems.arm.energized s.waitForItems.arm.motion s.waitForItems.arm.stopping axes := by
  simp (maxDischargeDepth := 9) (implicitDefEqProofs := false) [State.waitForItems, on]

/-- The items gate leaves the drives as they are, and an arm that was not OFF is not OFF behind it. -/
theorem State.gateItems_up (t : Start) (s : State) (up : s.arm.st ≠ .off) : (s.gateItems t).1.arm.st ≠ .off := by
  unfold State.gateItems State.waitForItems
  dsimp only
  (repeat' split) <;> simp (maxDischargeDepth := 9) (implicitDefEqProofs := false) [up]

@[simp] theorem State.withReferences_holds (f : State → State) (s : State) (on : s.arm.energized = true)
    (goes : sound (f s).arm.st (f s).arm.energized (f s).arm.motion (f s).arm.stopping (f s).axes) :
    sound (s.withReferences f).arm.st (s.withReferences f).arm.energized (s.withReferences f).arm.motion
      (s.withReferences f).arm.stopping (s.withReferences f).axes := by
  unfold State.withReferences
  split
  · simp (maxDischargeDepth := 9) (implicitDefEqProofs := false) [on]
  · exact goes

@[simp] theorem State.markProbing_holds (probing : Bool) (s : State) (axes : Vec3 AxisChannel)
    (h : sound s.arm.st s.arm.energized s.arm.motion s.arm.stopping axes) :
    sound (s.markProbing probing).arm.st (s.markProbing probing).arm.energized (s.markProbing probing).arm.motion
      (s.markProbing probing).arm.stopping axes := by
  unfold State.markProbing
  cases moving : s.arm.motion <;> simp_all

@[simp] theorem State.startTravel_holds (probing : Bool) (t : TravelSpec) (s : State) (on : s.arm.energized = true) :
    sound (s.startTravel probing t).arm.st (s.startTravel probing t).arm.energized (s.startTravel probing t).arm.motion
      (s.startTravel probing t).arm.stopping (s.startTravel probing t).axes := by
  unfold State.startTravel
  dsimp only
  (repeat' split) <;> simp (maxDischargeDepth := 9) (implicitDefEqProofs := false) [*]

@[simp] theorem State.probePastRing_holds (s : State) (on : s.arm.energized = true) (up : s.arm.st ≠ .off) :
    sound s.probePastRing.arm.st s.probePastRing.arm.energized s.probePastRing.arm.motion s.probePastRing.arm.stopping
      s.probePastRing.axes := by
  unfold State.probePastRing
  (repeat' split) <;> simp (maxDischargeDepth := 9) (implicitDefEqProofs := false) [*]

@[simp] theorem State.gateRing_holds (past : Start) (go : State → State) (s : State) (on : s.arm.energized = true)
    (goes : sound (go s).arm.st (go s).arm.energized (go s).arm.motion (go s).arm.stopping (go s).axes) :
    sound (s.gateRing past go).arm.st (s.gateRing past go).arm.energized (s.gateRing past go).arm.motion
      (s.gateRing past go).arm.stopping (s.gateRing past go).axes := by
  unfold State.gateRing
  split
  · simp (maxDischargeDepth := 9) (implicitDefEqProofs := false) [on]
  · exact goes

@[simp] theorem State.startProbe_holds (t : TravelSpec) (s : State) (on : s.arm.energized = true) (up : s.arm.st ≠ .off) :
    sound (s.startProbe t).arm.st (s.startProbe t).arm.energized (s.startProbe t).arm.motion (s.startProbe t).arm.stopping
      (s.startProbe t).axes := by
  unfold State.startProbe
  (repeat' split) <;> simp_all (maxDischargeDepth := 9) (implicitDefEqProofs := false)

@[simp] theorem State.startSegment_holds (s : State) (on : s.arm.energized = true) (up : s.arm.st ≠ .off) :
    sound s.startSegment.arm.st s.startSegment.arm.energized s.startSegment.arm.motion s.startSegment.arm.stopping
      s.startSegment.axes := by
  unfold State.startSegment
  split <;> simp (maxDischargeDepth := 9) (implicitDefEqProofs := false) [on, up]

@[simp] theorem State.startDwell_holds (left : BitVec 16) (s : State) (on : s.arm.energized = true) :
    sound (s.startDwell left).arm.st (s.startDwell left).arm.energized (s.startDwell left).arm.motion
      (s.startDwell left).arm.stopping (s.startDwell left).axes := by
  simp (maxDischargeDepth := 9) (implicitDefEqProofs := false) [State.startDwell, on]

@[simp] theorem State.startBackOff_holds (target : Vec3 Lu) (thenHeld : Bool) (s : State) (on : s.arm.energized = true) :
    sound (s.startBackOff target thenHeld).arm.st (s.startBackOff target thenHeld).arm.energized
      (s.startBackOff target thenHeld).arm.motion (s.startBackOff target thenHeld).arm.stopping
      (s.startBackOff target thenHeld).axes := by
  unfold State.startBackOff
  (repeat' split) <;> simp (maxDischargeDepth := 9) (implicitDefEqProofs := false) [*]

@[simp] theorem State.nextSeek_holds (s : State) (on : s.arm.energized = true) (up : s.arm.st ≠ .off) :
    sound s.nextSeek.arm.st s.nextSeek.arm.energized s.nextSeek.arm.motion s.nextSeek.arm.stopping s.nextSeek.axes := by
  unfold State.nextSeek
  split
  · dsimp only
    split
    · simp (maxDischargeDepth := 9) (implicitDefEqProofs := false)
    · simp (maxDischargeDepth := 9) (implicitDefEqProofs := false) [on, State.formMotion]
  · simp (maxDischargeDepth := 9) (implicitDefEqProofs := false) [on]
  · simp (maxDischargeDepth := 9) (implicitDefEqProofs := false) [on, up]

@[simp] theorem State.startHome_holds (s : State) (on : s.arm.energized = true) (up : s.arm.st ≠ .off) :
    sound s.startHome.arm.st s.startHome.arm.energized s.startHome.arm.motion s.startHome.arm.stopping s.startHome.axes := by
  unfold State.startHome
  (repeat' split) <;> simp (maxDischargeDepth := 9) (implicitDefEqProofs := false) [*]

@[simp] theorem State.startMoveOut_holds (s : State) (on : s.arm.energized = true) (up : s.arm.st ≠ .off) :
    sound s.startMoveOut.arm.st s.startMoveOut.arm.energized s.startMoveOut.arm.motion s.startMoveOut.arm.stopping
      s.startMoveOut.axes := by
  unfold State.startMoveOut
  split <;> simp (maxDischargeDepth := 9) (implicitDefEqProofs := false) [on, up]

@[simp] theorem State.startReturnMove_holds (s : State) (on : s.arm.energized = true) (up : s.arm.st ≠ .off) :
    sound s.startReturnMove.arm.st s.startReturnMove.arm.energized s.startReturnMove.arm.motion s.startReturnMove.arm.stopping
      s.startReturnMove.axes := by
  unfold State.startReturnMove
  (repeat' split) <;> simp (maxDischargeDepth := 9) (implicitDefEqProofs := false) [*]

@[simp] theorem State.startReturn_holds (s : State) (h : sound s.arm.st s.arm.energized s.arm.motion s.arm.stopping s.axes) :
    sound s.startReturn.arm.st s.startReturn.arm.energized s.startReturn.arm.motion s.startReturn.arm.stopping s.startReturn.axes
      := by
  unfold State.startReturn
  (repeat' split) <;> simp (maxDischargeDepth := 9) (implicitDefEqProofs := false) [*]

@[simp] theorem State.startLeg_holds (s : State) (on : s.arm.energized = true) (up : s.arm.st ≠ .off) :
    sound s.startLeg.arm.st s.startLeg.arm.energized s.startLeg.arm.motion s.startLeg.arm.stopping s.startLeg.axes := by
  unfold State.startLeg
  (repeat' split) <;> simp (maxDischargeDepth := 9) (implicitDefEqProofs := false) [*]

@[simp] theorem State.touchPastRing_holds (s : State) (on : s.arm.energized = true) (up : s.arm.st ≠ .off) :
    sound s.touchPastRing.arm.st s.touchPastRing.arm.energized s.touchPastRing.arm.motion s.touchPastRing.arm.stopping
      s.touchPastRing.axes := by
  unfold State.touchPastRing
  (repeat' split) <;> simp (maxDischargeDepth := 9) (implicitDefEqProofs := false) [*]

@[simp] theorem State.startTouch_holds (s : State) (on : s.arm.energized = true) (up : s.arm.st ≠ .off) :
    sound s.startTouch.arm.st s.startTouch.arm.energized s.startTouch.arm.motion s.startTouch.arm.stopping s.startTouch.axes := by
  unfold State.startTouch
  (repeat' split) <;> simp_all (maxDischargeDepth := 9) (implicitDefEqProofs := false)

@[simp] theorem State.startTouchBack_holds (s : State) (on : s.arm.energized = true) (up : s.arm.st ≠ .off) :
    sound s.startTouchBack.arm.st s.startTouchBack.arm.energized s.startTouchBack.arm.motion s.startTouchBack.arm.stopping
      s.startTouchBack.axes := by
  unfold State.startTouchBack
  (repeat' split) <;> simp (maxDischargeDepth := 9) (implicitDefEqProofs := false) [*]

@[simp] theorem State.startPastGate_holds (t : Start) (s : State) (on : s.arm.energized = true) (up : s.arm.st ≠ .off) :
    sound (s.startPastGate t).arm.st (s.startPastGate t).arm.energized (s.startPastGate t).arm.motion
      (s.startPastGate t).arm.stopping (s.startPastGate t).axes := by
  unfold State.startPastGate
  (repeat' split) <;> simp (maxDischargeDepth := 9) (implicitDefEqProofs := false) [*]

@[simp] theorem State.begin__holds (t : Start) (s : State) (on : s.arm.energized = true) (up : s.arm.st ≠ .off) :
    sound (s.begin_ t).arm.st (s.begin_ t).arm.energized (s.begin_ t).arm.motion (s.begin_ t).arm.stopping
      (s.begin_ t).axes := by
  have stays := s.gateItems_up t up
  unfold State.begin_
  dsimp only
  split <;> simp (maxDischargeDepth := 9) (implicitDefEqProofs := false) [on, stays]

@[simp] theorem State.take_holds (seg : Segment) (rest : List Segment) (s : State)
    (h : sound s.arm.st s.arm.energized s.arm.motion s.arm.stopping s.axes) :
    sound (s.take seg rest).arm.st (s.take seg rest).arm.energized (s.take seg rest).arm.motion (s.take seg rest).arm.stopping
      (s.take seg rest).axes := by
  unfold State.take
  (repeat' split) <;> simp (maxDischargeDepth := 9) (implicitDefEqProofs := false) [*]

@[simp] theorem State.resumeExcursion_holds (s : State) (h : sound s.arm.st s.arm.energized s.arm.motion s.arm.stopping s.axes) :
    sound s.resumeExcursion.arm.st s.resumeExcursion.arm.energized s.resumeExcursion.arm.motion s.resumeExcursion.arm.stopping
      s.resumeExcursion.axes := by
  simp (maxDischargeDepth := 9) (implicitDefEqProofs := false) [State.resumeExcursion, h]

/-- What the arm may start, it starts with the drives ENERGIZED. -/
theorem State.advance_holds {s t : State} (h : sound s.arm.st s.arm.energized s.arm.motion s.arm.stopping s.axes)
    (goes : s.advance = some t) : sound t.arm.st t.arm.energized t.arm.motion t.arm.stopping t.axes := by
  unfold State.advance at goes
  split at goes
  · cases goes
  · split at goes
    · next still =>
      have up : s.arm.st ≠ .off := by simp (maxDischargeDepth := 9) (implicitDefEqProofs := false) [still]
      have on := State.on_of_up h up
      (repeat' split at goes) <;> cases goes <;> simp (maxDischargeDepth := 9) (implicitDefEqProofs := false) [on, up]
    · cases goes

@[simp] theorem State.goOn_holds (n : Nat) (s : State) (h : sound s.arm.st s.arm.energized s.arm.motion s.arm.stopping s.axes) :
    sound (s.goOn n).arm.st (s.goOn n).arm.energized (s.goOn n).arm.motion (s.goOn n).arm.stopping (s.goOn n).axes := by
  induction n generalizing s with
  | zero => exact h
  | succ n ih =>
    unfold State.goOn
    split
    · next goes => exact ih _ (State.advance_holds h goes)
    · exact h

@[simp] theorem State.settle_holds (s : State) (h : sound s.arm.st s.arm.energized s.arm.motion s.arm.stopping s.axes) :
    sound s.settle.arm.st s.settle.arm.energized s.settle.arm.motion s.settle.arm.stopping s.settle.axes :=
  s.goOn_holds _ h

@[simp] theorem State.claimTold_holds (r : Option Requester) (s : State) (axes : Vec3 AxisChannel)
    (h : sound s.arm.st s.arm.energized s.arm.motion s.arm.stopping axes) :
    sound (s.claimTold r).arm.st (s.claimTold r).arm.energized (s.claimTold r).arm.motion (s.claimTold r).arm.stopping axes := by
  unfold State.claimTold
  split
  iterate 3 exact h
  split
  · by_cases claiming : s.arm.st = .claiming
    · simp (maxDischargeDepth := 9) (implicitDefEqProofs := false)
      [claiming, State.on_of_up h (by simp (maxDischargeDepth := 9) (implicitDefEqProofs := false) [claiming])]
    · simpa [claiming] using h
  · exact h

@[simp] theorem State.claimTimedOut_holds (r : Option (Requester × ItemSet)) (s : State)
    (h : sound s.arm.st s.arm.energized s.arm.motion s.arm.stopping s.axes) :
    sound (s.claimTimedOut r).arm.st (s.claimTimedOut r).arm.energized (s.claimTimedOut r).arm.motion
      (s.claimTimedOut r).arm.stopping (s.claimTimedOut r).axes := by
  unfold State.claimTimedOut
  (repeat' split) <;> simp (maxDischargeDepth := 9) (implicitDefEqProofs := false) [*]

@[simp] theorem State.enterQuiet_holds (s : State) (h : sound s.arm.st s.arm.energized s.arm.motion s.arm.stopping s.axes) :
    sound s.enterQuiet.arm.st s.enterQuiet.arm.energized s.enterQuiet.arm.motion s.enterQuiet.arm.stopping s.enterQuiet.axes := by
  simp (maxDischargeDepth := 9) (implicitDefEqProofs := false) [State.enterQuiet, h]

@[simp] theorem State.detach_holds (cause : DetachCause) (s : State)
    (h : sound s.arm.st s.arm.energized s.arm.motion s.arm.stopping s.axes) :
    sound (s.detach cause).arm.st (s.detach cause).arm.energized (s.detach cause).arm.motion (s.detach cause).arm.stopping
      (s.detach cause).axes := by
  unfold State.detach
  (repeat' split) <;> simp (maxDischargeDepth := 9) (implicitDefEqProofs := false) [*]

@[simp] theorem State.finish_holds (s : State) (h : sound s.arm.st s.arm.energized s.arm.motion s.arm.stopping s.axes) :
    sound s.finish.arm.st s.finish.arm.energized s.finish.arm.motion s.finish.arm.stopping s.finish.axes := by
  have settled := s.settle_holds h
  unfold State.finish
  dsimp only
  split
  · exact State.detach_holds _ _ settled
  · exact settled

@[simp] theorem State.failJoin_holds (s : State) (h : sound s.arm.st s.arm.energized s.arm.motion s.arm.stopping s.axes) :
    sound s.failJoin.arm.st s.failJoin.arm.energized s.failJoin.arm.motion s.failJoin.arm.stopping s.failJoin.axes := by
  simp (maxDischargeDepth := 9) (implicitDefEqProofs := false) [State.failJoin, h]

@[simp] theorem State.heardCell_holds (s : State) (h : sound s.arm.st s.arm.energized s.arm.motion s.arm.stopping s.axes) :
    sound s.heardCell.arm.st s.heardCell.arm.energized s.heardCell.arm.motion s.heardCell.arm.stopping s.heardCell.axes := by
  unfold State.heardCell
  (repeat' split) <;> simp (maxDischargeDepth := 9) (implicitDefEqProofs := false) [*]

@[simp] theorem State.checkMounted_holds (s : State) (h : sound s.arm.st s.arm.energized s.arm.motion s.arm.stopping s.axes) :
    sound s.checkMounted.arm.st s.checkMounted.arm.energized s.checkMounted.arm.motion s.checkMounted.arm.stopping
      s.checkMounted.axes := by
  unfold State.checkMounted
  (repeat' split) <;> simp (maxDischargeDepth := 9) (implicitDefEqProofs := false) [*]

@[simp] theorem State.queueSlotSense_holds (s : State) (h : sound s.arm.st s.arm.energized s.arm.motion s.arm.stopping s.axes) :
    sound s.queueSlotSense.arm.st s.queueSlotSense.arm.energized s.queueSlotSense.arm.motion s.queueSlotSense.arm.stopping
      s.queueSlotSense.axes := by
  unfold State.queueSlotSense
  (repeat' split) <;> simp (maxDischargeDepth := 9) (implicitDefEqProofs := false) [*]

@[simp] theorem State.reportRack_holds (s : State) (h : sound s.arm.st s.arm.energized s.arm.motion s.arm.stopping s.axes) :
    sound s.reportRack.arm.st s.reportRack.arm.energized s.reportRack.arm.motion s.reportRack.arm.stopping s.reportRack.axes := by
  unfold State.reportRack
  (repeat' split) <;> simp (maxDischargeDepth := 9) (implicitDefEqProofs := false) [*]

@[simp] theorem State.startTiming_holds (t : Table) (s : State)
    (h : sound s.arm.st s.arm.energized s.arm.motion s.arm.stopping s.axes) :
    sound (s.startTiming t).arm.st (s.startTiming t).arm.energized (s.startTiming t).arm.motion (s.startTiming t).arm.stopping
      (s.startTiming t).axes := by
  simp (maxDischargeDepth := 9) (implicitDefEqProofs := false) [State.startTiming, h]

@[simp] theorem State.becomeAttached_holds (t : Table) (s : State)
    (h : sound s.arm.st s.arm.energized s.arm.motion s.arm.stopping s.axes) :
    sound (s.becomeAttached t).arm.st (s.becomeAttached t).arm.energized (s.becomeAttached t).arm.motion
      (s.becomeAttached t).arm.stopping (s.becomeAttached t).axes := by
  unfold State.becomeAttached
  dsimp only
  split <;> simp (maxDischargeDepth := 9) (implicitDefEqProofs := false) [h]

@[simp] theorem State.found_holds (f : JoinFields) (s : State)
    (h : sound s.arm.st s.arm.energized s.arm.motion s.arm.stopping s.axes) :
    sound (s.found f).arm.st (s.found f).arm.energized (s.found f).arm.motion (s.found f).arm.stopping (s.found f).axes := by
  simp (maxDischargeDepth := 9) (implicitDefEqProofs := false) [State.found, h]

@[simp] theorem State.loseOwner_holds (gone : StationSet) (s : State)
    (h : sound s.arm.st s.arm.energized s.arm.motion s.arm.stopping s.axes) :
    sound (s.loseOwner gone).arm.st (s.loseOwner gone).arm.energized (s.loseOwner gone).arm.motion (s.loseOwner gone).arm.stopping
      (s.loseOwner gone).axes := by
  unfold State.loseOwner
  (repeat' split) <;> simp (maxDischargeDepth := 9) (implicitDefEqProofs := false) [*]

@[simp] theorem State.lineApplied_holds (p : Station) (f : ShareFrame) (gone : StationSet) (s : State)
    (h : sound s.arm.st s.arm.energized s.arm.motion s.arm.stopping s.axes) :
    sound (s.lineApplied p f gone).arm.st (s.lineApplied p f gone).arm.energized (s.lineApplied p f gone).arm.motion
      (s.lineApplied p f gone).arm.stopping (s.lineApplied p f gone).axes := by
  simp (maxDischargeDepth := 9) (implicitDefEqProofs := false) [State.lineApplied, h]

@[simp] theorem State.snapshotApplied_holds (a : Applied) (s : State)
    (h : sound s.arm.st s.arm.energized s.arm.motion s.arm.stopping s.axes) :
    sound (s.snapshotApplied a).arm.st (s.snapshotApplied a).arm.energized (s.snapshotApplied a).arm.motion
      (s.snapshotApplied a).arm.stopping (s.snapshotApplied a).axes := by
  unfold State.snapshotApplied
  dsimp only
  (repeat' split) <;> simp (maxDischargeDepth := 9) (implicitDefEqProofs := false) [*]

@[simp] theorem State.blocksAct_holds (p : Station) (f : ShareFrame) (gone : StationSet) (a : Applied) (s : State)
    (h : sound s.arm.st s.arm.energized s.arm.motion s.arm.stopping s.axes) :
    sound (s.blocksAct p f gone a).arm.st (s.blocksAct p f gone a).arm.energized (s.blocksAct p f gone a).arm.motion
      (s.blocksAct p f gone a).arm.stopping (s.blocksAct p f gone a).axes := by
  unfold State.blocksAct
  dsimp only
  (repeat' split) <;> simp (maxDischargeDepth := 9) (implicitDefEqProofs := false) [h]

@[simp] theorem State.applyShare_holds (t : Table) (p : Station) (f : ShareFrame) (s : State)
    (h : sound s.arm.st s.arm.energized s.arm.motion s.arm.stopping s.axes) :
    sound (s.applyShare t p f).arm.st (s.applyShare t p f).arm.energized (s.applyShare t p f).arm.motion
      (s.applyShare t p f).arm.stopping (s.applyShare t p f).axes := by
  unfold State.applyShare
  dsimp only
  (repeat' split) <;> simp (maxDischargeDepth := 9) (implicitDefEqProofs := false) [*]

@[simp] theorem State.logShare_holds (p : Station) (seq : BitVec 16) (f : ShareFrame) (s : State)
    (h : sound s.arm.st s.arm.energized s.arm.motion s.arm.stopping s.axes) :
    sound (s.logShare p seq f).arm.st (s.logShare p seq f).arm.energized (s.logShare p seq f).arm.motion
      (s.logShare p seq f).arm.stopping (s.logShare p seq f).axes := by
  unfold State.logShare
  dsimp only
  (repeat' split) <;> simp (maxDischargeDepth := 9) (implicitDefEqProofs := false) [*]

@[simp] theorem State.keepFoundingImage_holds (p : Station) (f : JoinFields) (s : State)
    (h : sound s.arm.st s.arm.energized s.arm.motion s.arm.stopping s.axes) :
    sound (s.keepFoundingImage p f).arm.st (s.keepFoundingImage p f).arm.energized (s.keepFoundingImage p f).arm.motion
      (s.keepFoundingImage p f).arm.stopping (s.keepFoundingImage p f).axes := by
  simp (maxDischargeDepth := 9) (implicitDefEqProofs := false) [State.keepFoundingImage, h]

@[simp] theorem State.listenShare_holds (p : Station) (f : ShareFrame) (s : State)
    (h : sound s.arm.st s.arm.energized s.arm.motion s.arm.stopping s.axes) :
    sound (s.listenShare p f).arm.st (s.listenShare p f).arm.energized (s.listenShare p f).arm.motion
      (s.listenShare p f).arm.stopping (s.listenShare p f).axes := by
  unfold State.listenShare
  dsimp only
  (repeat' split) <;> simp (maxDischargeDepth := 9) (implicitDefEqProofs := false) [*]

@[simp] theorem State.joinUnitTakes_holds (p : Station) (seq : BitVec 16) (f : ShareFrame) (s : State)
    (h : sound s.arm.st s.arm.energized s.arm.motion s.arm.stopping s.axes) :
    sound (s.joinUnitTakes p seq f).arm.st (s.joinUnitTakes p seq f).arm.energized (s.joinUnitTakes p seq f).arm.motion
      (s.joinUnitTakes p seq f).arm.stopping (s.joinUnitTakes p seq f).axes := by
  unfold State.joinUnitTakes
  (repeat' split) <;> simp (maxDischargeDepth := 9) (implicitDefEqProofs := false) [*]

@[simp] theorem State.shareReceived_holds (p : Station) (seq : BitVec 16) (f : ShareFrame) (s : State)
    (h : sound s.arm.st s.arm.energized s.arm.motion s.arm.stopping s.axes) :
    sound (s.shareReceived p seq f).arm.st (s.shareReceived p seq f).arm.energized (s.shareReceived p seq f).arm.motion
      (s.shareReceived p seq f).arm.stopping (s.shareReceived p seq f).axes := by
  unfold State.shareReceived
  dsimp only
  (repeat' split) <;> simp (maxDischargeDepth := 9) (implicitDefEqProofs := false) [*]

@[simp] theorem State.adopt_holds (t : Table) (s : State) (h : sound s.arm.st s.arm.energized s.arm.motion s.arm.stopping s.axes)
    :
    sound (s.adopt t).arm.st (s.adopt t).arm.energized (s.adopt t).arm.motion (s.adopt t).arm.stopping (s.adopt t).axes := by
  simp (maxDischargeDepth := 9) (implicitDefEqProofs := false) [State.adopt, h]

@[simp] theorem State.collect_holds (part : SnapshotPart) (s : State)
    (h : sound s.arm.st s.arm.energized s.arm.motion s.arm.stopping s.axes) :
    sound (s.collect part).arm.st (s.collect part).arm.energized (s.collect part).arm.motion (s.collect part).arm.stopping
      (s.collect part).axes := by
  unfold State.collect
  dsimp only
  (repeat' split) <;> simp (maxDischargeDepth := 9) (implicitDefEqProofs := false) [*]

/-- A change of one axis that leaves its setpoint and its position alone leaves an arm sound. -/
theorem State.updateAxis_holds (a : AxisName) (f : AxisChannel → AxisChannel) (s : State)
    (setpoint : (f (vget s.axes a)).setpoint = (vget s.axes a).setpoint)
    (pos : (f (vget s.axes a)).pos = (vget s.axes a).pos)
    (h : sound s.arm.st s.arm.energized s.arm.motion s.arm.stopping s.axes) :
    sound s.arm.st s.arm.energized s.arm.motion s.arm.stopping (s.updateAxis a f).axes := by
  obtain ⟨off, rest, even⟩ := h
  refine ⟨off, rest, fun e => ?_⟩
  have even := even e
  cases a <;> simp_all [State.updateAxis, vmap, vset, vget]

@[simp] theorem State.scaleFault_holds (axis : AxisName) (detail : Nat) (s : State)
    (h : sound s.arm.st s.arm.energized s.arm.motion s.arm.stopping s.axes) :
    sound (s.scaleFault axis detail).arm.st (s.scaleFault axis detail).arm.energized (s.scaleFault axis detail).arm.motion
      (s.scaleFault axis detail).arm.stopping (s.scaleFault axis detail).axes := by
  have same := s.updateAxis_holds axis (fun a => { a with referenced := false }) rfl rfl h
  unfold State.scaleFault
  dsimp only
  split
  · simp
  · simp (maxDischargeDepth := 9) (implicitDefEqProofs := false) [same]

@[simp] theorem State.atLoopStep_holds (since : BitVec 32) (s : State)
    (h : sound s.arm.st s.arm.energized s.arm.motion s.arm.stopping s.axes) :
    sound (s.atLoopStep since).arm.st (s.atLoopStep since).arm.energized (s.atLoopStep since).arm.motion
      (s.atLoopStep since).arm.stopping (s.atLoopStep since).axes := by
  unfold State.atLoopStep
  split
  · next moving =>
    obtain ⟨on, up⟩ := State.on_of_motion h moving
    split
    · simp (maxDischargeDepth := 9) (implicitDefEqProofs := false) [on, up]
    · exact h
  · exact h

@[simp] theorem State.append_holds (sender : Station) (seg : Segment) (s : State)
    (h : sound s.arm.st s.arm.energized s.arm.motion s.arm.stopping s.axes) :
    sound (s.append sender seg).arm.st (s.append sender seg).arm.energized (s.append sender seg).arm.motion
      (s.append sender seg).arm.stopping (s.append sender seg).axes := by
  unfold State.append
  dsimp only
  (repeat' split) <;> simp (maxDischargeDepth := 9) (implicitDefEqProofs := false) [*]

@[simp] theorem State.takeSeg_holds (sender : Station) (p : List Byte) (s : State)
    (h : sound s.arm.st s.arm.energized s.arm.motion s.arm.stopping s.axes) :
    sound (s.takeSeg sender p).1.arm.st (s.takeSeg sender p).1.arm.energized (s.takeSeg sender p).1.arm.motion
      (s.takeSeg sender p).1.arm.stopping (s.takeSeg sender p).1.axes := by
  unfold State.takeSeg
  (repeat' split) <;> simp (maxDischargeDepth := 9) (implicitDefEqProofs := false) [answer, *]

@[simp] theorem State.holdStill_holds (t : Option Start) (s : State)
    (h : sound s.arm.st s.arm.energized s.arm.motion s.arm.stopping s.axes) :
    sound (s.holdStill t).arm.st (s.holdStill t).arm.energized (s.holdStill t).arm.motion (s.holdStill t).arm.stopping
      (s.holdStill t).axes := by
  simp (maxDischargeDepth := 9) (implicitDefEqProofs := false) [State.holdStill, h]

@[simp] theorem State.holdMoving_holds (s : State) (h : sound s.arm.st s.arm.energized s.arm.motion s.arm.stopping s.axes) :
    sound s.holdMoving.arm.st s.holdMoving.arm.energized s.holdMoving.arm.motion s.holdMoving.arm.stopping
      s.holdMoving.axes := by
  unfold State.holdMoving
  split
  · next stopping =>
    obtain ⟨on, up⟩ := State.on_of_stopping h stopping
    split <;> simp (maxDischargeDepth := 9) (implicitDefEqProofs := false) [on, up]
  · next moving =>
    obtain ⟨on, up⟩ := State.on_of_motion h moving
    (repeat' split) <;> simp (maxDischargeDepth := 9) (implicitDefEqProofs := false) [on, up]
  · simp (maxDischargeDepth := 9) (implicitDefEqProofs := false) [h]

@[simp] theorem State.holdEffect_holds (s : State) (h : sound s.arm.st s.arm.energized s.arm.motion s.arm.stopping s.axes) :
    sound s.holdEffect.arm.st s.holdEffect.arm.energized s.holdEffect.arm.motion s.holdEffect.arm.stopping
      s.holdEffect.axes := by
  unfold State.holdEffect
  split
  · exact s.holdMoving_holds h
  · next claiming =>
    have on := State.on_of_up h (by simp (maxDischargeDepth := 9) (implicitDefEqProofs := false) [claiming])
    split <;> simp (maxDischargeDepth := 9) (implicitDefEqProofs := false) [on, claiming]
  · exact s.holdStill_holds _ h
  · next slowing =>
    have on := State.on_of_up h (by simp (maxDischargeDepth := 9) (implicitDefEqProofs := false) [slowing])
    (repeat' split) <;> simp (maxDischargeDepth := 9) (implicitDefEqProofs := false) [on, slowing]
  · simp (maxDischargeDepth := 9) (implicitDefEqProofs := false) [h]

@[simp] theorem State.takeImage_holds (c : Image) (s : State)
    (h : sound s.arm.st s.arm.energized s.arm.motion s.arm.stopping s.axes) :
    sound (s.takeImage c).arm.st (s.takeImage c).arm.energized (s.takeImage c).arm.motion (s.takeImage c).arm.stopping
      (s.takeImage c).axes := by
  obtain ⟨off, rest, even⟩ := h
  exact ⟨off, rest, fun _ => rfl⟩

@[simp] theorem State.takeNoImage_holds (s : State) (h : sound s.arm.st s.arm.energized s.arm.motion s.arm.stopping s.axes) :
    sound s.takeNoImage.arm.st s.takeNoImage.arm.energized s.takeNoImage.arm.motion s.takeNoImage.arm.stopping s.takeNoImage.axes
      := by
  simp (maxDischargeDepth := 9) (implicitDefEqProofs := false) [State.takeNoImage, h]

@[simp] theorem State.startSensing_holds (headHigh : Bool) (slotInputs : SlotSet) (s : State)
    (h : sound s.arm.st s.arm.energized s.arm.motion s.arm.stopping s.axes) :
    sound (s.startSensing headHigh slotInputs).arm.st (s.startSensing headHigh slotInputs).arm.energized
      (s.startSensing headHigh slotInputs).arm.motion (s.startSensing headHigh slotInputs).arm.stopping
      (s.startSensing headHigh slotInputs).axes := by
  unfold State.startSensing
  (repeat' split) <;> simp (maxDischargeDepth := 9) (implicitDefEqProofs := false) [*]

@[simp] theorem State.loadEnded_holds (image : Option Image) (format : BitVec 16) (headHigh : Bool) (slotInputs : SlotSet)
    (s : State) (h : sound s.arm.st s.arm.energized s.arm.motion s.arm.stopping s.axes) :
    sound (s.loadEnded image format headHigh slotInputs).arm.st (s.loadEnded image format headHigh slotInputs).arm.energized
      (s.loadEnded image format headHigh slotInputs).arm.motion (s.loadEnded image format headHigh slotInputs).arm.stopping
      (s.loadEnded image format headHigh slotInputs).axes := by
  unfold State.loadEnded
  dsimp only
  (repeat' split) <;> simp (maxDischargeDepth := 9) (implicitDefEqProofs := false) [*]

@[simp] theorem State.restartCapture_holds (s : State) (h : sound s.arm.st s.arm.energized s.arm.motion s.arm.stopping s.axes) :
    sound s.restartCapture.arm.st s.restartCapture.arm.energized s.restartCapture.arm.motion s.restartCapture.arm.stopping
      s.restartCapture.axes := by
  simp (maxDischargeDepth := 9) (implicitDefEqProofs := false) [State.restartCapture, h]

@[simp] theorem State.restartCapture_drives (s : State) :
    s.restartCapture.arm = s.arm ∧ s.restartCapture.axes = s.axes := ⟨rfl, rfl⟩

theorem State.restartBlocks_arm (s : State) :
    s.restartBlocks.arm.st = .off ∧ s.restartBlocks.arm.energized = false ∧ s.restartBlocks.arm.motion = none ∧
    s.restartBlocks.arm.stopping = none := by
  unfold State.restartBlocks
  dsimp only
  split <;> simp

theorem State.restartBlocks_level (s : State) : level false s.restartBlocks.axes := by
  unfold State.restartBlocks
  dsimp only
  split <;> simp

/-- A restart leaves the drives DE_ENERGIZED, whatever it finds (R97). -/
@[simp] theorem State.restartBlocks_holds (s : State) :
    sound s.restartBlocks.arm.st s.restartBlocks.arm.energized s.restartBlocks.arm.motion s.restartBlocks.arm.stopping
      s.restartBlocks.axes := by
  simp (maxDischargeDepth := 9) (implicitDefEqProofs := false) [s.restartBlocks_arm, s.restartBlocks_level]

@[simp] theorem State.reload_holds (s : State) :
    sound s.reload.arm.st s.reload.arm.energized s.reload.arm.motion s.reload.arm.stopping s.reload.axes := by
  simp (maxDischargeDepth := 9) (implicitDefEqProofs := false) [State.reload]

@[simp] theorem State.leaveCell_holds (s : State) (h : sound s.arm.st s.arm.energized s.arm.motion s.arm.stopping s.axes) :
    sound s.leaveCell.arm.st s.leaveCell.arm.energized s.leaveCell.arm.motion s.leaveCell.arm.stopping s.leaveCell.axes := by
  unfold State.leaveCell
  dsimp only
  (repeat' split) <;> simp (maxDischargeDepth := 9) (implicitDefEqProofs := false) [*]

@[simp] theorem State.takeRestart_holds (s : State) (h : sound s.arm.st s.arm.energized s.arm.motion s.arm.stopping s.axes) :
    sound s.takeRestart.1.arm.st s.takeRestart.1.arm.energized s.takeRestart.1.arm.motion s.takeRestart.1.arm.stopping
      s.takeRestart.1.axes := by
  unfold State.takeRestart
  (repeat' split) <;> simp (maxDischargeDepth := 9) (implicitDefEqProofs := false) [answer, *]

@[simp] theorem State.endLeaveWait_holds (s : State) :
    sound s.endLeaveWait.arm.st s.endLeaveWait.arm.energized s.endLeaveWait.arm.motion s.endLeaveWait.arm.stopping
      s.endLeaveWait.axes := by
  unfold State.endLeaveWait
  dsimp only
  (repeat' split) <;> simp (maxDischargeDepth := 9) (implicitDefEqProofs := false) [*]

@[simp] theorem State.startRun_holds (sender : Station) (s : State)
    (h : sound s.arm.st s.arm.energized s.arm.motion s.arm.stopping s.axes) :
    sound (s.startRun sender).arm.st (s.startRun sender).arm.energized (s.startRun sender).arm.motion
      (s.startRun sender).arm.stopping (s.startRun sender).axes := by
  unfold State.startRun
  dsimp only
  (repeat' split) <;> simp (maxDischargeDepth := 9) (implicitDefEqProofs := false) [*]

@[simp] theorem State.takeGo_holds (sender : Station) (s : State)
    (h : sound s.arm.st s.arm.energized s.arm.motion s.arm.stopping s.axes) :
    sound (s.takeGo sender).1.arm.st (s.takeGo sender).1.arm.energized (s.takeGo sender).1.arm.motion
      (s.takeGo sender).1.arm.stopping (s.takeGo sender).1.axes := by
  unfold State.takeGo
  (repeat' split) <;> simp (maxDischargeDepth := 9) (implicitDefEqProofs := false) [answer, *]

@[simp] theorem State.takeHold_holds (sender : Station) (s : State)
    (h : sound s.arm.st s.arm.energized s.arm.motion s.arm.stopping s.axes) :
    sound (s.takeHold sender).1.arm.st (s.takeHold sender).1.arm.energized (s.takeHold sender).1.arm.motion
      (s.takeHold sender).1.arm.stopping (s.takeHold sender).1.axes := by
  unfold State.takeHold
  (repeat' split) <;> simp (maxDischargeDepth := 9) (implicitDefEqProofs := false) [answer, *]

@[simp] theorem State.takeGoOn_holds (sender : Station) (s : State)
    (h : sound s.arm.st s.arm.energized s.arm.motion s.arm.stopping s.axes) :
    sound (s.takeGoOn sender).1.arm.st (s.takeGoOn sender).1.arm.energized (s.takeGoOn sender).1.arm.motion
      (s.takeGoOn sender).1.arm.stopping (s.takeGoOn sender).1.axes := by
  unfold State.takeGoOn
  (repeat' split) <;> simp (maxDischargeDepth := 9) (implicitDefEqProofs := false) [answer, *]

@[simp] theorem State.takeHome_holds (s : State) (h : sound s.arm.st s.arm.energized s.arm.motion s.arm.stopping s.axes) :
    sound s.takeHome.1.arm.st s.takeHome.1.arm.energized s.takeHome.1.arm.motion s.takeHome.1.arm.stopping s.takeHome.1.axes := by
  unfold State.takeHome
  (repeat' split) <;> simp (maxDischargeDepth := 9) (implicitDefEqProofs := false) [answer, *]

@[simp] theorem State.takeChange_holds (id : ProbeId) (s : State)
    (h : sound s.arm.st s.arm.energized s.arm.motion s.arm.stopping s.axes) :
    sound (s.takeChange id).1.arm.st (s.takeChange id).1.arm.energized (s.takeChange id).1.arm.motion
      (s.takeChange id).1.arm.stopping (s.takeChange id).1.axes := by
  unfold State.takeChange
  (repeat' split) <;> simp (maxDischargeDepth := 9) (implicitDefEqProofs := false) [answer, *]

@[simp] theorem State.takeQualify_holds (s : State) (h : sound s.arm.st s.arm.energized s.arm.motion s.arm.stopping s.axes) :
    sound s.takeQualify.1.arm.st s.takeQualify.1.arm.energized s.takeQualify.1.arm.motion s.takeQualify.1.arm.stopping
      s.takeQualify.1.axes := by
  unfold State.takeQualify
  (repeat' split) <;> simp (maxDischargeDepth := 9) (implicitDefEqProofs := false) [answer, *]

@[simp] theorem State.enterShadow_holds (s : State) (on : s.arm.energized = true) (up : s.arm.st ≠ .off) :
    sound s.enterShadow.arm.st s.enterShadow.arm.energized s.enterShadow.arm.motion s.enterShadow.arm.stopping
      s.enterShadow.axes := by
  simp (maxDischargeDepth := 9) (implicitDefEqProofs := false) [State.enterShadow, on, up]

@[simp] theorem State.takeShadowOn_holds (s : State) (h : sound s.arm.st s.arm.energized s.arm.motion s.arm.stopping s.axes) :
    sound s.takeShadowOn.1.arm.st s.takeShadowOn.1.arm.energized s.takeShadowOn.1.arm.motion s.takeShadowOn.1.arm.stopping
      s.takeShadowOn.1.axes := by
  unfold State.takeShadowOn
  split
  · next free =>
    have still : s.arm.st = .still := by simp_all
    have up : s.arm.st ≠ .off := by simp (maxDischargeDepth := 9) (implicitDefEqProofs := false) [still]
    exact s.enterShadow_holds (State.on_of_up h up) up
  · exact h

@[simp] theorem State.endShadow_holds (s : State) (on : s.arm.energized = true) (up : s.arm.st ≠ .off) :
    sound s.endShadow.arm.st s.endShadow.arm.energized s.endShadow.arm.motion s.endShadow.arm.stopping s.endShadow.axes := by
  simp (maxDischargeDepth := 9) (implicitDefEqProofs := false) [State.endShadow, on, up]

@[simp] theorem State.takeShadowOff_holds (s : State) (h : sound s.arm.st s.arm.energized s.arm.motion s.arm.stopping s.axes) :
    sound s.takeShadowOff.1.arm.st s.takeShadowOff.1.arm.energized s.takeShadowOff.1.arm.motion
      s.takeShadowOff.1.arm.stopping s.takeShadowOff.1.axes := by
  unfold State.takeShadowOff
  split
  · next free =>
    have still : s.arm.st = .still := by simp_all
    have up : s.arm.st ≠ .off := by simp (maxDischargeDepth := 9) (implicitDefEqProofs := false) [still]
    exact State.finish_holds _ (s.endShadow_holds (State.on_of_up h up) up)
  · exact h

@[simp] theorem State.defineProbe_holds (d : ProbeDef) (s : State)
    (h : sound s.arm.st s.arm.energized s.arm.motion s.arm.stopping s.axes) :
    sound (s.defineProbe d).arm.st (s.defineProbe d).arm.energized (s.defineProbe d).arm.motion (s.defineProbe d).arm.stopping
      (s.defineProbe d).axes := by
  unfold State.defineProbe
  (repeat' split) <;> simp (maxDischargeDepth := 9) (implicitDefEqProofs := false) [*]

@[simp] theorem State.takeProbedef_holds (p : List Byte) (s : State)
    (h : sound s.arm.st s.arm.energized s.arm.motion s.arm.stopping s.axes) :
    sound (s.takeProbedef p).1.arm.st (s.takeProbedef p).1.arm.energized (s.takeProbedef p).1.arm.motion
      (s.takeProbedef p).1.arm.stopping (s.takeProbedef p).1.axes := by
  unfold State.takeProbedef
  (repeat' split) <;> simp (maxDischargeDepth := 9) (implicitDefEqProofs := false) [answer, *]

@[simp] theorem State.takeReportmark_holds (p : List Byte) (s : State)
    (h : sound s.arm.st s.arm.energized s.arm.motion s.arm.stopping s.axes) :
    sound (s.takeReportmark p).1.arm.st (s.takeReportmark p).1.arm.energized (s.takeReportmark p).1.arm.motion
      (s.takeReportmark p).1.arm.stopping (s.takeReportmark p).1.axes := by
  unfold State.takeReportmark
  (repeat' split) <;> simp (maxDischargeDepth := 9) (implicitDefEqProofs := false) [answer, *]

@[simp] theorem State.takeEvmask_holds (p : List Byte) (s : State)
    (h : sound s.arm.st s.arm.energized s.arm.motion s.arm.stopping s.axes) :
    sound (s.takeEvmask p).1.arm.st (s.takeEvmask p).1.arm.energized (s.takeEvmask p).1.arm.motion (s.takeEvmask p).1.arm.stopping
      (s.takeEvmask p).1.axes := by
  unfold State.takeEvmask
  (repeat' split) <;> simp (maxDischargeDepth := 9) (implicitDefEqProofs := false) [answer, *]

@[simp] theorem State.countVeto_holds (s : State) (h : sound s.arm.st s.arm.energized s.arm.motion s.arm.stopping s.axes) :
    sound s.countVeto.arm.st s.countVeto.arm.energized s.countVeto.arm.motion s.countVeto.arm.stopping s.countVeto.axes := by
  unfold State.countVeto
  (repeat' split) <;> simp (maxDischargeDepth := 9) (implicitDefEqProofs := false) [*]

@[simp] theorem State.clearTx_holds (s : State) (h : sound s.arm.st s.arm.energized s.arm.motion s.arm.stopping s.axes) :
    sound s.clearTx.arm.st s.clearTx.arm.energized s.clearTx.arm.motion s.clearTx.arm.stopping s.clearTx.axes := by
  simp (maxDischargeDepth := 9) (implicitDefEqProofs := false) [State.clearTx, h]

@[simp] theorem State.unsent_holds (tx : Tx) (s : State) (h : sound s.arm.st s.arm.energized s.arm.motion s.arm.stopping s.axes) :
    sound (s.unsent tx).arm.st (s.unsent tx).arm.energized (s.unsent tx).arm.motion (s.unsent tx).arm.stopping (s.unsent tx).axes
      := by
  unfold State.unsent
  (repeat' split) <;> simp (maxDischargeDepth := 9) (implicitDefEqProofs := false) [*]

@[simp] theorem State.leaveRingWait_holds (s : State) (h : sound s.arm.st s.arm.energized s.arm.motion s.arm.stopping s.axes) :
    sound s.leaveRingWait.arm.st s.leaveRingWait.arm.energized s.leaveRingWait.arm.motion s.leaveRingWait.arm.stopping
      s.leaveRingWait.axes := by
  unfold State.leaveRingWait
  split
  · next free =>
    have waiting : s.arm.st = .ringWait := by simp_all
    simp (maxDischargeDepth := 9) (implicitDefEqProofs := false)
      [State.on_of_up h (by simp (maxDischargeDepth := 9) (implicitDefEqProofs := false) [waiting])]
  · exact h

@[simp] theorem State.joinAccepted_holds (f : JoinFields) (seq : BitVec 16) (s : State)
    (h : sound s.arm.st s.arm.energized s.arm.motion s.arm.stopping s.axes) :
    sound (s.joinAccepted f seq).arm.st (s.joinAccepted f seq).arm.energized (s.joinAccepted f seq).arm.motion
      (s.joinAccepted f seq).arm.stopping (s.joinAccepted f seq).axes := by
  unfold State.joinAccepted
  (repeat' split) <;> simp (maxDischargeDepth := 9) (implicitDefEqProofs := false) [*]

@[simp] theorem State.await_holds (f : ShareFrame) (s : State)
    (h : sound s.arm.st s.arm.energized s.arm.motion s.arm.stopping s.axes) :
    sound (s.await f).arm.st (s.await f).arm.energized (s.await f).arm.motion (s.await f).arm.stopping (s.await f).axes := by
  simp (maxDischargeDepth := 9) (implicitDefEqProofs := false) [State.await, h]

@[simp] theorem State.noteClaim_holds (e : M1Entry) (s : State)
    (h : sound s.arm.st s.arm.energized s.arm.motion s.arm.stopping s.axes) :
    sound (s.noteClaim e).arm.st (s.noteClaim e).arm.energized (s.noteClaim e).arm.motion (s.noteClaim e).arm.stopping
      (s.noteClaim e).axes := by
  simp (maxDischargeDepth := 9) (implicitDefEqProofs := false) [State.noteClaim, h]

@[simp] theorem State.shareAccepted_holds (f : ShareFrame) (seq : BitVec 16) (s : State)
    (h : sound s.arm.st s.arm.energized s.arm.motion s.arm.stopping s.axes) :
    sound (s.shareAccepted f seq).arm.st (s.shareAccepted f seq).arm.energized (s.shareAccepted f seq).arm.motion
      (s.shareAccepted f seq).arm.stopping (s.shareAccepted f seq).axes := by
  unfold State.shareAccepted
  (repeat' split) <;> simp (maxDischargeDepth := 9) (implicitDefEqProofs := false) [*]

@[simp] theorem State.staleAccepted_holds (f : ShareFrame) (seq : BitVec 16) (s : State)
    (h : sound s.arm.st s.arm.energized s.arm.motion s.arm.stopping s.axes) :
    sound (s.staleAccepted f seq).arm.st (s.staleAccepted f seq).arm.energized (s.staleAccepted f seq).arm.motion
      (s.staleAccepted f seq).arm.stopping (s.staleAccepted f seq).axes := by
  unfold State.staleAccepted
  (repeat' split) <;> simp (maxDischargeDepth := 9) (implicitDefEqProofs := false) [*]

@[simp] theorem State.recordPresence_holds (sender : Station) (standing : ZoneSet) (s : State)
    (h : sound s.arm.st s.arm.energized s.arm.motion s.arm.stopping s.axes) :
    sound (s.recordPresence sender standing).arm.st (s.recordPresence sender standing).arm.energized
      (s.recordPresence sender standing).arm.motion (s.recordPresence sender standing).arm.stopping
      (s.recordPresence sender standing).axes := by
  unfold State.recordPresence
  (repeat' split) <;> simp (maxDischargeDepth := 9) (implicitDefEqProofs := false) [*]

@[simp] theorem State.listenPresence_holds (sender : Station) (standing : ZoneSet) (shown : JoinShown) (s : State)
    (h : sound s.arm.st s.arm.energized s.arm.motion s.arm.stopping s.axes) :
    sound (s.listenPresence sender standing shown).arm.st (s.listenPresence sender standing shown).arm.energized
      (s.listenPresence sender standing shown).arm.motion (s.listenPresence sender standing shown).arm.stopping
      (s.listenPresence sender standing shown).axes := by
  unfold State.listenPresence
  (repeat' split) <;> simp (maxDischargeDepth := 9) (implicitDefEqProofs := false) [*]

@[simp] theorem State.presenceRecorded_holds (sender : Station) (standing : ZoneSet) (shown : JoinShown) (s : State)
    (h : sound s.arm.st s.arm.energized s.arm.motion s.arm.stopping s.axes) :
    sound (s.presenceRecorded sender standing shown).arm.st (s.presenceRecorded sender standing shown).arm.energized
      (s.presenceRecorded sender standing shown).arm.motion (s.presenceRecorded sender standing shown).arm.stopping
      (s.presenceRecorded sender standing shown).axes := by
  unfold State.presenceRecorded
  (repeat' split) <;> simp (maxDischargeDepth := 9) (implicitDefEqProofs := false) [*]

@[simp] theorem State.contentAccepted_holds (tx : Tx) (s : State)
    (h : sound s.arm.st s.arm.energized s.arm.motion s.arm.stopping s.axes) :
    sound (s.contentAccepted tx).arm.st (s.contentAccepted tx).arm.energized (s.contentAccepted tx).arm.motion
      (s.contentAccepted tx).arm.stopping (s.contentAccepted tx).axes := by
  unfold State.contentAccepted
  (repeat' split) <;> simp (maxDischargeDepth := 9) (implicitDefEqProofs := false) [*]

@[simp] theorem State.ownAccepted_holds (tx : Tx) (s : State)
    (h : sound s.arm.st s.arm.energized s.arm.motion s.arm.stopping s.axes) :
    sound (s.ownAccepted tx).arm.st (s.ownAccepted tx).arm.energized (s.ownAccepted tx).arm.motion (s.ownAccepted tx).arm.stopping
      (s.ownAccepted tx).axes := by
  simp (maxDischargeDepth := 9) (implicitDefEqProofs := false) [State.ownAccepted, h]

@[simp] theorem State.retiringVoid_holds (tx : Tx) (s : State)
    (h : sound s.arm.st s.arm.energized s.arm.motion s.arm.stopping s.axes) :
    sound (s.retiringVoid tx).arm.st (s.retiringVoid tx).arm.energized (s.retiringVoid tx).arm.motion
      (s.retiringVoid tx).arm.stopping (s.retiringVoid tx).axes := by
  unfold State.retiringVoid
  (repeat' split) <;> simp (maxDischargeDepth := 9) (implicitDefEqProofs := false) [*]

@[simp] theorem State.countVoid_holds (s : State) (h : sound s.arm.st s.arm.energized s.arm.motion s.arm.stopping s.axes) :
    sound s.countVoid.arm.st s.countVoid.arm.energized s.countVoid.arm.motion s.countVoid.arm.stopping s.countVoid.axes := by
  unfold State.countVoid
  (repeat' split) <;> simp (maxDischargeDepth := 9) (implicitDefEqProofs := false) [*]

@[simp] theorem State.ownVoid_holds (tx : Tx) (s : State)
    (h : sound s.arm.st s.arm.energized s.arm.motion s.arm.stopping s.axes) :
    sound (s.ownVoid tx).arm.st (s.ownVoid tx).arm.energized (s.ownVoid tx).arm.motion (s.ownVoid tx).arm.stopping
      (s.ownVoid tx).axes := by
  simp (maxDischargeDepth := 9) (implicitDefEqProofs := false) [State.ownVoid, h]

@[simp] theorem State.adoptImage_holds (f : ShareFrame) (s : State)
    (h : sound s.arm.st s.arm.energized s.arm.motion s.arm.stopping s.axes) :
    sound (s.adoptImage f).arm.st (s.adoptImage f).arm.energized (s.adoptImage f).arm.motion (s.adoptImage f).arm.stopping
      (s.adoptImage f).axes := by
  unfold State.adoptImage
  (repeat' split) <;> simp (maxDischargeDepth := 9) (implicitDefEqProofs := false) [*]

@[simp] theorem State.applyOwn_holds (seq : BitVec 16) (f : ShareFrame) (s : State)
    (h : sound s.arm.st s.arm.energized s.arm.motion s.arm.stopping s.axes) :
    sound (s.applyOwn seq f).arm.st (s.applyOwn seq f).arm.energized (s.applyOwn seq f).arm.motion (s.applyOwn seq f).arm.stopping
      (s.applyOwn seq f).axes := by
  unfold State.applyOwn
  (repeat' split) <;> simp (maxDischargeDepth := 9) (implicitDefEqProofs := false) [*]

theorem State.ownReady_holds {f : ShareFrame} {s t : State}
    (h : sound s.arm.st s.arm.energized s.arm.motion s.arm.stopping s.axes) (ready : s.ownReady f = some t) :
    sound t.arm.st t.arm.energized t.arm.motion t.arm.stopping t.axes := by
  unfold State.ownReady at ready
  split at ready
  · injection ready with same
    exact same ▸ h
  · split at ready
    · injection ready with same
      exact same ▸ State.ownAccepted_holds _ s h
    · cases ready

@[simp] theorem State.share_holds (sender : Station) (seq : BitVec 16) (f : ShareFrame) (s : State)
    (h : sound s.arm.st s.arm.energized s.arm.motion s.arm.stopping s.axes) :
    sound (s.share sender seq f).arm.st (s.share sender seq f).arm.energized (s.share sender seq f).arm.motion
      (s.share sender seq f).arm.stopping (s.share sender seq f).axes := by
  unfold State.share
  split
  · split
    · next ready => simp (maxDischargeDepth := 9) (implicitDefEqProofs := false) [State.ownReady_holds h ready]
    · exact h
  · split <;> simp (maxDischargeDepth := 9) (implicitDefEqProofs := false) [h]

@[simp] theorem State.endSoak_holds (s : State) (h : sound s.arm.st s.arm.energized s.arm.motion s.arm.stopping s.axes) :
    sound s.endSoak.arm.st s.endSoak.arm.energized s.endSoak.arm.motion s.endSoak.arm.stopping s.endSoak.axes := by
  unfold State.endSoak
  (repeat' split) <;> simp (maxDischargeDepth := 9) (implicitDefEqProofs := false) [*]

@[simp] theorem State.completeScan_holds (results : List (Nat × Judged)) (s : State)
    (h : sound s.arm.st s.arm.energized s.arm.motion s.arm.stopping s.axes) :
    sound (s.completeScan results).arm.st (s.completeScan results).arm.energized (s.completeScan results).arm.motion
      (s.completeScan results).arm.stopping (s.completeScan results).axes := by
  unfold State.completeScan
  (repeat' split) <;> simp (maxDischargeDepth := 9) (implicitDefEqProofs := false) [*]

@[simp] theorem State.keepLatchWhileArmed_holds (s : State)
    (h : sound s.arm.st s.arm.energized s.arm.motion s.arm.stopping s.axes) :
    sound s.keepLatchWhileArmed.arm.st s.keepLatchWhileArmed.arm.energized s.keepLatchWhileArmed.arm.motion
      s.keepLatchWhileArmed.arm.stopping s.keepLatchWhileArmed.axes := by
  unfold State.keepLatchWhileArmed
  (repeat' split) <;> simp (maxDischargeDepth := 9) (implicitDefEqProofs := false) [*]

@[simp] theorem State.beginBackOff_holds (thenHeld : Bool) (s : State) (on : s.arm.energized = true) (up : s.arm.st ≠ .off) :
    sound (s.beginBackOff thenHeld).arm.st (s.beginBackOff thenHeld).arm.energized (s.beginBackOff thenHeld).arm.motion
      (s.beginBackOff thenHeld).arm.stopping (s.beginBackOff thenHeld).axes := by
  unfold State.beginBackOff
  (repeat' split) <;> simp (maxDischargeDepth := 9) (implicitDefEqProofs := false) [*]

@[simp] theorem State.contactEnds_holds (position : Vec3 Lu) (held : Bool) (s : State) (on : s.arm.energized = true)
    (up : s.arm.st ≠ .off) :
    sound (s.contactEnds position held).arm.st (s.contactEnds position held).arm.energized
      (s.contactEnds position held).arm.motion (s.contactEnds position held).arm.stopping (s.contactEnds position held).axes := by
  unfold State.contactEnds
  dsimp only
  split <;> simp (maxDischargeDepth := 9) (implicitDefEqProofs := false) [on, up]

@[simp] theorem State.probingContact_holds (position : Vec3 Lu) (s : State) (on : s.arm.energized = true) (up : s.arm.st ≠ .off) :
    sound (s.probingContact position).arm.st (s.probingContact position).arm.energized (s.probingContact position).arm.motion
      (s.probingContact position).arm.stopping (s.probingContact position).axes := by
  unfold State.probingContact
  (repeat' split) <;> simp (maxDischargeDepth := 9) (implicitDefEqProofs := false) [*]

@[simp] theorem State.acceptContact_holds (position : Vec3 Lu) (s : State)
    (h : sound s.arm.st s.arm.energized s.arm.motion s.arm.stopping s.axes) :
    sound (s.acceptContact position).arm.st (s.acceptContact position).arm.energized (s.acceptContact position).arm.motion
      (s.acceptContact position).arm.stopping (s.acceptContact position).axes := by
  unfold State.acceptContact
  dsimp only
  split
  · next probing =>
    obtain ⟨m, moving⟩ : ∃ m, s.arm.motion = some m := by
      cases none_or : s.arm.motion <;> simp_all [State.probing]
    obtain ⟨on, up⟩ := State.on_of_motion h moving
    exact State.probingContact_holds _ _ on up
  · simp (maxDischargeDepth := 9) (implicitDefEqProofs := false) [h]

@[simp] theorem State.miss_holds (s : State) (h : sound s.arm.st s.arm.energized s.arm.motion s.arm.stopping s.axes) :
    sound s.miss.arm.st s.miss.arm.energized s.miss.arm.motion s.miss.arm.stopping s.miss.axes := by
  unfold State.miss
  (repeat' split) <;> simp (maxDischargeDepth := 9) (implicitDefEqProofs := false) [*]

@[simp] theorem State.countFalse_holds (s : State) (h : sound s.arm.st s.arm.energized s.arm.motion s.arm.stopping s.axes) :
    sound s.countFalse.arm.st s.countFalse.arm.energized s.countFalse.arm.motion s.countFalse.arm.stopping
      s.countFalse.axes := by
  unfold State.countFalse
  split
  · exact h
  · next moving =>
    obtain ⟨on, up⟩ := State.on_of_motion h moving
    dsimp only
    (repeat' split) <;> simp (maxDischargeDepth := 9) (implicitDefEqProofs := false) [on, up]

@[simp] theorem State.triggerTo_holds (high : Bool) (s : State)
    (h : sound s.arm.st s.arm.energized s.arm.motion s.arm.stopping s.axes) :
    sound (s.triggerTo high).arm.st (s.triggerTo high).arm.energized (s.triggerTo high).arm.motion (s.triggerTo high).arm.stopping
      (s.triggerTo high).axes := by
  unfold State.triggerTo
  dsimp only
  (repeat' split) <;> simp (maxDischargeDepth := 9) (implicitDefEqProofs := false) [*]

@[simp] theorem State.headInWindow_holds (seated : Bool) (s : State)
    (h : sound s.arm.st s.arm.energized s.arm.motion s.arm.stopping s.axes) :
    sound (s.headInWindow seated).arm.st (s.headInWindow seated).arm.energized (s.headInWindow seated).arm.motion
      (s.headInWindow seated).arm.stopping (s.headInWindow seated).axes := by
  unfold State.headInWindow
  (repeat' split) <;> simp (maxDischargeDepth := 9) (implicitDefEqProofs := false) [*]

@[simp] theorem State.headOutside_holds (seated : Bool) (s : State)
    (h : sound s.arm.st s.arm.energized s.arm.motion s.arm.stopping s.axes) :
    sound (s.headOutside seated).arm.st (s.headOutside seated).arm.energized (s.headOutside seated).arm.motion
      (s.headOutside seated).arm.stopping (s.headOutside seated).axes := by
  unfold State.headOutside
  dsimp only
  (repeat' split) <;> simp (maxDischargeDepth := 9) (implicitDefEqProofs := false) [h]

@[simp] theorem State.readForHead_holds (result : ReadResult) (s : State)
    (h : sound s.arm.st s.arm.energized s.arm.motion s.arm.stopping s.axes) :
    sound (s.readForHead result).arm.st (s.readForHead result).arm.energized (s.readForHead result).arm.motion
      (s.readForHead result).arm.stopping (s.readForHead result).axes := by
  unfold State.readForHead
  (repeat' split) <;> simp (maxDischargeDepth := 9) (implicitDefEqProofs := false) [*]

theorem State.changesEnded_holds (outcomes : List ChangeOutcome) (s : State)
    (h : sound s.arm.st s.arm.energized s.arm.motion s.arm.stopping s.axes) :
    sound (outcomes.foldl (fun s outcome => s.changeEnded outcome) s).arm.st
      (outcomes.foldl (fun s outcome => s.changeEnded outcome) s).arm.energized
      (outcomes.foldl (fun s outcome => s.changeEnded outcome) s).arm.motion
      (outcomes.foldl (fun s outcome => s.changeEnded outcome) s).arm.stopping
      (outcomes.foldl (fun s outcome => s.changeEnded outcome) s).axes := by
  induction outcomes generalizing s with
  | nil => exact h
  | cons o os ih => exact ih _ (by simp (maxDischargeDepth := 9) (implicitDefEqProofs := false) [h])

@[simp] theorem State.readForJudge_holds (result : ReadResult) (s : State)
    (h : sound s.arm.st s.arm.energized s.arm.motion s.arm.stopping s.axes) :
    sound (s.readForJudge result).arm.st (s.readForJudge result).arm.energized (s.readForJudge result).arm.motion
      (s.readForJudge result).arm.stopping (s.readForJudge result).axes := by
  unfold State.readForJudge
  exact State.changesEnded_holds _ _ (by simp (maxDischargeDepth := 9) (implicitDefEqProofs := false) [h])

@[simp] theorem State.readForChange_holds (result : ReadResult) (forChange : Bool) (s : State)
    (h : sound s.arm.st s.arm.energized s.arm.motion s.arm.stopping s.axes) :
    sound (s.readForChange result forChange).arm.st (s.readForChange result forChange).arm.energized
      (s.readForChange result forChange).arm.motion (s.readForChange result forChange).arm.stopping
      (s.readForChange result forChange).axes := by
  unfold State.readForChange
  (repeat' split) <;> simp (maxDischargeDepth := 9) (implicitDefEqProofs := false) [*]

@[simp] theorem State.probeAtTarget_holds (m : Motion) (s : State) (on : s.arm.energized = true) (up : s.arm.st ≠ .off) :
    sound (s.probeAtTarget m).arm.st (s.probeAtTarget m).arm.energized (s.probeAtTarget m).arm.motion
      (s.probeAtTarget m).arm.stopping (s.probeAtTarget m).axes := by
  unfold State.probeAtTarget
  (repeat' split) <;> simp (maxDischargeDepth := 9) (implicitDefEqProofs := false) [on, up]

@[simp] theorem State.heldAtStandstill_holds (held : Bool) (s : State)
    (h : sound s.arm.st s.arm.energized s.arm.motion s.arm.stopping s.axes) :
    sound (s.heldAtStandstill held).arm.st (s.heldAtStandstill held).arm.energized (s.heldAtStandstill held).arm.motion
      (s.heldAtStandstill held).arm.stopping (s.heldAtStandstill held).axes := by
  unfold State.heldAtStandstill
  (repeat' split) <;> simp (maxDischargeDepth := 9) (implicitDefEqProofs := false) [*]

@[simp] theorem State.keepBackOff_holds (m : Motion) (s : State)
    (h : sound s.arm.st s.arm.energized s.arm.motion s.arm.stopping s.axes) :
    sound (s.keepBackOff m).arm.st (s.keepBackOff m).arm.energized (s.keepBackOff m).arm.motion (s.keepBackOff m).arm.stopping
      (s.keepBackOff m).axes := by
  unfold State.keepBackOff
  (repeat' split) <;> simp (maxDischargeDepth := 9) (implicitDefEqProofs := false) [*]

@[simp] theorem State.stopEnded_holds (p : Stopping) (m : Motion) (s : State) (on : s.arm.energized = true) (up : s.arm.st ≠ .off)
    :
    sound (s.stopEnded p m).arm.st (s.stopEnded p m).arm.energized (s.stopEnded p m).arm.motion (s.stopEnded p m).arm.stopping
      (s.stopEnded p m).axes := by
  unfold State.stopEnded
  (repeat' split) <;> simp (maxDischargeDepth := 9) (implicitDefEqProofs := false) [*]

@[simp] theorem State.judgeTouches_holds (c : Image) (q : Qualification) (p : ProbeRecord) (s : State)
    (h : sound s.arm.st s.arm.energized s.arm.motion s.arm.stopping s.axes) :
    sound (s.judgeTouches c q p).arm.st (s.judgeTouches c q p).arm.energized (s.judgeTouches c q p).arm.motion
      (s.judgeTouches c q p).arm.stopping (s.judgeTouches c q p).axes := by
  unfold State.judgeTouches
  (repeat' split) <;> simp (maxDischargeDepth := 9) (implicitDefEqProofs := false) [*]

@[simp] theorem State.touchesDone_holds (c : Image) (q : Qualification) (s : State)
    (h : sound s.arm.st s.arm.energized s.arm.motion s.arm.stopping s.axes) :
    sound (s.touchesDone c q).arm.st (s.touchesDone c q).arm.energized (s.touchesDone c q).arm.motion
      (s.touchesDone c q).arm.stopping (s.touchesDone c q).axes := by
  unfold State.touchesDone
  (repeat' split) <;> simp (maxDischargeDepth := 9) (implicitDefEqProofs := false) [*]

@[simp] theorem State.touchDone_holds (s : State) (h : sound s.arm.st s.arm.energized s.arm.motion s.arm.stopping s.axes) :
    sound s.touchDone.arm.st s.touchDone.arm.energized s.touchDone.arm.motion s.touchDone.arm.stopping s.touchDone.axes := by
  unfold State.touchDone
  dsimp only
  (repeat' split) <;> simp (maxDischargeDepth := 9) (implicitDefEqProofs := false) [*]

@[simp] theorem State.arrive_holds (r : ReturnRecord) (s : State) (on : s.arm.energized = true) :
    sound (s.arrive r).arm.st (s.arrive r).arm.energized (s.arrive r).arm.motion (s.arrive r).arm.stopping (s.arrive r).axes := by
  unfold State.arrive
  dsimp only
  (repeat' split) <;> simp (maxDischargeDepth := 9) (implicitDefEqProofs := false) [*]

@[simp] theorem State.changeArrival_holds (m : ChangeMove) (s : State)
    (h : sound s.arm.st s.arm.energized s.arm.motion s.arm.stopping s.axes) :
    sound (s.changeArrival m).arm.st (s.changeArrival m).arm.energized (s.changeArrival m).arm.motion
      (s.changeArrival m).arm.stopping (s.changeArrival m).axes := by
  unfold State.changeArrival
  (repeat' split) <;> simp (maxDischargeDepth := 9) (implicitDefEqProofs := false) [*]

@[simp] theorem State.legEnded_holds (m : Motion) (q : Qualification) (s : State)
    (h : sound s.arm.st s.arm.energized s.arm.motion s.arm.stopping s.axes) :
    sound (s.legEnded m q).arm.st (s.legEnded m q).arm.energized (s.legEnded m q).arm.motion (s.legEnded m q).arm.stopping
      (s.legEnded m q).axes := by
  unfold State.legEnded
  dsimp only
  (repeat' split) <;> simp (maxDischargeDepth := 9) (implicitDefEqProofs := false) [*]

@[simp] theorem State.advanceSetpoints_holds (m : Motion) (s : State) (on : s.arm.energized = true) (up : s.arm.st ≠ .off) :
    sound (s.advanceSetpoints m).arm.st (s.advanceSetpoints m).arm.energized (s.advanceSetpoints m).arm.motion
      (s.advanceSetpoints m).arm.stopping (s.advanceSetpoints m).axes := by
  simp (maxDischargeDepth := 9) (implicitDefEqProofs := false) [State.advanceSetpoints, on, up]

@[simp] theorem State.tick_holds (s : State) (h : sound s.arm.st s.arm.energized s.arm.motion s.arm.stopping s.axes) :
    sound s.tick.arm.st s.tick.arm.energized s.tick.arm.motion s.tick.arm.stopping s.tick.axes := by
  unfold State.tick
  split
  · next moving =>
    obtain ⟨on, up⟩ := State.on_of_motion h moving
    split <;> simp (maxDischargeDepth := 9) (implicitDefEqProofs := false) [moving, on, up]
  · next moving => simpa [moving] using h

end Sys2Proof.Machine
end

section
/-! PROOF. Every step keeps the drives sound (`StepsKeepTheDrivesSound`): the rows by families, over the operations' lemmas. -/

namespace Sys2Proof.Machine

open Sys2Proof

/-- The state that a step goes on with, where it goes on with one, has the property. -/
def leadsTo (P : State → Prop) : Host.Outcome State Fault Refusal → Prop
  | .next t => P t
  | _ => True

@[simp] theorem leadsTo_next (P : State → Prop) (t : State) : leadsTo P (.next t) ↔ P t := Iff.rfl

/-- The drives' invariant, in the form in which the operations keep it. -/
def State.drivesSound (s : State) : Prop := sound s.arm.st s.arm.energized s.arm.motion s.arm.stopping s.axes

@[simp] theorem State.drivesSound_iff (s : State) :
    s.drivesSound ↔ sound s.arm.st s.arm.energized s.arm.motion s.arm.stopping s.axes := Iff.rfl

/-- A motion that runs runs with the drives ENERGIZED. -/
theorem State.on_of_running {s : State} {m : Motion} (h : s.drivesSound) (running : s.running = some m) :
    s.arm.energized = true ∧ s.arm.st ≠ .off := by
  unfold State.running at running
  split at running
  · exact State.on_of_motion h running
  · cases running

theorem State.on_of_seeking {s : State} {a : AxisName} (h : s.drivesSound) (seeking : s.seeking = some a) :
    s.arm.energized = true ∧ s.arm.st ≠ .off := by
  unfold State.seeking at seeking
  split at seeking
  · next homing =>
    have up : s.arm.st ≠ .off := by simp_all
    exact ⟨State.on_of_up h up, up⟩
  · cases seeking

theorem State.energize_holds (s : State) (h : s.drivesSound) :
    sound s.energize.arm.st s.energize.arm.energized s.energize.arm.motion s.energize.arm.stopping s.energize.axes := by
  unfold State.energize
  split
  · exact h
  · simp

/-- An arrival of a change move leaves the drives as they are. -/
@[simp] theorem State.changeArrival_drives (m : ChangeMove) (s : State) :
    (s.changeArrival m).arm.energized = s.arm.energized ∧ (s.changeArrival m).arm.st = s.arm.st := by
  unfold State.changeArrival
  (repeat' split) <;> simp

/-- A command row keeps the drives' invariant when its own effects do. -/
theorem State.command_drivesSound (sender : Station) (kind : Nat) (inFault lengthOk : Bool) (own : State → Taken) (s : State)
    (h : s.drivesSound) (effect : ∀ t : State, t.drivesSound → (own t).1.drivesSound) :
    (s.command sender kind inFault lengthOk own).drivesSound :=
  State.command_invariant sender kind inFault lengthOk own s h (fun t ht => by simpa using ht)
    (fun t r data ht => by simpa using ht) effect

theorem State.ask_drivesSound (code : Nat) (view : AskFields → State → Result × List ViewField) (sender : Station) (p : List Byte)
    (s : State) (h : s.drivesSound) : (s.ask code view sender p).drivesSound := by
  refine State.command_drivesSound _ _ _ _ _ s h fun t ht => ?_
  split <;> exact ht

/-- The rows of commands (Table 12-2). -/
theorem exec_command_drivesSound (c : Instr) (s : State) (command : c.header.isSome = true) (h : s.drivesSound) :
    leadsTo State.drivesSound (exec c s) := by
  cases c with
  | askStatus | askPosition | askChannel | askPeer | askProbe | askPoint | askQueue | askShare | askIdent =>
    exact State.ask_drivesSound _ _ _ _ s h
  | drivesOn =>
    refine State.command_drivesSound _ _ _ _ _ s h fun t ht => ?_
    unfold State.takeDrivesOn
    split
    · exact ht
    · exact State.finish_holds _ (t.energize_holds ht)
  | drivesOff =>
    refine State.command_drivesSound _ _ _ _ _ s h fun t ht => ?_
    exact State.finish_holds _ (by simp)
  | seg | go | hold | goOn | stop | home | change | qualify | probedef | reportmark | evmask | shadowOn
  | shadowOff | part | restart =>
    refine State.command_drivesSound _ _ _ _ _ s h fun t ht => ?_
    have ht := t.drivesSound_iff.1 ht
    simp (maxDischargeDepth := 9) (implicitDefEqProofs := false) [answer, ht]
  | _ => cases command

/-- The rows of frames on the line. -/
theorem exec_line_drivesSound (c : Instr) (s : State) (frame : lineRow c = true) (h : s.drivesSound) :
    leadsTo State.drivesSound (exec c s) := by
  have h := s.drivesSound_iff.1 h
  cases c with
  | lost | join | observedFoundingJoin | attach | leave | claim | withdraw | release | clear | slotSet | slotSense =>
    exact State.share_holds _ _ _ s h
  | foundingJoin =>
    simp only [exec, execFoundingJoin]
    split
    · exact State.share_holds _ _ _ s h
    · exact h
  | cellStop | snapshot | thermal | presence | otherFrameAccepted | receivedFrameVoid =>
    simp only [exec, execCellStop, execSnapshot, execThermal, execPresence, execOtherFrameAccepted, execReceivedFrameVoid]
    (repeat' split) <;> simp (maxDischargeDepth := 9) (implicitDefEqProofs := false) [h]
  | crcVeto | frameAbandoned | frameBegin | arbitrationLost | arbitrationWon | bitError | ownFrameAccepted | ownFrameVoid =>
    simp only [exec, execCrcVeto, execFrameAbandoned, execFrameBegin, execArbitrationLost, execArbitrationWon, execBitError,
      execOwnFrameAccepted, execOwnFrameVoid]
    (repeat' split) <;> simp (maxDischargeDepth := 9) (implicitDefEqProofs := false) [h]
  | _ => cases frame

/-- The rows that stand for the end of a time. -/
theorem exec_expiry_drivesSound (c : Instr) (s : State) (expiry : c.isExpiry = true) (h : s.drivesSound) :
    leadsTo State.drivesSound (exec c s) := by
  have h := s.drivesSound_iff.1 h
  cases c with
  | presenceTimerExpiry | peerSilence | isolation | joinWindowExpiry | joinWaitExpiry | quietEnd | leaveWaitEnd =>
    simp only [exec, execPresenceTimerExpiry, execPeerSilence, execIsolation, execJoinWindowExpiry, execJoinWaitExpiry,
      execQuietEnd, execLeaveWaitEnd]
    (repeat' split) <;> simp (maxDischargeDepth := 9) (implicitDefEqProofs := false) [h]
  | claimTimerExpiry | reportTimerExpiry | cadenceTimerExpiry | soakLimitExpiry | releaseTimeExpiry | seatTimeExpiry =>
    simp only [exec, execClaimTimerExpiry, execReportTimerExpiry, execCadenceTimerExpiry, execSoakLimitExpiry,
      execReleaseTimeExpiry, execSeatTimeExpiry]
    (repeat' split) <;> simp (maxDischargeDepth := 9) (implicitDefEqProofs := false) [h]
  | _ => cases expiry

theorem exec_trigger_drivesSound (c : Instr) (s : State) (trigger : c.movesTrigger = true) (h : s.drivesSound) :
    leadsTo State.drivesSound (exec c s) := by
  have h := s.drivesSound_iff.1 h
  cases c with
  | triggerEdge | triggerReturnUnasserted | falseTrigger =>
    simp only [exec, execTriggerEdge, execTriggerReturnUnasserted, execFalseTrigger]
    split <;> simp (maxDischargeDepth := 9) (implicitDefEqProofs := false) [h]
  | _ => cases trigger

/-- A change of one axis that keeps it level, where the drives are DE_ENERGIZED, keeps the drives' invariant. -/
theorem State.updateAxis_drivesSound (a : AxisName) (f : AxisChannel → AxisChannel) (s : State) (h : s.drivesSound)
    (even : ∀ ch : AxisChannel, s.arm.energized = false → ch.setpoint = ch.pos → (f ch).setpoint = (f ch).pos) :
    (s.updateAxis a f).drivesSound := by
  obtain ⟨off, rest, level⟩ := h
  refine ⟨off, rest, fun e => ?_⟩
  have level := level e
  have even := fun ch => even ch e
  cases a <;> simp_all [State.updateAxis, vmap, vset, vget]

theorem exec_axisInput_drivesSound (c : Instr) (s : State) (input : c.movesAxisInput = true) (h : s.drivesSound) :
    leadsTo State.drivesSound (exec c s) := by
  have quiet : ∀ (axis : AxisName) (f : AxisChannel → AxisChannel), (∀ ch, (f ch).setpoint = ch.setpoint ∧ (f ch).pos = ch.pos) →
      (s.updateAxis axis f).drivesSound := fun axis f same =>
    s.updateAxis_drivesSound axis f h fun ch _ level => by simp [same ch, level]
  cases c with
  | scaleStep axis forward =>
    refine s.updateAxis_drivesSound axis _ h fun ch off level => ?_
    cases config : s.config with
    | some c => simp [AxisChannel.follow, off]
    | none => exact level
  | scaleFaultCleared axis => exact quiet axis (fun a => { a with scaleFault := false }) fun _ => ⟨rfl, rfl⟩
  | hwLimitCleared axis side =>
    exact quiet axis _ fun ch => by cases side <;> exact ⟨rfl, rfl⟩
  | scaleFaultInput axis =>
    have same := (State.drivesSound_iff _).1 (quiet axis (fun a => { a with scaleFault := true }) fun _ => ⟨rfl, rfl⟩)
    simp only [exec, execScaleFaultInput]
    split
    · exact h
    · exact State.finish_holds _ (State.scaleFault_holds _ _ _ same)
  | hwLimitAsserted axis side =>
    have same := quiet axis (AxisChannel.setLimit side true) fun ch => by cases side <;> exact ⟨rfl, rfl⟩
    simp only [exec, execHwLimitAsserted]
    split
    · exact h
    · split
      · exact State.finish_holds _ (by simp)
      · exact same
  | _ => cases input

/-- The other rows of axes, motions, probes and temperatures. -/
theorem exec_site_drivesSound (c : Instr) (s : State) (site : siteRow c = true) (h : s.drivesSound) :
    leadsTo State.drivesSound (exec c s) := by
  have hs := s.drivesSound_iff.1 h
  cases c with
  | scaleCountFault axis =>
    exact State.finish_holds _ (State.scaleFault_holds _ _ _ hs)
  | conversionEnd | scanCompletion | contactAccepted | idReadEnd | lockPulseEnd =>
    simp only [exec, execConversionEnd, execScanCompletion, execContactAccepted, execIdReadEnd, execLockPulseEnd]
    (repeat' split) <;> simp (maxDischargeDepth := 9) (implicitDefEqProofs := false) [hs]
  | referenceMark axis =>
    simp only [exec, execReferenceMark]
    split
    · split
      · next seeking =>
        obtain ⟨on, up⟩ := State.on_of_seeking (a := axis) h (by simp_all)
        simp [on, up]
      · exact h
    · exact h
  | seekEnd beyond =>
    simp only [exec, execSeekEnd]
    split
    · next seeking _ =>
      obtain ⟨on, up⟩ := State.on_of_seeking h seeking
      split
      · simp (maxDischargeDepth := 9) (implicitDefEqProofs := false) [on, up]
      · exact h
    · exact h
  | followingError axis since =>
    have moved := s.atLoopStep_holds since hs
    simp only [exec, execFollowingError]
    split
    · split
      · exact State.finish_holds _ (by simp)
      · exact h
    · exact h
  | dwellEnd =>
    simp only [exec, execDwellEnd]
    (repeat' split) <;> simp (maxDischargeDepth := 9) (implicitDefEqProofs := false) [hs]
  | controlledStopEnd further =>
    simp only [exec, execControlledStopEnd]
    split
    · next stopping _ =>
      obtain ⟨on, up⟩ := State.on_of_stopping hs stopping
      simp (maxDischargeDepth := 9) (implicitDefEqProofs := false) [on, up]
    · exact h
  | travelComplete | backOffEnd | excursionArrival | returnMoveEnd | changeMoveArrival | transferLegEnd =>
    simp only [exec, execTravelComplete, execBackOffEnd, execExcursionArrival, execReturnMoveEnd,
      execChangeMoveArrival, execTransferLegEnd]
    cases running : s.running with
    | none => exact h
    | some m =>
      obtain ⟨on, up⟩ := State.on_of_running h running
      (repeat' split) <;> simp (maxDischargeDepth := 9) (implicitDefEqProofs := false) [on, up]
  | _ => cases site

/-- The rows of a start, of the input filters and of ESTOP. -/
theorem exec_start_drivesSound (c : Instr) (s : State) (start : c.starts = true) (h : s.drivesSound) :
    leadsTo State.drivesSound (exec c s) := by
  have hs := s.drivesSound_iff.1 h
  cases c with
  | coldReset straps => exact ⟨⟨fun _ => rfl, fun _ => rfl⟩, fun _ => ⟨rfl, rfl⟩, fun _ => rfl⟩
  | configLoadEnd memory headHigh slotInputs =>
    simp only [exec, execConfigLoadEnd]
    split
    · exact State.loadEnded_holds _ _ _ _ s hs
    · exact h
  | _ => cases start

theorem exec_filter_drivesSound (c : Instr) (s : State) (h : s.drivesSound) (filter : (∃ seated, c = .headFilterEnd seated) ∨
    ∃ slot present, c = .slotFilterEnd slot present) :
    leadsTo State.drivesSound (exec c s) := by
  have hs := s.drivesSound_iff.1 h
  rcases filter with ⟨seated, rfl⟩ | ⟨slot, present, rfl⟩
  all_goals
    simp only [exec, execHeadFilterEnd, execSlotFilterEnd]
    (repeat' split) <;> simp (maxDischargeDepth := 9) (implicitDefEqProofs := false) [hs]

/-- ESTOP leaves the drives DE_ENERGIZED and the setpoints at the positions (R12). -/
theorem exec_estop_drivesSound (s : State) (h : s.drivesSound) : leadsTo State.drivesSound (exec .estop s) := by
  simp only [exec, execEstop]
  split
  · exact h
  · exact State.finish_holds _ (by simp)

theorem exec_drivesSound (c : Instr) (s t : State) (h : s.drivesSound) (step : exec c s = .next t) : t.drivesSound := by
  have row (kept : leadsTo State.drivesSound (exec c s)) : t.drivesSound := by rwa [step] at kept
  cases c with
  | coldReset | configLoadEnd => exact row (exec_start_drivesSound _ s rfl h)
  | headFilterEnd seated => exact row (exec_filter_drivesSound _ s h (.inl ⟨seated, rfl⟩))
  | slotFilterEnd slot present => exact row (exec_filter_drivesSound _ s h (.inr ⟨slot, present, rfl⟩))
  | estop => exact row (exec_estop_drivesSound s h)
  | estopCleared => exact row h
  | seg | go | hold | goOn | stop | home | drivesOn | drivesOff | change | qualify | probedef | part | reportmark | evmask
  | shadowOn | shadowOff | askStatus | askPosition | askChannel | askPeer | askProbe | askPoint | askQueue | askShare
  | askIdent | restart =>
    exact row (exec_command_drivesSound _ s rfl h)
  | presenceTimerExpiry | peerSilence | isolation | joinWindowExpiry | joinWaitExpiry | quietEnd | leaveWaitEnd
  | claimTimerExpiry | reportTimerExpiry | cadenceTimerExpiry | soakLimitExpiry | releaseTimeExpiry | seatTimeExpiry =>
    exact row (exec_expiry_drivesSound _ s rfl h)
  | triggerEdge | triggerReturnUnasserted | falseTrigger => exact row (exec_trigger_drivesSound _ s rfl h)
  | scaleStep | scaleFaultInput | scaleFaultCleared | hwLimitAsserted | hwLimitCleared =>
    exact row (exec_axisInput_drivesSound _ s rfl h)
  | cellStop | lost | join | foundingJoin | observedFoundingJoin | attach | leave | claim | withdraw | release | clear | slotSet
  | slotSense | snapshot | thermal | presence | otherFrameAccepted | receivedFrameVoid | crcVeto | frameAbandoned | frameBegin
  | arbitrationLost | arbitrationWon | bitError | ownFrameAccepted | ownFrameVoid =>
    exact row (exec_line_drivesSound _ s rfl h)
  | scaleCountFault | referenceMark | seekEnd | followingError | conversionEnd | scanCompletion | dwellEnd | contactAccepted
  | idReadEnd | lockPulseEnd | travelComplete | controlledStopEnd | backOffEnd | excursionArrival | returnMoveEnd
  | changeMoveArrival | transferLegEnd =>
    exact row (exec_site_drivesSound _ s rfl h)

/-! Drives that are off stay off through every row but that of DRIVES on. -/

/-- The drives are DE_ENERGIZED. -/
def State.drivesOff (s : State) : Prop := s.arm.energized = false

@[simp] theorem State.drivesOff_iff (s : State) : s.drivesOff ↔ s.arm.energized = false := Iff.rfl

theorem exec_command_drivesOff (c : Instr) (s : State) (command : c.header.isSome = true)
    (other : ∀ sender payload, c ≠ .drivesOn sender payload) (h : s.drivesOff) : leadsTo State.drivesOff (exec c s) := by
  cases c with
  | drivesOn sender payload => exact absurd rfl (other sender payload)
  | askStatus | askPosition | askChannel | askPeer | askProbe | askPoint | askQueue | askShare | askIdent =>
    exact State.ask_off _ _ _ _ s h
  | seg | go | hold | goOn | stop | home | drivesOff | change | qualify | probedef | reportmark | evmask | shadowOn
  | shadowOff | part | restart =>
    refine State.command_off _ _ _ _ _ s (fun t ht => ?_) h
    simp (maxDischargeDepth := 9) [answer, ht]
  | _ => cases command

theorem exec_line_drivesOff (c : Instr) (s : State) (frame : lineRow c = true) (h : s.drivesOff) :
    leadsTo State.drivesOff (exec c s) := by
  have hs := s.drivesOff_iff.1 h
  cases c with
  | lost | join | observedFoundingJoin | attach | leave | claim | withdraw | release | clear | slotSet | slotSense =>
    exact State.share_off _ _ _ s h
  | foundingJoin =>
    simp only [exec, execFoundingJoin]
    split
    · exact State.share_off _ _ _ s h
    · exact h
  | cellStop | snapshot | thermal | presence | otherFrameAccepted | receivedFrameVoid =>
    simp only [exec, execCellStop, execSnapshot, execThermal, execPresence, execOtherFrameAccepted, execReceivedFrameVoid]
    (repeat' split) <;> simp (maxDischargeDepth := 9) [hs]
  | crcVeto | frameAbandoned | frameBegin | arbitrationLost | arbitrationWon | bitError | ownFrameAccepted | ownFrameVoid =>
    simp only [exec, execCrcVeto, execFrameAbandoned, execFrameBegin, execArbitrationLost, execArbitrationWon, execBitError,
      execOwnFrameAccepted, execOwnFrameVoid]
    (repeat' split) <;> simp (maxDischargeDepth := 9) [hs]
  | _ => cases frame

theorem exec_expiry_drivesOff (c : Instr) (s : State) (expiry : c.isExpiry = true) (h : s.drivesOff) :
    leadsTo State.drivesOff (exec c s) := by
  have hs := s.drivesOff_iff.1 h
  cases c with
  | presenceTimerExpiry | peerSilence | isolation | joinWindowExpiry | joinWaitExpiry | quietEnd | leaveWaitEnd =>
    simp only [exec, execPresenceTimerExpiry, execPeerSilence, execIsolation, execJoinWindowExpiry, execJoinWaitExpiry,
      execQuietEnd, execLeaveWaitEnd]
    (repeat' split) <;> simp (maxDischargeDepth := 9) [hs]
  | claimTimerExpiry | reportTimerExpiry | cadenceTimerExpiry | soakLimitExpiry | releaseTimeExpiry | seatTimeExpiry =>
    simp only [exec, execClaimTimerExpiry, execReportTimerExpiry, execCadenceTimerExpiry, execSoakLimitExpiry,
      execReleaseTimeExpiry, execSeatTimeExpiry]
    (repeat' split) <;> simp (maxDischargeDepth := 9) [hs]
  | _ => cases expiry

theorem exec_input_drivesOff (c : Instr) (s : State) (input : (c.movesTrigger || c.movesAxisInput) = true) (h : s.drivesOff) :
    leadsTo State.drivesOff (exec c s) := by
  have hs := s.drivesOff_iff.1 h
  cases c with
  | triggerEdge | triggerReturnUnasserted | falseTrigger =>
    simp only [exec, execTriggerEdge, execTriggerReturnUnasserted, execFalseTrigger]
    split <;> simp (maxDischargeDepth := 9) [hs]
  | scaleStep | scaleFaultInput | scaleFaultCleared | hwLimitAsserted | hwLimitCleared =>
    simp only [exec, execScaleStep, execScaleFaultInput, execScaleFaultCleared, execHwLimitAsserted, execHwLimitCleared]
    (repeat' split) <;> simp (maxDischargeDepth := 9) [hs]
  | _ => cases input

theorem exec_site_drivesOff (c : Instr) (s : State) (site : siteRow c = true) (h : s.drivesOff) :
    leadsTo State.drivesOff (exec c s) := by
  have hs := s.drivesOff_iff.1 h
  cases c with
  | scaleCountFault | conversionEnd | scanCompletion | contactAccepted | idReadEnd | lockPulseEnd | referenceMark | seekEnd
  | followingError | dwellEnd =>
    simp only [exec, execScaleCountFault, execConversionEnd, execScanCompletion, execContactAccepted, execIdReadEnd,
      execLockPulseEnd, execReferenceMark, execSeekEnd, execFollowingError, execDwellEnd]
    (repeat' split) <;> simp (maxDischargeDepth := 9) [hs]
  | travelComplete | controlledStopEnd | backOffEnd | excursionArrival | returnMoveEnd | changeMoveArrival | transferLegEnd =>
    simp only [exec, execTravelComplete, execControlledStopEnd, execBackOffEnd, execExcursionArrival, execReturnMoveEnd,
      execChangeMoveArrival, execTransferLegEnd]
    (repeat' split) <;> simp (maxDischargeDepth := 9) [hs]
  | _ => cases site

theorem exec_block_drivesOff (c : Instr) (s : State) (h : s.drivesOff)
    (block : c.starts = true ∨ c = .estop ∨ c = .estopCleared ∨ (∃ seated, c = .headFilterEnd seated) ∨
      ∃ slot present, c = .slotFilterEnd slot present) :
    leadsTo State.drivesOff (exec c s) := by
  have hs := s.drivesOff_iff.1 h
  cases c with
  | coldReset => rfl
  | estopCleared => exact h
  | configLoadEnd | estop | headFilterEnd | slotFilterEnd =>
    simp only [exec, execConfigLoadEnd, execEstop, execHeadFilterEnd, execSlotFilterEnd]
    (repeat' split) <;> simp (maxDischargeDepth := 9) [hs]
  | _ => simp [Instr.starts] at block

theorem exec_drivesOff (c : Instr) (s t : State) (h : s.drivesOff) (other : ∀ sender payload, c ≠ .drivesOn sender payload)
    (step : exec c s = .next t) : t.drivesOff := by
  have row (kept : leadsTo State.drivesOff (exec c s)) : t.drivesOff := by rwa [step] at kept
  cases c with
  | coldReset | configLoadEnd | headFilterEnd | slotFilterEnd | estop | estopCleared =>
    exact row (exec_block_drivesOff _ s h (by simp [Instr.starts]))
  | seg | go | hold | goOn | stop | home | drivesOn | drivesOff | change | qualify | probedef | part | reportmark | evmask
  | shadowOn | shadowOff | askStatus | askPosition | askChannel | askPeer | askProbe | askPoint | askQueue | askShare
  | askIdent | restart =>
    exact row (exec_command_drivesOff _ s rfl other h)
  | presenceTimerExpiry | peerSilence | isolation | joinWindowExpiry | joinWaitExpiry | quietEnd | leaveWaitEnd
  | claimTimerExpiry | reportTimerExpiry | cadenceTimerExpiry | soakLimitExpiry | releaseTimeExpiry | seatTimeExpiry =>
    exact row (exec_expiry_drivesOff _ s rfl h)
  | triggerEdge | triggerReturnUnasserted | falseTrigger | scaleStep | scaleFaultInput | scaleFaultCleared | hwLimitAsserted
  | hwLimitCleared =>
    exact row (exec_input_drivesOff _ s rfl h)
  | cellStop | lost | join | foundingJoin | observedFoundingJoin | attach | leave | claim | withdraw | release | clear | slotSet
  | slotSense | snapshot | thermal | presence | otherFrameAccepted | receivedFrameVoid | crcVeto | frameAbandoned | frameBegin
  | arbitrationLost | arbitrationWon | bitError | ownFrameAccepted | ownFrameVoid =>
    exact row (exec_line_drivesOff _ s rfl h)
  | scaleCountFault | referenceMark | seekEnd | followingError | conversionEnd | scanCompletion | dwellEnd | contactAccepted
  | idReadEnd | lockPulseEnd | travelComplete | controlledStopEnd | backOffEnd | excursionArrival | returnMoveEnd
  | changeMoveArrival | transferLegEnd =>
    exact row (exec_site_drivesOff _ s rfl h)

/-- Settles O57: by the rows, and a millisecond moves the setpoints of a motion alone, which runs with the drives ENERGIZED. -/
theorem stepsKeepTheDrivesSound : Obligations.StepsKeepTheDrivesSound := by
  refine ⟨fun s t h step => ?_, fun s t h other step => ?_⟩
  · have sounds := s.drivesHold_iff.1 h
    refine t.drivesHold_iff.2 ?_
    unfold Machine.step at step
    split at step
    · next c rest queue => exact exec_drivesSound c { s with pending := rest } t sounds step
    · cases step
      exact s.tick_holds sounds
  · unfold Machine.step at step
    split at step
    · next c rest queue =>
      exact exec_drivesOff c { s with pending := rest } t h
        (fun sender payload same => other sender payload rest (by rw [queue, same])) step
    · cases step
      exact s.tick_off h

end Sys2Proof.Machine
end

section
/-! PROOF. What each operation keeps of the places of the mailboxes, the queue, the stack, the probe table, the capture ring, the
  event
set and the join unit's logs (R53, R54, R112, R18, R135, R96, R109, R86): one lemma per operation that touches one of them, as
implications that `simp` chains. -/

namespace Sys2Proof.Machine

open Sys2Proof

/-- No mailbox, queue, stack or log of `t` outgrows its places where the one of `s` does not. -/
abbrev keepsRoom (s t : State) : Prop :=
  (s.line.m1.length ≤ 8 → t.line.m1.length ≤ 8) ∧ (s.line.m2.length ≤ 5 → t.line.m2.length ≤ 5) ∧
  (s.line.points ≤ 2 → t.line.points ≤ 2) ∧ (s.run.queue.length ≤ 16 → t.run.queue.length ≤ 16) ∧
  (s.run.stack.length ≤ 3 → t.run.stack.length ≤ 3) ∧ (s.probes.length ≤ 8 → t.probes.length ≤ 8) ∧
  (s.cap.ring.length ≤ 64 → t.cap.ring.length ≤ 64) ∧ (s.events.slots.length = 12 → t.events.slots.length = 12) ∧
  (s.join.log.length ≤ 32 → t.join.log.length ≤ 32) ∧ (s.join.presences.length ≤ 64 → t.join.presences.length ≤ 64)

theorem keepsRoom_refl (s : State) : keepsRoom s s := by
  simp [keepsRoom]

theorem keepsRoom_trans {s t u : State} (first : keepsRoom s t) (second : keepsRoom t u) : keepsRoom s u := by
  obtain ⟨m1, m2, points, queue, stack, probes, ring, slots, log, presences⟩ := first
  obtain ⟨m1', m2', points', queue', stack', probes', ring', slots', log', presences'⟩ := second
  exact ⟨m1' ∘ m1, m2' ∘ m2, points' ∘ points, queue' ∘ queue, stack' ∘ stack, probes' ∘ probes, ring' ∘ ring, slots' ∘ slots,
    log' ∘ log, presences' ∘ presences⟩

theorem foldl_keepsRoom {α : Type} (f : α → State → State) (fits : ∀ a s, keepsRoom s (f a s)) (l : List α) (s t : State)
    (start : keepsRoom s t) : keepsRoom s (l.foldl (fun s a => f a s) t) := by
  induction l generalizing t with
  | nil => exact start
  | cons a l ih => exact ih _ (keepsRoom_trans start (fits a t))

@[simp] theorem State.emit_fits (e : Event) (s : State) : keepsRoom s (s.emit e) := by
  unfold State.emit
  (repeat' split) <;> simp (maxDischargeDepth := 9) (implicitDefEqProofs := false) +contextual [keepsRoom]

@[simp] theorem State.raiseAt_fits (r : FaultReport) (position : Vec3 Lu) (s : State) : keepsRoom s (s.raiseAt r position) := by
  unfold State.raiseAt
  simp (maxDischargeDepth := 9) (implicitDefEqProofs := false) +contextual [keepsRoom]

@[simp] theorem State.raise_fits (r : FaultReport) (s : State) : keepsRoom s (s.raise r) := by
  unfold State.raise
  simp (maxDischargeDepth := 9) (implicitDefEqProofs := false) +contextual [keepsRoom]

@[simp] theorem State.pushM1_fits (e : M1Entry) (s : State) : keepsRoom s (s.pushM1 e) := by
  unfold State.pushM1
  split
  next room =>
    simp only [keepsRoom, List.length_append, List.length_singleton, imp_self, and_true]
    omega
  next => exact keepsRoom_refl s

theorem mergeTail_length (onLine : Bool) (items : ItemSet) (l m1 : List M1Entry) (h : mergeTail onLine items l = some m1) :
    m1.length = l.length := by
  fun_induction mergeTail onLine items l generalizing m1 with
  | case1 => cases h
  | case2 => cases h
  | case3 =>
    cases h
    rfl
  | case4 => cases h
  | case5 onLine e rest _ _ ih =>
    obtain ⟨tail, merged, rfl⟩ := Option.map_eq_some_iff.1 h
    simp [ih tail merged]

@[simp] theorem State.queueRelease_fits (items : ItemSet) (s : State) : keepsRoom s (s.queueRelease items) := by
  unfold State.queueRelease
  split
  · simp [keepsRoom]
  · split
    · next merged => simp [keepsRoom, mergeTail_length _ _ _ _ merged]
    · exact s.pushM1_fits _

@[simp] theorem State.releaseOutside_fits (zones : ZoneSet) (s : State) : keepsRoom s (s.releaseOutside zones) := by
  unfold State.releaseOutside
  simp (maxDischargeDepth := 9) (implicitDefEqProofs := false) +contextual [keepsRoom]

/-- What of M1 is on the line and what waits behind it are M1 together. -/
theorem length_kept_waiting (onLine : Bool) (l : List M1Entry) :
    (if onLine then l.take 1 else []).length + (if onLine then l.drop 1 else l).length = l.length := by
  cases onLine <;> simp
  omega

@[simp] theorem State.removeM1_fits (p : M1Entry → Bool) (s : State) : keepsRoom s (s.removeM1 p) := by
  have parts := length_kept_waiting s.m1OnLine s.line.m1
  have waiting := List.length_eraseP_le (p := p) (l := if s.m1OnLine then s.line.m1.drop 1 else s.line.m1)
  unfold State.removeM1
  simp only [keepsRoom, List.length_append, imp_self, and_true]
  omega

@[simp] theorem State.removeAllM1_fits (p : M1Entry → Bool) (s : State) : keepsRoom s (s.removeAllM1 p) := by
  have parts := length_kept_waiting s.m1OnLine s.line.m1
  have waiting := List.length_filter_le (fun e => !p e) (if s.m1OnLine then s.line.m1.drop 1 else s.line.m1)
  unfold State.removeAllM1
  simp only [keepsRoom, List.length_append, imp_self, and_true]
  omega

@[simp] theorem rewriteFirst_length (p : M1Entry → Bool) (e : M1Entry) (l : List M1Entry) :
    (rewriteFirst p e l).length = l.length := by
  induction l with
  | nil => rfl
  | cons a l ih =>
    unfold rewriteFirst
    split <;> simp [ih]

@[simp] theorem State.rewriteM1_fits (p : M1Entry → Bool) (e : M1Entry) (s : State) : keepsRoom s (s.rewriteM1 p e) := by
  have parts := length_kept_waiting s.m1OnLine s.line.m1
  unfold State.rewriteM1
  simp only [keepsRoom, List.length_append, rewriteFirst_length, imp_self, and_true]
  omega

@[simp] theorem State.rewriteLastM1_fits (p : M1Entry → Bool) (e : M1Entry) (s : State) :
    keepsRoom s (s.rewriteLastM1 p e) := by
  have parts := length_kept_waiting s.m1OnLine s.line.m1
  unfold State.rewriteLastM1
  simp only [keepsRoom, List.length_append, List.length_reverse, rewriteFirst_length, imp_self, and_true]
  omega

@[simp] theorem State.updateProbe_fits (id : ProbeId) (f : ProbeRecord → ProbeRecord) (s : State) : keepsRoom s
    (s.updateProbe id f) := by
  unfold State.updateProbe
  simp (maxDischargeDepth := 9) (implicitDefEqProofs := false) +contextual [keepsRoom]

@[simp] theorem State.newClaim_fits (r : Requester) (wanted missing : ItemSet) (s : State) : keepsRoom s
    (s.newClaim r wanted missing) := by
  unfold State.newClaim
  dsimp only
  simp (maxDischargeDepth := 9) (implicitDefEqProofs := false) +contextual [keepsRoom]

@[simp] theorem State.takeOver_fits (c : CurrentClaim) (r : Requester) (wanted missing : ItemSet) (s : State) : keepsRoom s
    (s.takeOver c r wanted missing) := by
  unfold State.takeOver
  dsimp only
  (repeat' split) <;> simp (maxDischargeDepth := 9) (implicitDefEqProofs := false) +contextual [keepsRoom]

@[simp] theorem State.request_fits (r : Requester) (wanted : ItemSet) (s : State) : keepsRoom s (s.request r wanted).1 := by
  unfold State.request
  dsimp only
  (repeat' split) <;> simp (maxDischargeDepth := 9) (implicitDefEqProofs := false) +contextual [keepsRoom]

@[simp] theorem State.endFrames_fits (items : ItemSet) (serial : Nat) (s : State) : keepsRoom s (s.endFrames items serial) := by
  unfold State.endFrames
  dsimp only
  (repeat' split) <;> simp (maxDischargeDepth := 9) (implicitDefEqProofs := false) +contextual [keepsRoom]

@[simp] theorem State.dropClaim_fits (s : State) : keepsRoom s s.dropClaim := by
  unfold State.dropClaim
  dsimp only
  (repeat' split) <;> simp (maxDischargeDepth := 9) (implicitDefEqProofs := false) +contextual [keepsRoom]

@[simp] theorem State.returnGrant_fits (r : RetiredClaim) (granted : ItemSet) (s : State) : keepsRoom s (s.returnGrant r granted)
    := by
  unfold State.returnGrant
  dsimp only
  simp (maxDischargeDepth := 9) (implicitDefEqProofs := false) +contextual [keepsRoom]

@[simp] theorem State.claimHeld_fits (c : CurrentClaim) (s : State) : keepsRoom s (s.claimHeld c).1 := by
  unfold State.claimHeld
  dsimp only
  (repeat' split) <;> simp (maxDischargeDepth := 9) (implicitDefEqProofs := false) +contextual [keepsRoom]

@[simp] theorem State.claimAgain_fits (c : CurrentClaim) (s : State) : keepsRoom s (s.claimAgain c) := by
  unfold State.claimAgain
  dsimp only
  (repeat' split) <;> simp (maxDischargeDepth := 9) (implicitDefEqProofs := false) +contextual [keepsRoom]

@[simp] theorem State.retiredApplied_fits (r : RetiredClaim) (granted : ItemSet) (entry : Bool) (s : State) : keepsRoom s
    (s.retiredApplied r granted entry) := by
  unfold State.retiredApplied
  (repeat' split) <;> simp (maxDischargeDepth := 9) (implicitDefEqProofs := false) +contextual [keepsRoom]

@[simp] theorem State.currentApplied_fits (c : CurrentClaim) (table : Table) (s : State) : keepsRoom s
    (s.currentApplied c table).1 := by
  unfold State.currentApplied
  (repeat' split) <;> simp (maxDischargeDepth := 9) (implicitDefEqProofs := false) +contextual [keepsRoom]

@[simp] theorem State.ownClaimApplied_fits (table : Table) (granted : List ClaimEntry) (s : State) : keepsRoom s
    (s.ownClaimApplied table granted).1 := by
  unfold State.ownClaimApplied
  dsimp only
  (repeat' split) <;> simp (maxDischargeDepth := 9) (implicitDefEqProofs := false) +contextual [keepsRoom]

@[simp] theorem State.grantApplied_fits (table : Table) (granted : List ClaimEntry) (s : State) : keepsRoom s
    (s.grantApplied table granted).1 := by
  unfold State.grantApplied
  dsimp only
  (repeat' split) <;> simp (maxDischargeDepth := 9) (implicitDefEqProofs := false) +contextual [keepsRoom]

@[simp] theorem State.agentApplied_fits (p : Station) (f : ShareFrame) (table : Table) (granted : List ClaimEntry)
    (s : State) : keepsRoom s (s.agentApplied p f table granted).1 := by
  unfold State.agentApplied
  cases f with
  | claim items =>
    dsimp only
    split
    · exact s.ownClaimApplied_fits table granted
    · exact s.grantApplied_fits table granted
  | withdraw =>
    dsimp only
    split
    · exact s.grantApplied_fits table granted
    · exact s.grantApplied_fits table granted
  | _ => exact s.grantApplied_fits table granted

@[simp] theorem State.judgeStale_fits (arm : Option Temp) (s : State) : keepsRoom s (s.judgeStale arm) := by
  unfold State.judgeStale
  (repeat' split) <;> simp (maxDischargeDepth := 9) (implicitDefEqProofs := false) +contextual [keepsRoom]

@[simp] theorem State.fillThermal_fits (content : ThermalContent) (s : State) : keepsRoom s (s.fillThermal content) := by
  unfold State.fillThermal
  (repeat' split) <;> simp (maxDischargeDepth := 9) (implicitDefEqProofs := false) +contextual [keepsRoom]

@[simp] theorem State.measure_fits (c : Image) (results : List (Nat × Judged)) (s : State) : keepsRoom s (s.measure c results) := by
  unfold State.measure
  dsimp only
  (repeat' split) <;> simp (maxDischargeDepth := 9) (implicitDefEqProofs := false) +contextual [keepsRoom]

@[simp] theorem State.afterSettle_fits (c : Image) (s : State) : keepsRoom s (s.afterSettle c) := by
  unfold State.afterSettle
  simp (maxDischargeDepth := 9) (implicitDefEqProofs := false) +contextual [keepsRoom]

/-- A POINTS frame names two points at most (R112). -/
theorem pointsNamed_le (ring : List Point) : pointsNamed ring ≤ 2 := by
  unfold pointsNamed
  (repeat' split) <;> omega

@[simp] theorem State.decideReport_fits (s : State) : keepsRoom s s.decideReport := by
  unfold State.decideReport
  (repeat' split) <;> simp [keepsRoom, pointsNamed_le]

@[simp] theorem State.drainRing_fits (s : State) : keepsRoom s s.drainRing := by
  unfold State.drainRing
  simp (maxDischargeDepth := 9) (implicitDefEqProofs := false) +contextual [keepsRoom]

@[simp] theorem State.dropPoints_fits (n : Nat) (s : State) : keepsRoom s (s.dropPoints n) := by
  simp only [State.dropPoints, keepsRoom, List.length_drop, imp_self, true_and, and_true]
  omega

@[simp] theorem State.buildPoint_fits (raw : Vec3 Lu) (s : State) : keepsRoom s (s.buildPoint raw) := by
  unfold State.buildPoint
  split
  · split
    · split
      next => exact keepsRoom_refl s
      next few =>
        refine keepsRoom_trans ?_ (State.decideReport_fits _)
        simp only [keepsRoom, List.length_append, List.length_singleton, imp_self, true_and, and_true]
        omega
    · exact keepsRoom_refl s
  · exact keepsRoom_refl s

@[simp] theorem State.flush_fits (s : State) : keepsRoom s s.flush := by
  unfold State.flush
  simp (maxDischargeDepth := 9) (implicitDefEqProofs := false) +contextual [keepsRoom]

@[simp] theorem State.endRun_fits (reason : RunEndReason) (reasonByte : Byte) (s : State) :
    keepsRoom s (s.endRun reason reasonByte) := by
  unfold State.endRun
  dsimp only
  (repeat' split) <;> simp (maxDischargeDepth := 9) (implicitDefEqProofs := false) +contextual [keepsRoom, Run.cold]

@[simp] theorem State.changeEnded_fits (outcome : ChangeOutcome) (s : State) : keepsRoom s (s.changeEnded outcome) := by
  unfold State.changeEnded
  simp (maxDischargeDepth := 9) (implicitDefEqProofs := false) +contextual [keepsRoom]

@[simp] theorem State.judgeHead_fits (outcome : ChangeOutcome) (s : State) : keepsRoom s (s.judgeHead outcome) := by
  unfold State.judgeHead
  (repeat' split) <;> simp (maxDischargeDepth := 9) (implicitDefEqProofs := false) +contextual [keepsRoom]

@[simp] theorem State.closeWindows_fits (s : State) : keepsRoom s s.closeWindows := by
  unfold State.closeWindows
  dsimp only
  refine foldl_keepsRoom (fun (w : Nat × ChangeOutcome) s => s.judgeHead w.2) (fun w s => s.judgeHead_fits w.2) _ _ _ ?_
  simp [keepsRoom]

@[simp] theorem State.askPulse_fits (kind : PulseKind) (r : ChangeRecord) (s : State) : keepsRoom s (s.askPulse kind r) := by
  unfold State.askPulse
  simp (maxDischargeDepth := 9) (implicitDefEqProofs := false) +contextual [keepsRoom]

@[simp] theorem State.discardWaiting_fits (s : State) : keepsRoom s s.discardWaiting := by
  unfold State.discardWaiting
  simp (maxDischargeDepth := 9) (implicitDefEqProofs := false) +contextual [keepsRoom]

@[simp] theorem State.endChange_fits (outcome : ChangeOutcome) (r : ChangeRecord) (s : State) : keepsRoom s
    (s.endChange outcome r) := by
  unfold State.endChange
  dsimp only
  (repeat' split) <;> simp (maxDischargeDepth := 9) (implicitDefEqProofs := false) +contextual [keepsRoom]

@[simp] theorem State.changeDone_fits (s : State) : keepsRoom s s.changeDone := by
  unfold State.changeDone
  dsimp only
  (repeat' split) <;> simp (maxDischargeDepth := 9) (implicitDefEqProofs := false) +contextual [keepsRoom]

@[simp] theorem State.abortChange_fits (s : State) : keepsRoom s s.abortChange := by
  unfold State.abortChange
  dsimp only
  (repeat' split) <;> simp (maxDischargeDepth := 9) (implicitDefEqProofs := false) +contextual [keepsRoom]

@[simp] theorem State.failChange_fits (s : State) : keepsRoom s s.failChange := by
  unfold State.failChange
  (repeat' split) <;> simp (maxDischargeDepth := 9) (implicitDefEqProofs := false) +contextual [keepsRoom]

@[simp] theorem State.endQualification_fits (outcome : QualOutcome) (s : State) : keepsRoom s (s.endQualification outcome) := by
  unfold State.endQualification
  (repeat' split) <;> simp (maxDischargeDepth := 9) (implicitDefEqProofs := false) +contextual [keepsRoom]

@[simp] theorem State.discardExcursions_fits (outcome : QualOutcome) (s : State) : keepsRoom s (s.discardExcursions outcome) := by
  unfold State.discardExcursions
  dsimp only
  simp (maxDischargeDepth := 9) (implicitDefEqProofs := false) +contextual [keepsRoom]

@[simp] theorem State.releaseAfterExcursion_fits (had : Bool) (s : State) : keepsRoom s (s.releaseAfterExcursion had) := by
  unfold State.releaseAfterExcursion
  (repeat' split) <;> simp (maxDischargeDepth := 9) (implicitDefEqProofs := false) +contextual [keepsRoom]

@[simp] theorem State.failAll_fits (s : State) : keepsRoom s s.failAll := by
  unfold State.failAll
  dsimp only
  simp (maxDischargeDepth := 9) (implicitDefEqProofs := false) +contextual [keepsRoom]

@[simp] theorem State.faultOff_fits (r : FaultReport) (s : State) : keepsRoom s (s.faultOff r) := by
  unfold State.faultOff
  dsimp only
  simp (maxDischargeDepth := 9) (implicitDefEqProofs := false) +contextual [keepsRoom]

@[simp] theorem State.faultStill_fits (r : FaultReport) (s : State) : keepsRoom s (s.faultStill r) := by
  unfold State.faultStill
  dsimp only
  simp (maxDischargeDepth := 9) (implicitDefEqProofs := false) +contextual [keepsRoom]

@[simp] theorem State.faultFast_fits (r : FaultReport) (position : Vec3 Lu) (s : State) : keepsRoom s (s.faultFast r position) := by
  unfold State.faultFast
  dsimp only
  (repeat' split) <;> simp (maxDischargeDepth := 9) (implicitDefEqProofs := false) +contextual [keepsRoom]

@[simp] theorem State.flushUnrun_fits (s : State) : keepsRoom s s.flushUnrun := by
  unfold State.flushUnrun
  simp (maxDischargeDepth := 9) (implicitDefEqProofs := false) +contextual [keepsRoom]

@[simp] theorem State.abortAll_fits (s : State) : keepsRoom s s.abortAll := by
  unfold State.abortAll
  dsimp only
  simp (maxDischargeDepth := 9) (implicitDefEqProofs := false) +contextual [keepsRoom]

@[simp] theorem State.stopAll_fits (reason : RunEndReason) (reasonByte : Byte) (s : State) : keepsRoom s
    (s.stopAll reason reasonByte) := by
  unfold State.stopAll
  dsimp only
  (repeat' split) <;> simp (maxDischargeDepth := 9) (implicitDefEqProofs := false) +contextual [keepsRoom]

@[simp] theorem State.stopTaken_fits (reason : RunEndReason) (reasonByte : Byte) (s : State) : keepsRoom s
    (s.stopTaken reason reasonByte) := by
  unfold State.stopTaken
  (repeat' split) <;> simp (maxDischargeDepth := 9) (implicitDefEqProofs := false) +contextual [keepsRoom]

@[simp] theorem State.cutDrives_fits (reason : RunEndReason) (s : State) : keepsRoom s (s.cutDrives reason) := by
  unfold State.cutDrives
  dsimp only
  simp (maxDischargeDepth := 9) (implicitDefEqProofs := false) +contextual [keepsRoom]

@[simp] theorem State.startStraight_fits (act : MotionAct) (origin : Origin) (target : Vec3 Lu) (feed : BitVec 16)
    (required : ZoneSet) (s : State) : keepsRoom s (s.startStraight act origin target feed required) := by
  unfold State.startStraight
  (repeat' split) <;> simp (maxDischargeDepth := 9) (implicitDefEqProofs := false) +contextual [keepsRoom]

@[simp] theorem State.lookAhead_fits (s : State) : keepsRoom s s.lookAhead := by
  unfold State.lookAhead
  (repeat' split) <;> simp (maxDischargeDepth := 9) (implicitDefEqProofs := false) +contextual [keepsRoom]

@[simp] theorem State.push_fits (kind : ExcursionKind) (need : Option ZoneSet) (serves : Bool) (s : State) :
    keepsRoom s (s.push kind need serves) := by
  unfold State.push
  split <;> simp [keepsRoom]
  omega

@[simp] theorem State.pushOut_fits (kind : ExcursionKind) (need : Option ZoneSet) (serves : Bool) (s : State) : keepsRoom s
    (s.pushOut kind need serves) := by
  unfold State.pushOut
  simp (maxDischargeDepth := 9) (implicitDefEqProofs := false) +contextual [keepsRoom]

@[simp] theorem State.pushChange_fits (target : ProbeId) (serves : Bool) (s : State) : keepsRoom s (s.pushChange target serves) := by
  unfold State.pushChange
  dsimp only
  simp (maxDischargeDepth := 9) (implicitDefEqProofs := false) +contextual [keepsRoom]

@[simp] theorem State.completeSegment_fits (outcome : SegOutcome) (endSet : ZoneSet) (hold : Bool) (s : State) : keepsRoom s
    (s.completeSegment outcome endSet hold) := by
  unfold State.completeSegment
  dsimp only
  (repeat' split) <;> simp (maxDischargeDepth := 9) (implicitDefEqProofs := false) +contextual [keepsRoom]

@[simp] theorem State.goToTouch_fits (q : Qualification) (touch : Nat) (s : State) : keepsRoom s (s.goToTouch q touch) := by
  unfold State.goToTouch
  dsimp only
  (repeat' split) <;> simp (maxDischargeDepth := 9) (implicitDefEqProofs := false) +contextual [keepsRoom]

@[simp] theorem State.beginTouches_fits (s : State) : keepsRoom s s.beginTouches := by
  unfold State.beginTouches
  (repeat' split) <;> simp (maxDischargeDepth := 9) (implicitDefEqProofs := false) +contextual [keepsRoom]

@[simp] theorem State.pop_fits (s : State) : keepsRoom s s.pop := by
  unfold State.pop
  split
  · next top rest _ stack =>
    have shorter : s.run.stack.length ≤ 3 → rest.length ≤ 3 := by
      rw [stack, List.length_cons]
      omega
    dsimp only
    (repeat' split) <;> simp_all +contextual (maxDischargeDepth := 9) (implicitDefEqProofs := false) [keepsRoom]
  · simp [keepsRoom]

@[simp] theorem State.afterChange_fits (s : State) : keepsRoom s s.afterChange := by
  unfold State.afterChange
  (repeat' split) <;> simp (maxDischargeDepth := 9) (implicitDefEqProofs := false) +contextual [keepsRoom]

@[simp] theorem State.claimSlots_fits (pick : Fin 8) (drop : Option (Fin 8)) (s : State) : keepsRoom s (s.claimSlots pick drop) := by
  unfold State.claimSlots
  simp (maxDischargeDepth := 9) (implicitDefEqProofs := false) +contextual [keepsRoom]

@[simp] theorem State.chooseSlots_fits (r : ChangeRecord) (s : State) : keepsRoom s (s.chooseSlots r) := by
  unfold State.chooseSlots
  dsimp only
  (repeat' split) <;> simp (maxDischargeDepth := 9) (implicitDefEqProofs := false) +contextual [keepsRoom]

@[simp] theorem State.beginChange_fits (s : State) : keepsRoom s s.beginChange := by
  unfold State.beginChange
  (repeat' split) <;> simp (maxDischargeDepth := 9) (implicitDefEqProofs := false) +contextual [keepsRoom]

@[simp] theorem State.changeHeld_fits (s : State) : keepsRoom s s.changeHeld := by
  unfold State.changeHeld
  (repeat' split) <;> simp (maxDischargeDepth := 9) (implicitDefEqProofs := false) +contextual [keepsRoom]

@[simp] theorem State.startChangeMove_fits (m : ChangeMove) (s : State) : keepsRoom s (s.startChangeMove m) := by
  unfold State.startChangeMove
  dsimp only
  (repeat' split) <;> simp (maxDischargeDepth := 9) (implicitDefEqProofs := false) +contextual [keepsRoom]

@[simp] theorem State.queueSlotSet_fits (slot : Option (Fin 8)) (contents : Contents) (s : State) : keepsRoom s
    (s.queueSlotSet slot contents) := by
  unfold State.queueSlotSet
  (repeat' split) <;> simp (maxDischargeDepth := 9) (implicitDefEqProofs := false) +contextual [keepsRoom]

@[simp] theorem State.pulseStep_fits (step : ChangeStep) (kind : PulseKind) (s : State) : keepsRoom s (s.pulseStep step kind) := by
  unfold State.pulseStep
  dsimp only
  (repeat' split) <;> simp (maxDischargeDepth := 9) (implicitDefEqProofs := false) +contextual [keepsRoom]

@[simp] theorem State.leaveDock_fits (m : ChangeMove) (s : State) : keepsRoom s (s.leaveDock m) := by
  unfold State.leaveDock
  simp (maxDischargeDepth := 9) (implicitDefEqProofs := false) +contextual [keepsRoom]

@[simp] theorem State.headEmptied_fits (r : ChangeRecord) (s : State) : keepsRoom s (s.headEmptied r) := by
  unfold State.headEmptied
  dsimp only
  (repeat' split) <;> simp (maxDischargeDepth := 9) (implicitDefEqProofs := false) +contextual [keepsRoom]

@[simp] theorem State.unlockEnded_fits (r : ChangeRecord) (s : State) : keepsRoom s (s.unlockEnded r) := by
  unfold State.unlockEnded
  (repeat' split) <;> simp (maxDischargeDepth := 9) (implicitDefEqProofs := false) +contextual [keepsRoom]

@[simp] theorem State.headSeated_fits (r : ChangeRecord) (s : State) : keepsRoom s (s.headSeated r) := by
  unfold State.headSeated
  (repeat' split) <;> simp (maxDischargeDepth := 9) (implicitDefEqProofs := false) +contextual [keepsRoom]

@[simp] theorem State.lockEnded_fits (r : ChangeRecord) (s : State) : keepsRoom s (s.lockEnded r) := by
  unfold State.lockEnded
  (repeat' split) <;> simp (maxDischargeDepth := 9) (implicitDefEqProofs := false) +contextual [keepsRoom]

@[simp] theorem State.pulseEnded_fits (s : State) : keepsRoom s s.pulseEnded := by
  unfold State.pulseEnded
  (repeat' split) <;> simp (maxDischargeDepth := 9) (implicitDefEqProofs := false) +contextual [keepsRoom]

@[simp] theorem State.unlockStuck_fits (r : ChangeRecord) (s : State) : keepsRoom s (s.unlockStuck r) := by
  unfold State.unlockStuck
  simp (maxDischargeDepth := 9) (implicitDefEqProofs := false) +contextual [keepsRoom]

@[simp] theorem State.lockEmpty_fits (r : ChangeRecord) (s : State) : keepsRoom s (s.lockEmpty r) := by
  unfold State.lockEmpty
  dsimp only
  simp (maxDischargeDepth := 9) (implicitDefEqProofs := false) +contextual [keepsRoom]

@[simp] theorem State.identified_fits (r : ChangeRecord) (result : ReadResult) (s : State) : keepsRoom s (s.identified r result)
    := by
  unfold State.identified
  dsimp only
  (repeat' split) <;> simp (maxDischargeDepth := 9) (implicitDefEqProofs := false) +contextual [keepsRoom]

@[simp] theorem State.raiseFailing_fits (r : ChangeRecord) (f : FaultCode) (s : State) : keepsRoom s (s.raiseFailing r f) := by
  unfold State.raiseFailing
  dsimp only
  (repeat' split) <;> simp (maxDischargeDepth := 9) (implicitDefEqProofs := false) +contextual [keepsRoom]

@[simp] theorem State.judgeIdentity_fits (r : ChangeRecord) (s : State) : keepsRoom s (s.judgeIdentity r) := by
  unfold State.judgeIdentity
  dsimp only
  (repeat' split) <;> simp (maxDischargeDepth := 9) (implicitDefEqProofs := false) +contextual [keepsRoom]

@[simp] theorem State.changeArrived_fits (m : ChangeMove) (r : ChangeRecord) (s : State) : keepsRoom s (s.changeArrived m r) := by
  unfold State.changeArrived
  (repeat' split) <;> simp (maxDischargeDepth := 9) (implicitDefEqProofs := false) +contextual [keepsRoom]

@[simp] theorem State.finishChange_fits (s : State) : keepsRoom s s.finishChange := by
  unfold State.finishChange
  dsimp only
  (repeat' split) <;> simp (maxDischargeDepth := 9) (implicitDefEqProofs := false) +contextual [keepsRoom]

@[simp] theorem State.changeReleased_fits (items : ItemSet) (s : State) : keepsRoom s (s.changeReleased items) := by
  unfold State.changeReleased
  (repeat' split) <;> simp (maxDischargeDepth := 9) (implicitDefEqProofs := false) +contextual [keepsRoom]

@[simp] theorem State.gateItems_fits (t : Start) (s : State) : keepsRoom s (s.gateItems t).1 := by
  unfold State.gateItems
  dsimp only
  (repeat' split) <;> simp (maxDischargeDepth := 9) (implicitDefEqProofs := false) +contextual [keepsRoom]

theorem State.withReferences_fits (f : State → State) (s : State) (fits : keepsRoom s (f s)) :
    keepsRoom s (s.withReferences f) := by
  unfold State.withReferences
  split
  · exact s.faultStill_fits _
  · exact fits

@[simp] theorem State.startTravel_fits (probing : Bool) (t : TravelSpec) (s : State) : keepsRoom s (s.startTravel probing t) := by
  unfold State.startTravel
  dsimp only
  (repeat' split) <;> simp (maxDischargeDepth := 9) (implicitDefEqProofs := false) +contextual [keepsRoom]

@[simp] theorem State.probePastRing_fits (s : State) : keepsRoom s s.probePastRing := by
  unfold State.probePastRing
  (repeat' split) <;> simp (maxDischargeDepth := 9) (implicitDefEqProofs := false) +contextual [keepsRoom]

theorem State.gateRing_fits (past : Start) (go : State → State) (s : State) (fits : keepsRoom s (go s)) :
    keepsRoom s (s.gateRing past go) := by
  unfold State.gateRing
  split
  · simp [keepsRoom]
  · exact fits

@[simp] theorem State.startProbe_fits (t : TravelSpec) (s : State) : keepsRoom s (s.startProbe t) := by
  have ring := s.gateRing_fits .segmentPastRing State.probePastRing s.probePastRing_fits
  unfold State.startProbe
  (repeat' split) <;> simp (maxDischargeDepth := 9) (implicitDefEqProofs := false) +contextual [keepsRoom, ring]

@[simp] theorem State.startSegment_fits (s : State) : keepsRoom s s.startSegment := by
  unfold State.startSegment
  split
  · exact s.withReferences_fits _ (s.startTravel_fits _ _)
  · exact s.withReferences_fits _ (s.startProbe_fits _)
  · exact keepsRoom_refl s

@[simp] theorem State.startDwell_fits (left : BitVec 16) (s : State) : keepsRoom s (s.startDwell left) := by
  unfold State.startDwell
  simp (maxDischargeDepth := 9) (implicitDefEqProofs := false) +contextual [keepsRoom]

@[simp] theorem State.startBackOff_fits (target : Vec3 Lu) (thenHeld : Bool) (s : State) : keepsRoom s
    (s.startBackOff target thenHeld) := by
  unfold State.startBackOff
  dsimp only
  (repeat' split) <;> simp (maxDischargeDepth := 9) (implicitDefEqProofs := false) +contextual [keepsRoom]

@[simp] theorem State.nextSeek_fits (s : State) : keepsRoom s s.nextSeek := by
  unfold State.nextSeek
  dsimp only
  (repeat' split) <;> simp (maxDischargeDepth := 9) (implicitDefEqProofs := false) +contextual [keepsRoom]

@[simp] theorem State.startHome_fits (s : State) : keepsRoom s s.startHome := by
  unfold State.startHome
  dsimp only
  (repeat' split) <;> simp (maxDischargeDepth := 9) (implicitDefEqProofs := false) +contextual [keepsRoom]

@[simp] theorem State.startMoveOut_fits (s : State) : keepsRoom s s.startMoveOut := by
  unfold State.startMoveOut
  split
  · exact s.withReferences_fits _ (s.startStraight_fits _ _ _ _ _)
  · exact keepsRoom_refl s

@[simp] theorem State.startReturnMove_fits (s : State) : keepsRoom s s.startReturnMove := by
  unfold State.startReturnMove
  (repeat' split) <;> simp (maxDischargeDepth := 9) (implicitDefEqProofs := false) +contextual [keepsRoom]

@[simp] theorem State.startReturn_fits (s : State) : keepsRoom s s.startReturn := by
  unfold State.startReturn
  dsimp only
  (repeat' split) <;> simp (maxDischargeDepth := 9) (implicitDefEqProofs := false) +contextual [keepsRoom]

@[simp] theorem State.startLeg_fits (s : State) : keepsRoom s s.startLeg := by
  unfold State.startLeg
  (repeat' split) <;> simp (maxDischargeDepth := 9) (implicitDefEqProofs := false) +contextual [keepsRoom]

@[simp] theorem State.touchPastRing_fits (s : State) : keepsRoom s s.touchPastRing := by
  unfold State.touchPastRing
  (repeat' split) <;> simp (maxDischargeDepth := 9) (implicitDefEqProofs := false) +contextual [keepsRoom]

@[simp] theorem State.startTouch_fits (s : State) : keepsRoom s s.startTouch := by
  have ring := s.gateRing_fits .touchPastRing State.touchPastRing s.touchPastRing_fits
  unfold State.startTouch
  (repeat' split) <;> simp (maxDischargeDepth := 9) (implicitDefEqProofs := false) +contextual [keepsRoom, ring]

@[simp] theorem State.startTouchBack_fits (s : State) : keepsRoom s s.startTouchBack := by
  unfold State.startTouchBack
  (repeat' split) <;> simp (maxDischargeDepth := 9) (implicitDefEqProofs := false) +contextual [keepsRoom]

@[simp] theorem State.startPastGate_fits (t : Start) (s : State) : keepsRoom s (s.startPastGate t) := by
  unfold State.startPastGate
  (repeat' split) <;> simp (maxDischargeDepth := 9) (implicitDefEqProofs := false) +contextual [keepsRoom]

@[simp] theorem State.begin__fits (t : Start) (s : State) : keepsRoom s (s.begin_ t) := by
  unfold State.begin_
  dsimp only
  (repeat' split) <;> simp (maxDischargeDepth := 9) (implicitDefEqProofs := false) +contextual [keepsRoom]

@[simp] theorem State.refill_fits (s : State) : keepsRoom s s.refill := by
  unfold State.refill
  (repeat' split) <;> simp (maxDischargeDepth := 9) (implicitDefEqProofs := false) +contextual [keepsRoom]

@[simp] theorem State.take_fits (seg : Segment) (rest : List Segment) (s : State) (queue : s.run.queue = seg :: rest) :
    keepsRoom s (s.take seg rest) := by
  have shorter : s.run.queue.length ≤ 16 → rest.length ≤ 16 := by
    rw [queue, List.length_cons]
    omega
  unfold State.take
  dsimp only
  split <;> simp +contextual (maxDischargeDepth := 9) (implicitDefEqProofs := false) [keepsRoom, shorter]

@[simp] theorem State.resumeExcursion_fits (s : State) : keepsRoom s s.resumeExcursion := by
  unfold State.resumeExcursion
  simp (maxDischargeDepth := 9) (implicitDefEqProofs := false) +contextual [keepsRoom]

theorem State.advance_fits {s t : State} (goes : s.advance = some t) : keepsRoom s t := by
  unfold State.advance at goes
  split at goes
  · cases goes
  · split at goes
    · split at goes
      · split at goes
        · cases goes
          exact s.begin__fits _
        · cases goes
      · split at goes
        · cases goes
          exact s.resumeExcursion_fits
        · split at goes
          · next queue =>
            split at goes
            · cases goes
              exact s.take_fits _ _ queue
            · cases goes
          · cases goes
    · cases goes

@[simp] theorem State.goOn_fits (n : Nat) (s : State) : keepsRoom s (s.goOn n) := by
  induction n generalizing s with
  | zero => exact keepsRoom_refl s
  | succ n ih =>
    unfold State.goOn
    split
    · next goes => exact keepsRoom_trans (State.advance_fits goes) (ih _)
    · exact keepsRoom_refl s
@[simp] theorem State.settle_fits (s : State) : keepsRoom s s.settle := s.goOn_fits _

@[simp] theorem State.claimTimedOut_fits (r : Option (Requester × ItemSet)) (s : State) : keepsRoom s (s.claimTimedOut r) := by
  unfold State.claimTimedOut
  (repeat' split) <;> simp (maxDischargeDepth := 9) (implicitDefEqProofs := false) +contextual [keepsRoom]

theorem State.setParts_fits (parts : List M2Part) (s : State) (few : parts.length ≤ 5) : keepsRoom s (s.setParts parts) := by
  simp [State.setParts, keepsRoom, few]

@[simp] theorem State.enterListening_fits (s : State) : keepsRoom s s.enterListening := by
  simp [State.enterListening, keepsRoom, Join.cold]

@[simp] theorem State.enterQuiet_fits (s : State) : keepsRoom s s.enterQuiet := by
  simp [State.enterQuiet, keepsRoom, Join.cold]

@[simp] theorem State.detach_fits (cause : DetachCause) (s : State) : keepsRoom s (s.detach cause) := by
  unfold State.detach
  dsimp only
  (repeat' split) <;>
    simp (maxDischargeDepth := 12) (implicitDefEqProofs := false) +contextual [keepsRoom, Line.detached]

@[simp] theorem State.finish_fits (s : State) : keepsRoom s s.finish := by
  unfold State.finish
  dsimp only
  split
  · simp (maxDischargeDepth := 9) (implicitDefEqProofs := false) +contextual [keepsRoom]
  · exact s.settle_fits

@[simp] theorem State.failJoin_fits (s : State) : keepsRoom s s.failJoin := by
  unfold State.failJoin
  simp (maxDischargeDepth := 9) (implicitDefEqProofs := false) +contextual [keepsRoom]

@[simp] theorem State.heardCell_fits (s : State) : keepsRoom s s.heardCell := by
  unfold State.heardCell
  (repeat' split) <;> simp (maxDischargeDepth := 9) (implicitDefEqProofs := false) +contextual [keepsRoom]

@[simp] theorem State.checkMounted_fits (s : State) : keepsRoom s s.checkMounted := by
  unfold State.checkMounted
  (repeat' split) <;> simp (maxDischargeDepth := 9) (implicitDefEqProofs := false) +contextual [keepsRoom]

@[simp] theorem State.queueSlotSense_fits (s : State) : keepsRoom s s.queueSlotSense := by
  unfold State.queueSlotSense
  (repeat' split) <;> simp (maxDischargeDepth := 9) (implicitDefEqProofs := false) +contextual [keepsRoom]

@[simp] theorem State.reportRack_fits (s : State) : keepsRoom s s.reportRack := by
  unfold State.reportRack
  (repeat' split) <;> simp (maxDischargeDepth := 9) (implicitDefEqProofs := false) +contextual [keepsRoom]

@[simp] theorem State.startTiming_fits (t : Table) (s : State) : keepsRoom s (s.startTiming t) := by
  unfold State.startTiming
  simp (maxDischargeDepth := 9) (implicitDefEqProofs := false) +contextual [keepsRoom]

@[simp] theorem State.becomeAttached_fits (t : Table) (s : State) : keepsRoom s (s.becomeAttached t) := by
  unfold State.becomeAttached
  dsimp only
  (repeat' split) <;>
    simp (maxDischargeDepth := 12) (implicitDefEqProofs := false) +contextual [keepsRoom, Join.cold]

@[simp] theorem State.found_fits (f : JoinFields) (s : State) : keepsRoom s (s.found f) := by
  unfold State.found
  dsimp only
  simp (maxDischargeDepth := 9) (implicitDefEqProofs := false) +contextual [keepsRoom]

@[simp] theorem State.loseOwner_fits (gone : StationSet) (s : State) : keepsRoom s (s.loseOwner gone) := by
  unfold State.loseOwner
  (repeat' split) <;> simp (maxDischargeDepth := 9) (implicitDefEqProofs := false) +contextual [keepsRoom]

@[simp] theorem State.lineApplied_fits (p : Station) (f : ShareFrame) (gone : StationSet) (s : State) : keepsRoom s
    (s.lineApplied p f gone) := by
  unfold State.lineApplied
  dsimp only
  (repeat' split) <;> simp (maxDischargeDepth := 9) (implicitDefEqProofs := false) +contextual [keepsRoom]

@[simp] theorem State.snapshotApplied_fits (a : Applied) (s : State) : keepsRoom s (s.snapshotApplied a) := by
  unfold State.snapshotApplied
  dsimp only
  (repeat' split) <;> simp +contextual [keepsRoom, State.setParts, Table.image]

@[simp] theorem State.blocksAct_fits (p : Station) (f : ShareFrame) (gone : StationSet) (a : Applied) (s : State) : keepsRoom s
    (s.blocksAct p f gone a) := by
  unfold State.blocksAct
  dsimp only
  (repeat' split) <;> simp (maxDischargeDepth := 9) (implicitDefEqProofs := false) +contextual [keepsRoom]

@[simp] theorem State.applyShare_fits (t : Table) (p : Station) (f : ShareFrame) (s : State) : keepsRoom s (s.applyShare t p f) := by
  unfold State.applyShare
  dsimp only
  (repeat' split) <;> simp (maxDischargeDepth := 9) (implicitDefEqProofs := false) +contextual [keepsRoom]

@[simp] theorem State.logShare_fits (p : Station) (seq : BitVec 16) (f : ShareFrame) (s : State) :
    keepsRoom s (s.logShare p seq f) := by
  unfold State.logShare
  dsimp only
  split
  all_goals
    (repeat' split) <;> simp (maxDischargeDepth := 9) (implicitDefEqProofs := false) +contextual [keepsRoom]
    all_goals omega

@[simp] theorem State.keepFoundingImage_fits (p : Station) (f : JoinFields) (s : State) : keepsRoom s (s.keepFoundingImage p f) := by
  unfold State.keepFoundingImage
  dsimp only
  simp (maxDischargeDepth := 9) (implicitDefEqProofs := false) +contextual [keepsRoom]

@[simp] theorem State.listenShare_fits (p : Station) (f : ShareFrame) (s : State) : keepsRoom s (s.listenShare p f) := by
  unfold State.listenShare
  dsimp only
  (repeat' split) <;> simp (maxDischargeDepth := 9) (implicitDefEqProofs := false) +contextual [keepsRoom]

@[simp] theorem State.heard_fits (p : Station) (opensWindow : Bool) (s : State) : keepsRoom s (s.heard p opensWindow) := by
  unfold State.heard
  (repeat' split) <;> simp (maxDischargeDepth := 9) (implicitDefEqProofs := false) +contextual [keepsRoom]

@[simp] theorem State.joinUnitTakes_fits (p : Station) (seq : BitVec 16) (f : ShareFrame) (s : State) : keepsRoom s
    (s.joinUnitTakes p seq f) := by
  unfold State.joinUnitTakes
  (repeat' split) <;> simp (maxDischargeDepth := 9) (implicitDefEqProofs := false) +contextual [keepsRoom]

@[simp] theorem State.shareReceived_fits (p : Station) (seq : BitVec 16) (f : ShareFrame) (s : State) : keepsRoom s
    (s.shareReceived p seq f) := by
  unfold State.shareReceived
  dsimp only
  (repeat' split) <;> simp (maxDischargeDepth := 9) (implicitDefEqProofs := false) +contextual [keepsRoom]

@[simp] theorem State.adopt_fits (t : Table) (s : State) : keepsRoom s (s.adopt t) := by
  unfold State.adopt
  simp (maxDischargeDepth := 9) (implicitDefEqProofs := false) +contextual [keepsRoom, Join.cold]

@[simp] theorem State.collect_fits (part : SnapshotPart) (s : State) : keepsRoom s (s.collect part) := by
  unfold State.collect
  dsimp only
  (repeat' split) <;> simp (maxDischargeDepth := 9) (implicitDefEqProofs := false) +contextual [keepsRoom]

@[simp] theorem State.updateAxis_fits (a : AxisName) (f : AxisChannel → AxisChannel) (s : State) : keepsRoom s (s.updateAxis a f)
    := by
  unfold State.updateAxis
  simp (maxDischargeDepth := 9) (implicitDefEqProofs := false) +contextual [keepsRoom]

@[simp] theorem State.scaleFault_fits (axis : AxisName) (detail : Nat) (s : State) : keepsRoom s (s.scaleFault axis detail) := by
  unfold State.scaleFault
  dsimp only
  (repeat' split) <;> simp (maxDischargeDepth := 9) (implicitDefEqProofs := false) +contextual [keepsRoom]

@[simp] theorem State.atLoopStep_fits (since : BitVec 32) (s : State) : keepsRoom s (s.atLoopStep since) := by
  unfold State.atLoopStep
  (repeat' split) <;> simp (maxDischargeDepth := 9) (implicitDefEqProofs := false) +contextual [keepsRoom]

@[simp] theorem State.keepLatchWhileArmed_fits (s : State) : keepsRoom s s.keepLatchWhileArmed := by
  unfold State.keepLatchWhileArmed
  (repeat' split) <;> simp (maxDischargeDepth := 9) (implicitDefEqProofs := false) +contextual [keepsRoom]

@[simp] theorem State.recordContact_fits (position : Vec3 Lu) (s : State) : keepsRoom s (s.recordContact position) := by
  unfold State.recordContact
  (repeat' split) <;> simp (maxDischargeDepth := 9) (implicitDefEqProofs := false) +contextual [keepsRoom]

@[simp] theorem State.beginBackOff_fits (thenHeld : Bool) (s : State) : keepsRoom s (s.beginBackOff thenHeld) := by
  unfold State.beginBackOff
  dsimp only
  (repeat' split) <;> simp (maxDischargeDepth := 9) (implicitDefEqProofs := false) +contextual [keepsRoom]

@[simp] theorem State.contactEnds_fits (position : Vec3 Lu) (held : Bool) (s : State) : keepsRoom s (s.contactEnds position held)
    := by
  unfold State.contactEnds
  dsimp only
  (repeat' split) <;> simp (maxDischargeDepth := 9) (implicitDefEqProofs := false) +contextual [keepsRoom]

@[simp] theorem State.probingContact_fits (position : Vec3 Lu) (s : State) : keepsRoom s (s.probingContact position) := by
  unfold State.probingContact
  (repeat' split) <;> simp (maxDischargeDepth := 9) (implicitDefEqProofs := false) +contextual [keepsRoom]

@[simp] theorem State.acceptContact_fits (position : Vec3 Lu) (s : State) : keepsRoom s (s.acceptContact position) := by
  unfold State.acceptContact
  dsimp only
  (repeat' split) <;> simp (maxDischargeDepth := 9) (implicitDefEqProofs := false) +contextual [keepsRoom]

@[simp] theorem State.miss_fits (s : State) : keepsRoom s s.miss := by
  unfold State.miss
  (repeat' split) <;> simp (maxDischargeDepth := 9) (implicitDefEqProofs := false) +contextual [keepsRoom]

@[simp] theorem State.countFalse_fits (s : State) : keepsRoom s s.countFalse := by
  unfold State.countFalse
  dsimp only
  (repeat' split) <;> simp (maxDischargeDepth := 9) (implicitDefEqProofs := false) +contextual [keepsRoom]

@[simp] theorem State.triggerTo_fits (high : Bool) (s : State) : keepsRoom s (s.triggerTo high) := by
  unfold State.triggerTo
  dsimp only
  (repeat' split) <;> simp (maxDischargeDepth := 9) (implicitDefEqProofs := false) +contextual [keepsRoom]

@[simp] theorem State.headInWindow_fits (seated : Bool) (s : State) : keepsRoom s (s.headInWindow seated) := by
  unfold State.headInWindow
  (repeat' split) <;> simp (maxDischargeDepth := 9) (implicitDefEqProofs := false) +contextual [keepsRoom]

@[simp] theorem State.headOutside_fits (seated : Bool) (s : State) : keepsRoom s (s.headOutside seated) := by
  unfold State.headOutside
  dsimp only
  (repeat' split) <;> simp (maxDischargeDepth := 9) (implicitDefEqProofs := false) +contextual [keepsRoom]

@[simp] theorem State.readForHead_fits (result : ReadResult) (s : State) : keepsRoom s (s.readForHead result) := by
  unfold State.readForHead
  (repeat' split) <;> simp (maxDischargeDepth := 9) (implicitDefEqProofs := false) +contextual [keepsRoom]

@[simp] theorem State.readForJudge_fits (result : ReadResult) (s : State) : keepsRoom s (s.readForJudge result) := by
  unfold State.readForJudge
  dsimp only
  refine foldl_keepsRoom (fun outcome s => s.changeEnded outcome) (fun outcome s => s.changeEnded_fits outcome) _ _ _ ?_
  simp +contextual [keepsRoom]

@[simp] theorem State.readForChange_fits (result : ReadResult) (forChange : Bool) (s : State) : keepsRoom s
    (s.readForChange result forChange) := by
  unfold State.readForChange
  (repeat' split) <;> simp (maxDischargeDepth := 9) (implicitDefEqProofs := false) +contextual [keepsRoom]

@[simp] theorem State.probeAtTarget_fits (m : Motion) (s : State) : keepsRoom s (s.probeAtTarget m) := by
  unfold State.probeAtTarget
  (repeat' split) <;> simp (maxDischargeDepth := 9) (implicitDefEqProofs := false) +contextual [keepsRoom]

@[simp] theorem State.heldAtStandstill_fits (held : Bool) (s : State) : keepsRoom s (s.heldAtStandstill held) := by
  unfold State.heldAtStandstill
  (repeat' split) <;> simp (maxDischargeDepth := 9) (implicitDefEqProofs := false) +contextual [keepsRoom]

@[simp] theorem State.keepBackOff_fits (m : Motion) (s : State) : keepsRoom s (s.keepBackOff m) := by
  unfold State.keepBackOff
  dsimp only
  (repeat' split) <;> simp (maxDischargeDepth := 9) (implicitDefEqProofs := false) +contextual [keepsRoom]

@[simp] theorem State.stopEnded_fits (p : Stopping) (m : Motion) (s : State) : keepsRoom s (s.stopEnded p m) := by
  unfold State.stopEnded
  (repeat' split) <;> simp (maxDischargeDepth := 9) (implicitDefEqProofs := false) +contextual [keepsRoom]

@[simp] theorem State.judgeTouches_fits (c : Image) (q : Qualification) (p : ProbeRecord) (s : State) : keepsRoom s
    (s.judgeTouches c q p) := by
  unfold State.judgeTouches
  dsimp only
  (repeat' split) <;> simp (maxDischargeDepth := 9) (implicitDefEqProofs := false) +contextual [keepsRoom]

@[simp] theorem State.touchesDone_fits (c : Image) (q : Qualification) (s : State) : keepsRoom s (s.touchesDone c q) := by
  unfold State.touchesDone
  (repeat' split) <;> simp (maxDischargeDepth := 9) (implicitDefEqProofs := false) +contextual [keepsRoom]

@[simp] theorem State.touchDone_fits (s : State) : keepsRoom s s.touchDone := by
  unfold State.touchDone
  dsimp only
  (repeat' split) <;> simp (maxDischargeDepth := 9) (implicitDefEqProofs := false) +contextual [keepsRoom]

@[simp] theorem State.arrive_fits (r : ReturnRecord) (s : State) : keepsRoom s (s.arrive r) := by
  unfold State.arrive
  dsimp only
  (repeat' split) <;> simp (maxDischargeDepth := 9) (implicitDefEqProofs := false) +contextual [keepsRoom]

@[simp] theorem State.changeArrival_fits (m : ChangeMove) (s : State) : keepsRoom s (s.changeArrival m) := by
  unfold State.changeArrival
  (repeat' split) <;> simp (maxDischargeDepth := 9) (implicitDefEqProofs := false) +contextual [keepsRoom]

@[simp] theorem State.legEnded_fits (m : Motion) (q : Qualification) (s : State) : keepsRoom s (s.legEnded m q) := by
  unfold State.legEnded
  dsimp only
  (repeat' split) <;> simp (maxDischargeDepth := 9) (implicitDefEqProofs := false) +contextual [keepsRoom]

@[simp] theorem State.reply_fits (dest : Station) (kind : Nat) (result : Result) (data : List ViewField) (s : State) : keepsRoom s
    (s.reply dest kind result data) := by
  unfold State.reply
  simp (maxDischargeDepth := 9) (implicitDefEqProofs := false) +contextual [keepsRoom]

@[simp] theorem State.setOwner_fits (sender : Station) (s : State) : keepsRoom s (s.setOwner sender) := by
  unfold State.setOwner
  simp (maxDischargeDepth := 9) (implicitDefEqProofs := false) +contextual [keepsRoom]

theorem State.append_fits (sender : Station) (seg : Segment) (s : State) (room : s.run.queue.length < 16) :
    keepsRoom s (s.append sender seg) := by
  unfold State.append State.setOwner
  dsimp only
  (repeat' split) <;> simp +contextual [keepsRoom] <;> omega

theorem State.checkSeg_room {s : State} {p : List Byte} {seg : Segment} (ok : s.checkSeg p = .ok seg) :
    s.run.queue.length < 16 := by
  unfold State.checkSeg at ok
  split at ok
  · cases ok
  · omega

@[simp] theorem State.takeSeg_fits (sender : Station) (p : List Byte) (s : State) : keepsRoom s (s.takeSeg sender p).1 := by
  unfold State.takeSeg
  split
  · simp [keepsRoom, answer]
  · split
    · simp [keepsRoom, answer]
    · split
      · simp [keepsRoom, answer]
      · next seg ok => exact keepsRoom_trans (s.append_fits sender seg (State.checkSeg_room ok)) (State.finish_fits _)

@[simp] theorem State.holdRun_fits (s : State) : keepsRoom s s.holdRun := by
  unfold State.holdRun
  simp (maxDischargeDepth := 9) (implicitDefEqProofs := false) +contextual [keepsRoom]

@[simp] theorem State.holdStill_fits (t : Option Start) (s : State) : keepsRoom s (s.holdStill t) := by
  unfold State.holdStill
  dsimp only
  simp (maxDischargeDepth := 9) (implicitDefEqProofs := false) +contextual [keepsRoom]

@[simp] theorem State.holdMoving_fits (s : State) : keepsRoom s s.holdMoving := by
  unfold State.holdMoving
  (repeat' split) <;> simp (maxDischargeDepth := 9) (implicitDefEqProofs := false) +contextual [keepsRoom]

@[simp] theorem State.holdEffect_fits (s : State) : keepsRoom s s.holdEffect := by
  unfold State.holdEffect
  (repeat' split) <;> simp (maxDischargeDepth := 9) (implicitDefEqProofs := false) +contextual [keepsRoom]

@[simp] theorem State.startRun_fits (sender : Station) (s : State) : keepsRoom s (s.startRun sender) := by
  unfold State.startRun
  dsimp only
  (repeat' split) <;> simp (maxDischargeDepth := 9) (implicitDefEqProofs := false) +contextual [keepsRoom]

@[simp] theorem State.takeGo_fits (sender : Station) (s : State) : keepsRoom s (s.takeGo sender).1 := by
  unfold State.takeGo
  (repeat' split) <;> simp (maxDischargeDepth := 9) (implicitDefEqProofs := false) +contextual [keepsRoom, answer]

@[simp] theorem State.takeHold_fits (sender : Station) (s : State) : keepsRoom s (s.takeHold sender).1 := by
  unfold State.takeHold
  (repeat' split) <;> simp (maxDischargeDepth := 9) (implicitDefEqProofs := false) +contextual [keepsRoom, answer]

@[simp] theorem State.takeGoOn_fits (sender : Station) (s : State) : keepsRoom s (s.takeGoOn sender).1 := by
  unfold State.takeGoOn
  (repeat' split) <;> simp (maxDischargeDepth := 9) (implicitDefEqProofs := false) +contextual [keepsRoom, answer]

@[simp] theorem State.takeHome_fits (s : State) : keepsRoom s s.takeHome.1 := by
  unfold State.takeHome
  (repeat' split) <;> simp (maxDischargeDepth := 9) (implicitDefEqProofs := false) +contextual [keepsRoom, answer]

@[simp] theorem State.energize_fits (s : State) : keepsRoom s s.energize := by
  unfold State.energize
  (repeat' split) <;> simp (maxDischargeDepth := 9) (implicitDefEqProofs := false) +contextual [keepsRoom]

@[simp] theorem State.takeDrivesOn_fits (s : State) : keepsRoom s s.takeDrivesOn.1 := by
  unfold State.takeDrivesOn
  (repeat' split) <;> simp (maxDischargeDepth := 9) (implicitDefEqProofs := false) +contextual [keepsRoom, answer]

@[simp] theorem State.takeChange_fits (id : ProbeId) (s : State) : keepsRoom s (s.takeChange id).1 := by
  unfold State.takeChange
  (repeat' split) <;> simp (maxDischargeDepth := 9) (implicitDefEqProofs := false) +contextual [keepsRoom, answer]

@[simp] theorem State.takeQualify_fits (s : State) : keepsRoom s s.takeQualify.1 := by
  unfold State.takeQualify
  (repeat' split) <;> simp (maxDischargeDepth := 9) (implicitDefEqProofs := false) +contextual [keepsRoom, answer]

@[simp] theorem State.enterShadow_fits (s : State) : keepsRoom s s.enterShadow := by
  unfold State.enterShadow
  dsimp only
  simp (maxDischargeDepth := 9) (implicitDefEqProofs := false) +contextual [keepsRoom]

@[simp] theorem State.takeShadowOn_fits (s : State) : keepsRoom s s.takeShadowOn.1 := by
  unfold State.takeShadowOn
  (repeat' split) <;> simp (maxDischargeDepth := 9) (implicitDefEqProofs := false) +contextual [keepsRoom, answer]

@[simp] theorem State.endShadow_fits (s : State) : keepsRoom s s.endShadow := by
  unfold State.endShadow
  dsimp only
  simp (maxDischargeDepth := 9) (implicitDefEqProofs := false) +contextual [keepsRoom]

@[simp] theorem State.takeShadowOff_fits (s : State) : keepsRoom s s.takeShadowOff.1 := by
  unfold State.takeShadowOff
  (repeat' split) <;> simp (maxDischargeDepth := 9) (implicitDefEqProofs := false) +contextual [keepsRoom, answer]

theorem State.defineProbe_fits (d : ProbeDef) (s : State) (room : (s.probe d.id).isNone → s.probes.length < 8) :
    keepsRoom s (s.defineProbe d) := by
  unfold State.defineProbe
  split
  · exact s.updateProbe_fits _ _
  · next absent =>
    have room := room (by simp [absent])
    simp [keepsRoom]
    omega

@[simp] theorem State.takeProbedef_fits (p : List Byte) (s : State) : keepsRoom s (s.takeProbedef p).1 := by
  unfold State.takeProbedef
  split
  · simp [keepsRoom, answer]
  · next d _ =>
    split
    · simp [keepsRoom, answer]
    · next room =>
      split
      · simp [keepsRoom, answer]
      · exact s.defineProbe_fits d fun absent => by simp_all

@[simp] theorem State.takeReportmark_fits (p : List Byte) (s : State) : keepsRoom s (s.takeReportmark p).1 := by
  unfold State.takeReportmark
  (repeat' split) <;> simp (maxDischargeDepth := 9) (implicitDefEqProofs := false) +contextual [keepsRoom, answer]

@[simp] theorem EventSet.withMask_length (mask : BitVec 16) (e : EventSet) :
    (e.withMask mask).slots.length = e.slots.length := by
  simp [EventSet.withMask]

@[simp] theorem State.takeEvmask_fits (p : List Byte) (s : State) : keepsRoom s (s.takeEvmask p).1 := by
  unfold State.takeEvmask
  split <;> simp [keepsRoom, answer]

@[simp] theorem State.countVeto_fits (s : State) : keepsRoom s s.countVeto := by
  unfold State.countVeto
  (repeat' split) <;> simp (maxDischargeDepth := 9) (implicitDefEqProofs := false) +contextual [keepsRoom]

@[simp] theorem State.clearTx_fits (s : State) : keepsRoom s s.clearTx := by
  unfold State.clearTx
  simp (maxDischargeDepth := 9) (implicitDefEqProofs := false) +contextual [keepsRoom]

@[simp] theorem EventSet.unmark_length (carried : List Event) (e : EventSet) :
    (e.unmark carried).slots.length = e.slots.length := by
  simp [EventSet.unmark]

@[simp] theorem State.unsent_fits (tx : Tx) (s : State) : keepsRoom s (s.unsent tx) := by
  unfold State.unsent
  dsimp only
  (repeat' split) <;> simp (maxDischargeDepth := 9) (implicitDefEqProofs := false) +contextual [keepsRoom]

@[simp] theorem State.leaveRingWait_fits (s : State) : keepsRoom s s.leaveRingWait := by
  unfold State.leaveRingWait
  (repeat' split) <;> simp (maxDischargeDepth := 9) (implicitDefEqProofs := false) +contextual [keepsRoom]

@[simp] theorem State.joinAccepted_fits (f : JoinFields) (seq : BitVec 16) (s : State) : keepsRoom s (s.joinAccepted f seq) := by
  unfold State.joinAccepted
  split <;> simp [keepsRoom, Join.cold]

@[simp] theorem State.await_fits (f : ShareFrame) (s : State) : keepsRoom s (s.await f) := by
  unfold State.await
  simp (maxDischargeDepth := 9) (implicitDefEqProofs := false) +contextual [keepsRoom]

@[simp] theorem State.noteClaim_fits (e : M1Entry) (s : State) : keepsRoom s (s.noteClaim e) := by
  unfold State.noteClaim
  (repeat' split) <;> simp (maxDischargeDepth := 9) (implicitDefEqProofs := false) +contextual [keepsRoom]

@[simp] theorem State.shareAccepted_fits (f : ShareFrame) (seq : BitVec 16) (s : State) : keepsRoom s (s.shareAccepted f seq) := by
  unfold State.shareAccepted
  (repeat' split) <;> simp (maxDischargeDepth := 9) (implicitDefEqProofs := false) +contextual [keepsRoom]

@[simp] theorem State.staleAccepted_fits (f : ShareFrame) (seq : BitVec 16) (s : State) : keepsRoom s (s.staleAccepted f seq) := by
  unfold State.staleAccepted
  (repeat' split) <;> simp (maxDischargeDepth := 9) (implicitDefEqProofs := false) +contextual [keepsRoom]

@[simp] theorem State.recordPresence_fits (sender : Station) (standing : ZoneSet) (s : State) :
    keepsRoom s (s.recordPresence sender standing) := by
  unfold State.recordPresence
  split
  · simp [keepsRoom]
  · split
    · simp [keepsRoom]
      omega
    · exact s.failJoin_fits

@[simp] theorem State.listenPresence_fits (sender : Station) (standing : ZoneSet) (shown : JoinShown) (s : State) : keepsRoom s
    (s.listenPresence sender standing shown) := by
  unfold State.listenPresence
  dsimp only
  (repeat' split) <;> simp (maxDischargeDepth := 9) (implicitDefEqProofs := false) +contextual [keepsRoom]

@[simp] theorem State.presenceRecorded_fits (sender : Station) (standing : ZoneSet) (shown : JoinShown) (s : State) : keepsRoom s
    (s.presenceRecorded sender standing shown) := by
  unfold State.presenceRecorded
  (repeat' split) <;> simp (maxDischargeDepth := 9) (implicitDefEqProofs := false) +contextual [keepsRoom]

@[simp] theorem EventSet.accept_length (carried : List Event) (e : EventSet) :
    (e.accept carried).slots.length = e.slots.length := by
  simp [EventSet.accept]

theorem length_tail_le_of_le {α : Type} {l : List α} {n : Nat} (h : l.length ≤ n) : l.tail.length ≤ n := by
  rw [List.length_tail]
  omega

@[simp] theorem State.contentAccepted_fits (tx : Tx) (s : State) : keepsRoom s (s.contentAccepted tx) := by
  unfold State.contentAccepted
  (repeat' split) <;>
    simp (maxDischargeDepth := 9) (implicitDefEqProofs := false) +contextual [keepsRoom, length_tail_le_of_le,
      -List.length_tail]

@[simp] theorem State.ownAccepted_fits (tx : Tx) (s : State) : keepsRoom s (s.ownAccepted tx) := by
  unfold State.ownAccepted
  simp (maxDischargeDepth := 9) (implicitDefEqProofs := false) +contextual [keepsRoom]

@[simp] theorem State.retiringVoid_fits (tx : Tx) (s : State) : keepsRoom s (s.retiringVoid tx) := by
  unfold State.retiringVoid
  (repeat' split) <;> simp +contextual [keepsRoom, length_tail_le_of_le, -List.length_tail]

@[simp] theorem State.countVoid_fits (s : State) : keepsRoom s s.countVoid := by
  unfold State.countVoid
  dsimp only
  (repeat' split) <;> simp (maxDischargeDepth := 9) (implicitDefEqProofs := false) +contextual [keepsRoom]

@[simp] theorem State.ownVoid_fits (tx : Tx) (s : State) : keepsRoom s (s.ownVoid tx) := by
  unfold State.ownVoid
  simp (maxDischargeDepth := 9) (implicitDefEqProofs := false) +contextual [keepsRoom]

@[simp] theorem State.adoptImage_fits (f : ShareFrame) (s : State) : keepsRoom s (s.adoptImage f) := by
  unfold State.adoptImage
  (repeat' split) <;> simp (maxDischargeDepth := 9) (implicitDefEqProofs := false) +contextual [keepsRoom]

@[simp] theorem State.applyOwn_fits (seq : BitVec 16) (f : ShareFrame) (s : State) : keepsRoom s (s.applyOwn seq f) := by
  unfold State.applyOwn
  (repeat' split) <;> simp (maxDischargeDepth := 9) (implicitDefEqProofs := false) +contextual [keepsRoom]

@[simp] theorem State.takeNoImage_fits (s : State) : keepsRoom s s.takeNoImage := by
  unfold State.takeNoImage
  simp (maxDischargeDepth := 9) (implicitDefEqProofs := false) +contextual [keepsRoom]

@[simp] theorem State.startSensing_fits (headHigh : Bool) (slotInputs : SlotSet) (s : State) : keepsRoom s
    (s.startSensing headHigh slotInputs) := by
  unfold State.startSensing
  dsimp only
  (repeat' split) <;> simp (maxDischargeDepth := 9) (implicitDefEqProofs := false) +contextual [keepsRoom]

@[simp] theorem State.restartCapture_fits (s : State) : keepsRoom s s.restartCapture := by
  unfold State.restartCapture
  simp (maxDischargeDepth := 9) (implicitDefEqProofs := false) +contextual [keepsRoom]

@[simp] theorem State.restartBlocks_fits (s : State) : keepsRoom s s.restartBlocks := by
  unfold State.restartBlocks
  dsimp only
  (repeat' split) <;>
    simp +contextual [keepsRoom, Line.emptied, Line.detached, Run.cold, EventSet.cold, State.restartCapture]

@[simp] theorem State.reload_fits (s : State) : keepsRoom s s.reload := by
  unfold State.reload
  dsimp only
  simp (maxDischargeDepth := 9) (implicitDefEqProofs := false) +contextual [keepsRoom]

@[simp] theorem State.leaveCell_fits (s : State) : keepsRoom s s.leaveCell := by
  unfold State.leaveCell
  dsimp only
  split <;> simp (maxDischargeDepth := 9) (implicitDefEqProofs := false) +contextual [keepsRoom]

@[simp] theorem State.takeRestart_fits (s : State) : keepsRoom s s.takeRestart.1 := by
  unfold State.takeRestart
  (repeat' split) <;> simp (maxDischargeDepth := 9) (implicitDefEqProofs := false) +contextual [keepsRoom, answer]

@[simp] theorem State.endLeaveWait_fits (s : State) : keepsRoom s s.endLeaveWait := by
  unfold State.endLeaveWait
  dsimp only
  split <;> simp (maxDischargeDepth := 9) (implicitDefEqProofs := false) +contextual [keepsRoom]

@[simp] theorem State.endSoak_fits (s : State) : keepsRoom s s.endSoak := by
  unfold State.endSoak
  (repeat' split) <;> simp (maxDischargeDepth := 9) (implicitDefEqProofs := false) +contextual [keepsRoom]

@[simp] theorem State.completeScan_fits (results : List (Nat × Judged)) (s : State) : keepsRoom s (s.completeScan results) := by
  unfold State.completeScan
  (repeat' split) <;> simp (maxDischargeDepth := 9) (implicitDefEqProofs := false) +contextual [keepsRoom]

@[simp] theorem State.tick_fits (s : State) : keepsRoom s s.tick := by
  unfold State.tick State.advanceSetpoints
  dsimp only
  (repeat' split) <;> simp [keepsRoom]

end Sys2Proof.Machine
end

section
/-! PROOF. What each operation keeps of the lists of claims, in the table, in a founding image and in the snapshot parts held
  (R65, R86,
R87). -/

namespace Sys2Proof.Machine

open Sys2Proof

/-- A table, where there is one, has room for its claims (R65). -/
def claimsFit (t : Option Table) : Prop := ∀ u, t = some u → u.claims.length ≤ 8

@[simp] theorem claimsFit_none : claimsFit none := nofun

@[simp] theorem claimsFit_some (t : Table) : claimsFit (some t) ↔ t.claims.length ≤ 8 := by
  simp [claimsFit]

/-- The parts of a snapshot that are held have the shapes of Table 5-3. -/
def partsFit (parts : List SnapshotPart) : Prop := ∀ part ∈ parts, partShape part.body = true

@[simp] theorem partsFit_nil : partsFit [] := nofun

/-- The table, the image and the parts held of `t` have room for their claims where those of `s` have. -/
abbrev keepsBooks (s t : State) : Prop :=
  (claimsFit s.table → claimsFit t.table) ∧ (claimsFit s.join.image → claimsFit t.join.image) ∧
  (partsFit s.join.parts → partsFit t.join.parts)

theorem keepsBooks_refl (s : State) : keepsBooks s s := ⟨id, id, id⟩

theorem keepsBooks_trans {s t u : State} (first : keepsBooks s t) (second : keepsBooks t u) : keepsBooks s u :=
  ⟨second.1 ∘ first.1, second.2.1 ∘ first.2.1, second.2.2 ∘ first.2.2⟩

theorem foldl_keepsBooks {α : Type} (f : α → State → State) (fits : ∀ a s, keepsBooks s (f a s)) (l : List α) (s t : State)
    (start : keepsBooks s t) : keepsBooks s (l.foldl (fun s a => f a s) t) := by
  induction l generalizing t with
  | nil => exact start
  | cons a l ih => exact ih _ (keepsBooks_trans start (fits a t))

theorem claimsFit_map {t : Option Table} (f : Table → Table) (fits : claimsFit t)
    (kept : ∀ u : Table, u.claims.length ≤ 8 → (f u).claims.length ≤ 8) : claimsFit (t.map f) := by
  cases t with
  | none => exact claimsFit_none
  | some u => exact (claimsFit_some _).2 (kept u ((claimsFit_some u).1 fits))

/-! The table's own functions. -/

theorem Table.walk_claims_length (rest kept : List ClaimEntry) (t : Table) :
    (Table.walk kept rest t).1.claims.length ≤ kept.length + rest.length := by
  induction rest generalizing kept t with
  | nil => simp [Table.walk]
  | cons e rest ih =>
    unfold Table.walk
    split
    · have shorter := ih kept (t.grant e)
      simp only [List.length_cons]
      omega
    · have shorter := ih (kept ++ [e]) t
      simp only [List.length_append, List.length_cons, List.length_nil] at shorter ⊢
      omega

theorem Table.claim_claims_length (p : Station) (items : ItemSet) (now : Clock) (t : Table) (few : t.claims.length ≤ 8) :
    (t.claim p items now).claims.length ≤ 8 := by
  unfold Table.claim
  split
  · exact few
  · split
    · simpa only [List.length_map] using few
    · split
      · exact few
      · split
        next room =>
          simp only [List.length_append, List.length_singleton]
          omega
        next => exact few

theorem Table.change_claims_length (p : Station) (f : ShareFrame) (now : Clock) (t : Table) (few : t.claims.length ≤ 8) :
    (t.change p f now).claims.length ≤ 8 := by
  cases f with
  | claim items => exact t.claim_claims_length p items now few
  | withdraw => exact Nat.le_trans (List.length_filter_le _ _) few
  | lost | join | release => exact few
  | attach | leave | clear | slotSet | slotSense =>
    simp only [Table.change, Table.attach, Table.leave, Table.clear, Table.slotSet, Table.slotSense, Table.updateEntry]
    (repeat' split) <;> exact few

theorem Table.serve_claims (p : Station) (f : ShareFrame) (t : Table) : (t.serve p f).1.claims = t.claims := by
  unfold Table.serve
  (repeat' split) <;> rfl

/-- No frame makes the list of claims longer than its eight places (R65, R67). -/
theorem Table.apply_claims_length (t : Table) (p : Station) (f : ShareFrame) (now : Clock) (few : t.claims.length ≤ 8) :
    (t.apply p f now).table.claims.length ≤ 8 := by
  have changed := Table.change_claims_length p f now { t with seq := t.seq + 1 } few
  have walked := Table.walk_claims_length ((({ t with seq := t.seq + 1 } : Table).change p f now).dropLeavers t).claims []
    ((({ t with seq := t.seq + 1 } : Table).change p f now).dropLeavers t)
  have stayed : ((({ t with seq := t.seq + 1 } : Table).change p f now).dropLeavers t).claims.length ≤ 8 :=
    Nat.le_trans (List.length_filter_le _ _) changed
  simp only [Table.apply, Table.serve_claims, Table.grantWalk]
  simp only [List.length_nil] at walked
  omega

@[simp] theorem Table.publish_claims (p : Station) (standing : ZoneSet) (t : Table) :
    (t.publish p standing).claims = t.claims := by
  unfold Table.publish
  split <;> rfl

theorem publishAt_claims (n : Nat) (records : List PresenceRecord) (t : Table) :
    (publishAt n records t).claims = t.claims := by
  unfold publishAt
  induction records generalizing t with
  | nil => rfl
  | cons r records ih =>
    simp only [List.foldl_cons, ih]
    split <;> simp

theorem replay_claims_length (now : Clock) (records : List PresenceRecord) (log : List Logged) (n : Nat) (t : Table)
    (few : t.claims.length ≤ 8) : (replay now records n log t).claims.length ≤ 8 := by
  induction log generalizing n t with
  | nil => simpa [replay, publishAt_claims] using few
  | cons e log ih => exact ih _ _ (Table.apply_claims_length _ _ _ _ (by simpa [publishAt_claims] using few))

theorem collectPart_fits (held : List SnapshotPart) (p : SnapshotPart) (fits : partsFit held) (own : partShape p.body = true) :
    partsFit (collectPart held p) := by
  unfold collectPart
  split
  · intro part hpart
    rcases List.mem_append.1 hpart with inHeld | new
    · exact fits part (List.mem_filter.1 inHeld).1
    · simp_all
  · simpa [partsFit] using own

/-- The table that parts of the right shapes give has room for its claims (R87, Table 5-3). -/
theorem tableOfParts_claims_length {parts : List SnapshotPart} {now : Clock} {t : Table} {cause : CaptureCause}
    (fits : partsFit parts) (built : tableOfParts parts now = some (t, cause)) : t.claims.length ≤ 8 := by
  unfold tableOfParts at built
  split at built
  · next entries _ _ _ _ found =>
    have shape := fits _ (List.mem_of_find?_eq_some found)
    cases built
    simpa [partShape] using shape
  · cases built

@[simp] theorem State.releaseAfterExcursion_books (had : Bool) (s : State) : keepsBooks s (s.releaseAfterExcursion had) := by
  unfold State.releaseAfterExcursion
  (repeat' split) <;> simp (maxDischargeDepth := 9) (implicitDefEqProofs := false) +contextual [keepsBooks]

@[simp] theorem State.settle_books (s : State) : keepsBooks s s.settle := by
  simp [keepsBooks]

@[simp] theorem State.claimTimedOut_books (r : Option (Requester × ItemSet)) (s : State) : keepsBooks s (s.claimTimedOut r) := by
  unfold State.claimTimedOut
  (repeat' split) <;> simp (maxDischargeDepth := 9) (implicitDefEqProofs := false) +contextual [keepsBooks]

@[simp] theorem State.enterListening_books (s : State) : keepsBooks s s.enterListening := by
  unfold State.enterListening
  (repeat' split) <;> simp (maxDischargeDepth := 9) (implicitDefEqProofs := false) +contextual [keepsBooks, Join.cold]

@[simp] theorem State.enterQuiet_books (s : State) : keepsBooks s s.enterQuiet := by
  unfold State.enterQuiet
  simp (maxDischargeDepth := 9) (implicitDefEqProofs := false) +contextual [keepsBooks, Join.cold]

@[simp] theorem State.detach_books (cause : DetachCause) (s : State) : keepsBooks s (s.detach cause) := by
  unfold State.detach
  dsimp only
  (repeat' split) <;> simp (maxDischargeDepth := 9) (implicitDefEqProofs := false) +contextual [keepsBooks]

@[simp] theorem State.finish_books (s : State) : keepsBooks s s.finish := by
  unfold State.finish
  dsimp only
  split <;> simp (maxDischargeDepth := 9) (implicitDefEqProofs := false) +contextual [keepsBooks]

@[simp] theorem State.failJoin_books (s : State) : keepsBooks s s.failJoin := by
  unfold State.failJoin
  simp (maxDischargeDepth := 9) (implicitDefEqProofs := false) +contextual [keepsBooks]

@[simp] theorem State.heardCell_books (s : State) : keepsBooks s s.heardCell := by
  unfold State.heardCell
  (repeat' split) <;> simp (maxDischargeDepth := 9) (implicitDefEqProofs := false) +contextual [keepsBooks]

@[simp] theorem State.checkMounted_books (s : State) : keepsBooks s s.checkMounted := by
  unfold State.checkMounted
  (repeat' split) <;> simp (maxDischargeDepth := 9) (implicitDefEqProofs := false) +contextual [keepsBooks]

@[simp] theorem State.queueSlotSense_books (s : State) : keepsBooks s s.queueSlotSense := by
  unfold State.queueSlotSense
  (repeat' split) <;> simp (maxDischargeDepth := 9) (implicitDefEqProofs := false) +contextual [keepsBooks]

@[simp] theorem State.reportRack_books (s : State) : keepsBooks s s.reportRack := by
  unfold State.reportRack
  (repeat' split) <;> simp (maxDischargeDepth := 9) (implicitDefEqProofs := false) +contextual [keepsBooks]

@[simp] theorem State.startTiming_books (t : Table) (s : State) : keepsBooks s (s.startTiming t) := by
  unfold State.startTiming
  simp (maxDischargeDepth := 9) (implicitDefEqProofs := false) +contextual [keepsBooks]

@[simp] theorem State.becomeAttached_books (t : Table) (s : State) : keepsBooks s (s.becomeAttached t) := by
  unfold State.becomeAttached
  dsimp only
  (repeat' split) <;> simp (maxDischargeDepth := 9) (implicitDefEqProofs := false) +contextual [keepsBooks, Join.cold]

@[simp] theorem State.found_books (f : JoinFields) (s : State) : keepsBooks s (s.found f) := by
  unfold State.found
  simp (maxDischargeDepth := 9) (implicitDefEqProofs := false) +contextual [keepsBooks, Table.found, Table.initial]

@[simp] theorem State.loseOwner_books (gone : StationSet) (s : State) : keepsBooks s (s.loseOwner gone) := by
  unfold State.loseOwner
  (repeat' split) <;> simp (maxDischargeDepth := 9) (implicitDefEqProofs := false) +contextual [keepsBooks]

@[simp] theorem State.lineApplied_books (p : Station) (f : ShareFrame) (gone : StationSet) (s : State) : keepsBooks s
    (s.lineApplied p f gone) := by
  unfold State.lineApplied
  dsimp only
  (repeat' split) <;> simp (maxDischargeDepth := 9) (implicitDefEqProofs := false) +contextual [keepsBooks]

@[simp] theorem State.snapshotApplied_books (a : Applied) (s : State) : keepsBooks s (s.snapshotApplied a) := by
  unfold State.snapshotApplied
  dsimp only
  (repeat' split) <;> simp (maxDischargeDepth := 9) (implicitDefEqProofs := false) +contextual [keepsBooks]

@[simp] theorem State.blocksAct_books (p : Station) (f : ShareFrame) (gone : StationSet) (a : Applied) (s : State) : keepsBooks s
    (s.blocksAct p f gone a) := by
  unfold State.blocksAct
  dsimp only
  (repeat' split) <;> simp (maxDischargeDepth := 9) (implicitDefEqProofs := false) +contextual [keepsBooks]

theorem State.applyShare_books (t : Table) (p : Station) (f : ShareFrame) (s : State) (few : t.claims.length ≤ 8) :
    keepsBooks s (s.applyShare t p f) := by
  have few := t.apply_claims_length p f s.clock few
  unfold State.applyShare
  dsimp only
  (repeat' split) <;> simp (maxDischargeDepth := 9) (implicitDefEqProofs := false) +contextual [keepsBooks, few]

@[simp] theorem State.logShare_books (p : Station) (seq : BitVec 16) (f : ShareFrame) (s : State) : keepsBooks s
    (s.logShare p seq f) := by
  unfold State.logShare
  dsimp only
  (repeat' split) <;> simp (maxDischargeDepth := 9) (implicitDefEqProofs := false) +contextual [keepsBooks]

@[simp] theorem State.keepFoundingImage_books (p : Station) (f : JoinFields) (s : State) :
    keepsBooks s (s.keepFoundingImage p f) := by
  simp [State.keepFoundingImage, keepsBooks, Table.found, Table.initial]

@[simp] theorem State.listenShare_books (p : Station) (f : ShareFrame) (s : State) : keepsBooks s (s.listenShare p f) := by
  have image := fun fits : claimsFit s.join.image => claimsFit_map (fun t => (t.apply p f s.clock).table) fits
    fun u few => u.apply_claims_length p f s.clock few
  unfold State.listenShare
  split
  · exact keepsBooks_refl s
  · dsimp only
    split
    · exact s.keepFoundingImage_books p _
    · simp (maxDischargeDepth := 9) (implicitDefEqProofs := false) +contextual [keepsBooks, image]

@[simp] theorem State.heard_books (p : Station) (opensWindow : Bool) (s : State) : keepsBooks s (s.heard p opensWindow) := by
  unfold State.heard
  (repeat' split) <;> simp (maxDischargeDepth := 9) (implicitDefEqProofs := false) +contextual [keepsBooks]

@[simp] theorem State.joinUnitTakes_books (p : Station) (seq : BitVec 16) (f : ShareFrame) (s : State) :
    keepsBooks s (s.joinUnitTakes p seq f) := by
  unfold State.joinUnitTakes
  split
  · exact s.logShare_books p seq f
  · exact s.listenShare_books p f
  · exact keepsBooks_refl s

theorem State.shareReceived_books (p : Station) (seq : BitVec 16) (f : ShareFrame) (s : State) (fits : claimsFit s.table) :
    keepsBooks s (s.shareReceived p seq f) := by
  refine keepsBooks_trans (s.heard_books p true) ?_
  unfold State.shareReceived
  dsimp only
  split
  · next t table =>
    have few : t.claims.length ≤ 8 := fits t (by simpa using table)
    split
    · exact State.detach_books _ _
    · exact State.applyShare_books t p f _ few
  · exact State.joinUnitTakes_books p seq f _

theorem State.adopt_books (t : Table) (s : State) (few : t.claims.length ≤ 8) : keepsBooks s (s.adopt t) := by
  simp [State.adopt, keepsBooks, Join.cold, few]

theorem State.collect_books (part : SnapshotPart) (s : State) (parts : partsFit s.join.parts)
    (own : partShape part.body = true) : keepsBooks s (s.collect part) := by
  have held := collectPart_fits s.join.parts part parts own
  unfold State.collect
  dsimp only
  split
  · simp [keepsBooks, held]
  · next t cause built =>
    split
    · simp [keepsBooks]
    · refine keepsBooks_trans (t := s.substituteReadings _) (by simp [keepsBooks]) (State.adopt_books _ _ ?_)
      exact replay_claims_length _ _ _ _ _ (tableOfParts_claims_length held built)

@[simp] theorem State.updateAxis_books (a : AxisName) (f : AxisChannel → AxisChannel) (s : State) : keepsBooks s
    (s.updateAxis a f) := by
  unfold State.updateAxis
  simp (maxDischargeDepth := 9) (implicitDefEqProofs := false) +contextual [keepsBooks]

@[simp] theorem State.scaleFault_books (axis : AxisName) (detail : Nat) (s : State) : keepsBooks s (s.scaleFault axis detail) := by
  unfold State.scaleFault
  dsimp only
  (repeat' split) <;> simp (maxDischargeDepth := 9) (implicitDefEqProofs := false) +contextual [keepsBooks]

@[simp] theorem State.atLoopStep_books (since : BitVec 32) (s : State) : keepsBooks s (s.atLoopStep since) := by
  unfold State.atLoopStep
  (repeat' split) <;> simp (maxDischargeDepth := 9) (implicitDefEqProofs := false) +contextual [keepsBooks]

@[simp] theorem State.keepLatchWhileArmed_books (s : State) : keepsBooks s s.keepLatchWhileArmed := by
  unfold State.keepLatchWhileArmed
  (repeat' split) <;> simp (maxDischargeDepth := 9) (implicitDefEqProofs := false) +contextual [keepsBooks]

@[simp] theorem State.recordContact_books (position : Vec3 Lu) (s : State) : keepsBooks s (s.recordContact position) := by
  unfold State.recordContact
  (repeat' split) <;> simp (maxDischargeDepth := 9) (implicitDefEqProofs := false) +contextual [keepsBooks]

@[simp] theorem State.beginBackOff_books (thenHeld : Bool) (s : State) : keepsBooks s (s.beginBackOff thenHeld) := by
  unfold State.beginBackOff
  dsimp only
  (repeat' split) <;> simp (maxDischargeDepth := 9) (implicitDefEqProofs := false) +contextual [keepsBooks]

@[simp] theorem State.contactEnds_books (position : Vec3 Lu) (held : Bool) (s : State) : keepsBooks s
    (s.contactEnds position held) := by
  unfold State.contactEnds
  dsimp only
  (repeat' split) <;> simp (maxDischargeDepth := 9) (implicitDefEqProofs := false) +contextual [keepsBooks]

@[simp] theorem State.probingContact_books (position : Vec3 Lu) (s : State) : keepsBooks s (s.probingContact position) := by
  unfold State.probingContact
  (repeat' split) <;> simp (maxDischargeDepth := 9) (implicitDefEqProofs := false) +contextual [keepsBooks]

@[simp] theorem State.acceptContact_books (position : Vec3 Lu) (s : State) : keepsBooks s (s.acceptContact position) := by
  unfold State.acceptContact
  dsimp only
  (repeat' split) <;> simp (maxDischargeDepth := 9) (implicitDefEqProofs := false) +contextual [keepsBooks]

@[simp] theorem State.miss_books (s : State) : keepsBooks s s.miss := by
  unfold State.miss
  (repeat' split) <;> simp (maxDischargeDepth := 9) (implicitDefEqProofs := false) +contextual [keepsBooks]

@[simp] theorem State.countFalse_books (s : State) : keepsBooks s s.countFalse := by
  unfold State.countFalse
  dsimp only
  (repeat' split) <;> simp (maxDischargeDepth := 9) (implicitDefEqProofs := false) +contextual [keepsBooks]

@[simp] theorem State.triggerTo_books (high : Bool) (s : State) : keepsBooks s (s.triggerTo high) := by
  unfold State.triggerTo
  dsimp only
  (repeat' split) <;> simp (maxDischargeDepth := 9) (implicitDefEqProofs := false) +contextual [keepsBooks]

@[simp] theorem State.headInWindow_books (seated : Bool) (s : State) : keepsBooks s (s.headInWindow seated) := by
  unfold State.headInWindow
  (repeat' split) <;> simp (maxDischargeDepth := 9) (implicitDefEqProofs := false) +contextual [keepsBooks]

@[simp] theorem State.headOutside_books (seated : Bool) (s : State) : keepsBooks s (s.headOutside seated) := by
  unfold State.headOutside
  dsimp only
  (repeat' split) <;> simp (maxDischargeDepth := 9) (implicitDefEqProofs := false) +contextual [keepsBooks]

@[simp] theorem State.readForHead_books (result : ReadResult) (s : State) : keepsBooks s (s.readForHead result) := by
  unfold State.readForHead
  (repeat' split) <;> simp (maxDischargeDepth := 9) (implicitDefEqProofs := false) +contextual [keepsBooks]

@[simp] theorem State.readForJudge_books (result : ReadResult) (s : State) : keepsBooks s (s.readForJudge result) := by
  unfold State.readForJudge
  dsimp only
  refine foldl_keepsBooks (fun outcome s => s.changeEnded outcome) (fun _ _ => by simp [keepsBooks]) _ _ _ ?_
  simp +contextual [keepsBooks]

@[simp] theorem State.readForChange_books (result : ReadResult) (forChange : Bool) (s : State) : keepsBooks s
    (s.readForChange result forChange) := by
  unfold State.readForChange
  (repeat' split) <;> simp (maxDischargeDepth := 9) (implicitDefEqProofs := false) +contextual [keepsBooks]

@[simp] theorem State.probeAtTarget_books (m : Motion) (s : State) : keepsBooks s (s.probeAtTarget m) := by
  unfold State.probeAtTarget
  (repeat' split) <;> simp (maxDischargeDepth := 9) (implicitDefEqProofs := false) +contextual [keepsBooks]

@[simp] theorem State.heldAtStandstill_books (held : Bool) (s : State) : keepsBooks s (s.heldAtStandstill held) := by
  unfold State.heldAtStandstill
  (repeat' split) <;> simp (maxDischargeDepth := 9) (implicitDefEqProofs := false) +contextual [keepsBooks]

@[simp] theorem State.keepBackOff_books (m : Motion) (s : State) : keepsBooks s (s.keepBackOff m) := by
  unfold State.keepBackOff
  dsimp only
  (repeat' split) <;> simp (maxDischargeDepth := 9) (implicitDefEqProofs := false) +contextual [keepsBooks]

@[simp] theorem State.stopEnded_books (p : Stopping) (m : Motion) (s : State) : keepsBooks s (s.stopEnded p m) := by
  unfold State.stopEnded
  (repeat' split) <;> simp (maxDischargeDepth := 9) (implicitDefEqProofs := false) +contextual [keepsBooks]

@[simp] theorem State.judgeTouches_books (c : Image) (q : Qualification) (p : ProbeRecord) (s : State) : keepsBooks s
    (s.judgeTouches c q p) := by
  unfold State.judgeTouches
  dsimp only
  (repeat' split) <;> simp (maxDischargeDepth := 9) (implicitDefEqProofs := false) +contextual [keepsBooks]

@[simp] theorem State.touchesDone_books (c : Image) (q : Qualification) (s : State) : keepsBooks s (s.touchesDone c q) := by
  unfold State.touchesDone
  (repeat' split) <;> simp (maxDischargeDepth := 9) (implicitDefEqProofs := false) +contextual [keepsBooks]

@[simp] theorem State.touchDone_books (s : State) : keepsBooks s s.touchDone := by
  unfold State.touchDone
  dsimp only
  (repeat' split) <;> simp (maxDischargeDepth := 9) (implicitDefEqProofs := false) +contextual [keepsBooks]

@[simp] theorem State.arrive_books (r : ReturnRecord) (s : State) : keepsBooks s (s.arrive r) := by
  unfold State.arrive
  dsimp only
  (repeat' split) <;> simp (maxDischargeDepth := 9) (implicitDefEqProofs := false) +contextual [keepsBooks]

@[simp] theorem State.changeArrival_books (m : ChangeMove) (s : State) : keepsBooks s (s.changeArrival m) := by
  unfold State.changeArrival
  (repeat' split) <;> simp (maxDischargeDepth := 9) (implicitDefEqProofs := false) +contextual [keepsBooks]

@[simp] theorem State.legEnded_books (m : Motion) (q : Qualification) (s : State) : keepsBooks s (s.legEnded m q) := by
  unfold State.legEnded
  dsimp only
  (repeat' split) <;> simp (maxDischargeDepth := 9) (implicitDefEqProofs := false) +contextual [keepsBooks]

@[simp] theorem State.append_books (sender : Station) (seg : Segment) (s : State) : keepsBooks s (s.append sender seg) := by
  unfold State.append
  dsimp only
  (repeat' split) <;> simp (maxDischargeDepth := 9) (implicitDefEqProofs := false) +contextual [keepsBooks]

@[simp] theorem State.takeSeg_books (sender : Station) (p : List Byte) (s : State) : keepsBooks s (s.takeSeg sender p).1 := by
  unfold State.takeSeg
  dsimp only
  (repeat' split) <;> simp (maxDischargeDepth := 9) (implicitDefEqProofs := false) +contextual [keepsBooks, answer]

@[simp] theorem State.holdStill_books (t : Option Start) (s : State) : keepsBooks s (s.holdStill t) := by
  unfold State.holdStill
  dsimp only
  simp (maxDischargeDepth := 9) (implicitDefEqProofs := false) +contextual [keepsBooks]

@[simp] theorem State.holdMoving_books (s : State) : keepsBooks s s.holdMoving := by
  unfold State.holdMoving
  (repeat' split) <;> simp (maxDischargeDepth := 9) (implicitDefEqProofs := false) +contextual [keepsBooks]

@[simp] theorem State.holdEffect_books (s : State) : keepsBooks s s.holdEffect := by
  unfold State.holdEffect
  (repeat' split) <;> simp (maxDischargeDepth := 9) (implicitDefEqProofs := false) +contextual [keepsBooks]

@[simp] theorem State.startRun_books (sender : Station) (s : State) : keepsBooks s (s.startRun sender) := by
  unfold State.startRun
  dsimp only
  (repeat' split) <;> simp (maxDischargeDepth := 9) (implicitDefEqProofs := false) +contextual [keepsBooks]

@[simp] theorem State.takeGo_books (sender : Station) (s : State) : keepsBooks s (s.takeGo sender).1 := by
  unfold State.takeGo
  (repeat' split) <;> simp (maxDischargeDepth := 9) (implicitDefEqProofs := false) +contextual [keepsBooks, answer]

@[simp] theorem State.takeHold_books (sender : Station) (s : State) : keepsBooks s (s.takeHold sender).1 := by
  unfold State.takeHold
  (repeat' split) <;> simp (maxDischargeDepth := 9) (implicitDefEqProofs := false) +contextual [keepsBooks, answer]

@[simp] theorem State.takeGoOn_books (sender : Station) (s : State) : keepsBooks s (s.takeGoOn sender).1 := by
  unfold State.takeGoOn
  (repeat' split) <;> simp (maxDischargeDepth := 9) (implicitDefEqProofs := false) +contextual [keepsBooks, answer]

@[simp] theorem State.takeHome_books (s : State) : keepsBooks s s.takeHome.1 := by
  unfold State.takeHome
  (repeat' split) <;> simp (maxDischargeDepth := 9) (implicitDefEqProofs := false) +contextual [keepsBooks, answer]

@[simp] theorem State.energize_books (s : State) : keepsBooks s s.energize := by
  unfold State.energize
  (repeat' split) <;> simp (maxDischargeDepth := 9) (implicitDefEqProofs := false) +contextual [keepsBooks]

@[simp] theorem State.takeDrivesOn_books (s : State) : keepsBooks s s.takeDrivesOn.1 := by
  unfold State.takeDrivesOn
  (repeat' split) <;> simp (maxDischargeDepth := 9) (implicitDefEqProofs := false) +contextual [keepsBooks, answer]

@[simp] theorem State.takeChange_books (id : ProbeId) (s : State) : keepsBooks s (s.takeChange id).1 := by
  unfold State.takeChange
  (repeat' split) <;> simp (maxDischargeDepth := 9) (implicitDefEqProofs := false) +contextual [keepsBooks, answer]

@[simp] theorem State.takeQualify_books (s : State) : keepsBooks s s.takeQualify.1 := by
  unfold State.takeQualify
  (repeat' split) <;> simp (maxDischargeDepth := 9) (implicitDefEqProofs := false) +contextual [keepsBooks, answer]

@[simp] theorem State.enterShadow_books (s : State) : keepsBooks s s.enterShadow := by
  unfold State.enterShadow
  dsimp only
  simp (maxDischargeDepth := 9) (implicitDefEqProofs := false) +contextual [keepsBooks]

@[simp] theorem State.takeShadowOn_books (s : State) : keepsBooks s s.takeShadowOn.1 := by
  unfold State.takeShadowOn
  (repeat' split) <;> simp (maxDischargeDepth := 9) (implicitDefEqProofs := false) +contextual [keepsBooks, answer]

@[simp] theorem State.endShadow_books (s : State) : keepsBooks s s.endShadow := by
  unfold State.endShadow
  dsimp only
  simp (maxDischargeDepth := 9) (implicitDefEqProofs := false) +contextual [keepsBooks]

@[simp] theorem State.takeShadowOff_books (s : State) : keepsBooks s s.takeShadowOff.1 := by
  unfold State.takeShadowOff
  (repeat' split) <;> simp (maxDischargeDepth := 9) (implicitDefEqProofs := false) +contextual [keepsBooks, answer]

@[simp] theorem State.defineProbe_books (d : ProbeDef) (s : State) : keepsBooks s (s.defineProbe d) := by
  unfold State.defineProbe
  (repeat' split) <;> simp (maxDischargeDepth := 9) (implicitDefEqProofs := false) +contextual [keepsBooks]

@[simp] theorem State.takeProbedef_books (p : List Byte) (s : State) : keepsBooks s (s.takeProbedef p).1 := by
  unfold State.takeProbedef
  (repeat' split) <;> simp (maxDischargeDepth := 9) (implicitDefEqProofs := false) +contextual [keepsBooks, answer]

@[simp] theorem State.takeReportmark_books (p : List Byte) (s : State) : keepsBooks s (s.takeReportmark p).1 := by
  unfold State.takeReportmark
  (repeat' split) <;> simp (maxDischargeDepth := 9) (implicitDefEqProofs := false) +contextual [keepsBooks, answer]

@[simp] theorem State.takeEvmask_books (p : List Byte) (s : State) : keepsBooks s (s.takeEvmask p).1 := by
  unfold State.takeEvmask
  (repeat' split) <;> simp (maxDischargeDepth := 9) (implicitDefEqProofs := false) +contextual [keepsBooks, answer]

@[simp] theorem State.countVeto_books (s : State) : keepsBooks s s.countVeto := by
  unfold State.countVeto
  (repeat' split) <;> simp (maxDischargeDepth := 9) (implicitDefEqProofs := false) +contextual [keepsBooks]

@[simp] theorem State.clearTx_books (s : State) : keepsBooks s s.clearTx := by
  unfold State.clearTx
  simp (maxDischargeDepth := 9) (implicitDefEqProofs := false) +contextual [keepsBooks]

@[simp] theorem State.unsent_books (tx : Tx) (s : State) : keepsBooks s (s.unsent tx) := by
  unfold State.unsent
  dsimp only
  (repeat' split) <;> simp (maxDischargeDepth := 9) (implicitDefEqProofs := false) +contextual [keepsBooks]

@[simp] theorem State.leaveRingWait_books (s : State) : keepsBooks s s.leaveRingWait := by
  unfold State.leaveRingWait
  (repeat' split) <;> simp (maxDischargeDepth := 9) (implicitDefEqProofs := false) +contextual [keepsBooks]

@[simp] theorem State.joinAccepted_books (f : JoinFields) (seq : BitVec 16) (s : State) : keepsBooks s (s.joinAccepted f seq) := by
  unfold State.joinAccepted
  (repeat' split) <;> simp (maxDischargeDepth := 9) (implicitDefEqProofs := false) +contextual [keepsBooks, Join.cold]

@[simp] theorem State.await_books (f : ShareFrame) (s : State) : keepsBooks s (s.await f) := by
  unfold State.await
  simp (maxDischargeDepth := 9) (implicitDefEqProofs := false) +contextual [keepsBooks]

@[simp] theorem State.noteClaim_books (e : M1Entry) (s : State) : keepsBooks s (s.noteClaim e) := by
  unfold State.noteClaim
  (repeat' split) <;> simp (maxDischargeDepth := 9) (implicitDefEqProofs := false) +contextual [keepsBooks]

@[simp] theorem State.shareAccepted_books (f : ShareFrame) (seq : BitVec 16) (s : State) : keepsBooks s (s.shareAccepted f seq) := by
  unfold State.shareAccepted
  (repeat' split) <;> simp (maxDischargeDepth := 9) (implicitDefEqProofs := false) +contextual [keepsBooks]

@[simp] theorem State.staleAccepted_books (f : ShareFrame) (seq : BitVec 16) (s : State) : keepsBooks s (s.staleAccepted f seq) := by
  unfold State.staleAccepted
  (repeat' split) <;> simp (maxDischargeDepth := 9) (implicitDefEqProofs := false) +contextual [keepsBooks]

@[simp] theorem State.recordPresence_books (sender : Station) (standing : ZoneSet) (s : State) : keepsBooks s
    (s.recordPresence sender standing) := by
  unfold State.recordPresence
  (repeat' split) <;> simp (maxDischargeDepth := 9) (implicitDefEqProofs := false) +contextual [keepsBooks]

@[simp] theorem State.listenPresence_books (sender : Station) (standing : ZoneSet) (shown : JoinShown) (s : State) :
    keepsBooks s (s.listenPresence sender standing shown) := by
  have image := fun fits : claimsFit s.join.image => claimsFit_map (fun t => t.publish sender standing) fits (by simp)
  unfold State.listenPresence
  dsimp only
  split <;> simp (maxDischargeDepth := 9) (implicitDefEqProofs := false) +contextual [keepsBooks, image]

@[simp] theorem State.presenceRecorded_books (sender : Station) (standing : ZoneSet) (shown : JoinShown) (s : State) :
    keepsBooks s (s.presenceRecorded sender standing shown) := by
  unfold State.presenceRecorded
  split
  · next table => simp [keepsBooks, table]
  · split
    · exact s.recordPresence_books sender standing
    · exact s.listenPresence_books sender standing shown
    · exact keepsBooks_refl s

@[simp] theorem State.contentAccepted_books (tx : Tx) (s : State) : keepsBooks s (s.contentAccepted tx) := by
  unfold State.contentAccepted
  (repeat' split) <;> simp (maxDischargeDepth := 9) (implicitDefEqProofs := false) +contextual [keepsBooks]

@[simp] theorem State.ownAccepted_books (tx : Tx) (s : State) : keepsBooks s (s.ownAccepted tx) := by
  unfold State.ownAccepted
  simp (maxDischargeDepth := 9) (implicitDefEqProofs := false) +contextual [keepsBooks]

@[simp] theorem State.retiringVoid_books (tx : Tx) (s : State) : keepsBooks s (s.retiringVoid tx) := by
  unfold State.retiringVoid
  (repeat' split) <;> simp (maxDischargeDepth := 9) (implicitDefEqProofs := false) +contextual [keepsBooks]

@[simp] theorem State.countVoid_books (s : State) : keepsBooks s s.countVoid := by
  unfold State.countVoid
  dsimp only
  (repeat' split) <;> simp (maxDischargeDepth := 9) (implicitDefEqProofs := false) +contextual [keepsBooks]

@[simp] theorem State.ownVoid_books (tx : Tx) (s : State) : keepsBooks s (s.ownVoid tx) := by
  unfold State.ownVoid
  simp (maxDischargeDepth := 9) (implicitDefEqProofs := false) +contextual [keepsBooks]

theorem State.adoptImage_books (f : ShareFrame) (s : State) (image : claimsFit s.join.image) :
    keepsBooks s (s.adoptImage f) := by
  unfold State.adoptImage
  split
  · next t held =>
    rw [held] at image
    exact s.adopt_books _ (t.apply_claims_length _ _ _ ((claimsFit_some t).1 image))
  · exact keepsBooks_refl s

theorem State.applyOwn_books (seq : BitVec 16) (f : ShareFrame) (s : State) (fits : claimsFit s.table)
    (image : claimsFit s.join.image) : keepsBooks s (s.applyOwn seq f) := by
  unfold State.applyOwn
  split
  · next t table => exact s.applyShare_books t _ f (fits t table)
  · split
    · exact keepsBooks_refl s
    · split
      · split
        · exact s.found_books _
        · exact s.adoptImage_books _ image
      · exact s.joinUnitTakes_books _ seq f

@[simp] theorem State.takeImage_books (c : Image) (s : State) : keepsBooks s (s.takeImage c) := by
  unfold State.takeImage
  (repeat' split) <;> simp (maxDischargeDepth := 9) (implicitDefEqProofs := false) +contextual [keepsBooks]

@[simp] theorem State.takeNoImage_books (s : State) : keepsBooks s s.takeNoImage := by
  unfold State.takeNoImage
  simp (maxDischargeDepth := 9) (implicitDefEqProofs := false) +contextual [keepsBooks]

@[simp] theorem State.startSensing_books (headHigh : Bool) (slotInputs : SlotSet) (s : State) : keepsBooks s
    (s.startSensing headHigh slotInputs) := by
  unfold State.startSensing
  dsimp only
  (repeat' split) <;> simp (maxDischargeDepth := 9) (implicitDefEqProofs := false) +contextual [keepsBooks]

@[simp] theorem State.loadEnded_books (image : Option Image) (format : BitVec 16) (headHigh : Bool) (slotInputs : SlotSet)
    (s : State) : keepsBooks s (s.loadEnded image format headHigh slotInputs) := by
  unfold State.loadEnded
  dsimp only
  (repeat' split) <;> simp (maxDischargeDepth := 9) (implicitDefEqProofs := false) +contextual [keepsBooks]

@[simp] theorem State.restartCapture_books (s : State) : keepsBooks s s.restartCapture := by
  unfold State.restartCapture
  simp (maxDischargeDepth := 9) (implicitDefEqProofs := false) +contextual [keepsBooks]

@[simp] theorem State.restartBlocks_books (s : State) : keepsBooks s s.restartBlocks := by
  unfold State.restartBlocks
  dsimp only
  (repeat' split) <;> simp [keepsBooks, State.restartCapture]

@[simp] theorem State.reload_books (s : State) : keepsBooks s s.reload := by
  unfold State.reload
  dsimp only
  simp (maxDischargeDepth := 9) (implicitDefEqProofs := false) +contextual [keepsBooks]

@[simp] theorem State.leaveCell_books (s : State) : keepsBooks s s.leaveCell := by
  unfold State.leaveCell
  dsimp only
  split <;> simp (maxDischargeDepth := 9) (implicitDefEqProofs := false) +contextual [keepsBooks]

@[simp] theorem State.takeRestart_books (s : State) : keepsBooks s s.takeRestart.1 := by
  unfold State.takeRestart
  (repeat' split) <;> simp (maxDischargeDepth := 9) (implicitDefEqProofs := false) +contextual [keepsBooks, answer]

@[simp] theorem State.endLeaveWait_books (s : State) : keepsBooks s s.endLeaveWait := by
  unfold State.endLeaveWait
  dsimp only
  split <;> simp (maxDischargeDepth := 9) (implicitDefEqProofs := false) +contextual [keepsBooks]

@[simp] theorem State.endSoak_books (s : State) : keepsBooks s s.endSoak := by
  unfold State.endSoak
  (repeat' split) <;> simp (maxDischargeDepth := 9) (implicitDefEqProofs := false) +contextual [keepsBooks]

@[simp] theorem State.completeScan_books (results : List (Nat × Judged)) (s : State) : keepsBooks s (s.completeScan results) := by
  unfold State.completeScan
  (repeat' split) <;> simp (maxDischargeDepth := 9) (implicitDefEqProofs := false) +contextual [keepsBooks]

end Sys2Proof.Machine
end

section
/-! PROOF. Every step keeps the buffers bounded (`StepsKeepTheBuffersBounded`): the rows by families, over the operations' lemmas. -/

namespace Sys2Proof.Machine

open Sys2Proof

/-- What a step must keep of the places of the buffers. -/
abbrev keepsPlaces (s t : State) : Prop := keepsRoom s t ∧ keepsBooks s t

theorem keepsPlaces_refl (s : State) : keepsPlaces s s := ⟨keepsRoom_refl s, keepsBooks_refl s⟩

theorem keepsPlaces_trans {s t u : State} (first : keepsPlaces s t) (second : keepsPlaces t u) : keepsPlaces s u :=
  ⟨keepsRoom_trans first.1 second.1, keepsBooks_trans first.2 second.2⟩

/-- Ends of rows: what goes on keeps the places when it is `finish` of a state that keeps them. -/
theorem keepsPlaces_finish {s t : State} (kept : keepsPlaces s t) : keepsPlaces s t.finish :=
  keepsPlaces_trans kept ⟨t.finish_fits, t.finish_books⟩

/-- A command row keeps the places when its own effects do. -/
theorem State.command_keepsPlaces (sender : Station) (kind : Nat) (inFault lengthOk : Bool) (own : State → Taken) (s : State)
    (effect : ∀ t : State, keepsPlaces t (own t).1) : keepsPlaces s (s.command sender kind inFault lengthOk own) :=
  State.command_invariant (P := keepsPlaces s) sender kind inFault lengthOk own s (keepsPlaces_refl s)
    (fun t ht => keepsPlaces_trans ht ⟨t.heard_fits sender true, t.heard_books sender true⟩)
    (fun t r data ht => keepsPlaces_trans ht (by simp [keepsPlaces, keepsRoom, keepsBooks, State.reply])) fun t ht => keepsPlaces_trans ht (effect t)

theorem State.ask_keepsPlaces (code : Nat) (view : AskFields → State → Result × List ViewField) (sender : Station)
    (p : List Byte) (s : State) : keepsPlaces s (s.ask code view sender p) := by
  refine State.command_keepsPlaces _ _ _ _ _ s fun t => ?_
  split <;> exact keepsPlaces_refl t

theorem exec_command_keepsPlaces (c : Instr) (s : State) (command : c.header.isSome = true) :
    leadsTo (keepsPlaces s) (exec c s) := by
  cases c with
  | askStatus | askPosition | askChannel | askPeer | askProbe | askPoint | askQueue | askShare | askIdent =>
    exact State.ask_keepsPlaces _ _ _ _ s
  | seg sender p => exact State.command_keepsPlaces _ _ _ _ _ s fun t => ⟨t.takeSeg_fits sender p, t.takeSeg_books sender p⟩
  | go sender => exact State.command_keepsPlaces _ _ _ _ _ s fun t => ⟨t.takeGo_fits sender, t.takeGo_books sender⟩
  | hold sender => exact State.command_keepsPlaces _ _ _ _ _ s fun t => ⟨t.takeHold_fits sender, t.takeHold_books sender⟩
  | goOn sender => exact State.command_keepsPlaces _ _ _ _ _ s fun t => ⟨t.takeGoOn_fits sender, t.takeGoOn_books sender⟩
  | home => exact State.command_keepsPlaces _ _ _ _ _ s fun t => ⟨t.takeHome_fits, t.takeHome_books⟩
  | drivesOn => exact State.command_keepsPlaces _ _ _ _ _ s fun t => ⟨t.takeDrivesOn_fits, t.takeDrivesOn_books⟩
  | change sender p => exact State.command_keepsPlaces _ _ _ _ _ s fun t => ⟨t.takeChange_fits _, t.takeChange_books _⟩
  | qualify => exact State.command_keepsPlaces _ _ _ _ _ s fun t => ⟨t.takeQualify_fits, t.takeQualify_books⟩
  | probedef sender p =>
    exact State.command_keepsPlaces _ _ _ _ _ s fun t => ⟨t.takeProbedef_fits p, t.takeProbedef_books p⟩
  | reportmark sender p =>
    exact State.command_keepsPlaces _ _ _ _ _ s fun t => ⟨t.takeReportmark_fits p, t.takeReportmark_books p⟩
  | evmask sender p => exact State.command_keepsPlaces _ _ _ _ _ s fun t => ⟨t.takeEvmask_fits p, t.takeEvmask_books p⟩
  | shadowOn => exact State.command_keepsPlaces _ _ _ _ _ s fun t => ⟨t.takeShadowOn_fits, t.takeShadowOn_books⟩
  | shadowOff => exact State.command_keepsPlaces _ _ _ _ _ s fun t => ⟨t.takeShadowOff_fits, t.takeShadowOff_books⟩
  | restart => exact State.command_keepsPlaces _ _ _ _ _ s fun t => ⟨t.takeRestart_fits, t.takeRestart_books⟩
  | part => exact State.command_keepsPlaces _ _ _ _ _ s fun t => keepsPlaces_refl t
  | stop =>
    refine State.command_keepsPlaces _ _ _ _ _ s fun t => keepsPlaces_finish ⟨t.stopTaken_fits _ _, by simp [keepsBooks]⟩
  | drivesOff =>
    refine State.command_keepsPlaces _ _ _ _ _ s fun t => keepsPlaces_finish ⟨t.cutDrives_fits _, by simp [keepsBooks]⟩
  | _ => cases command

/-- The lists of claims and the parts held have their shapes. -/
def State.booksFit (s : State) : Prop := claimsFit s.table ∧ claimsFit s.join.image ∧ partsFit s.join.parts

theorem State.ownReady_keepsPlaces {f : ShareFrame} {s t : State} (ready : s.ownReady f = some t) : keepsPlaces s t := by
  unfold State.ownReady at ready
  split at ready
  · cases ready
    simp [keepsPlaces, keepsRoom, keepsBooks]
  · split at ready
    · next tx _ =>
      cases ready
      exact keepsPlaces_trans (t := s.ownAccepted tx) ⟨s.ownAccepted_fits tx, s.ownAccepted_books tx⟩
        (by simp [keepsPlaces, keepsRoom, keepsBooks])
    · cases ready

/-- An accepted share frame keeps the places (R62, R86). -/
theorem State.share_keepsPlaces (sender : Station) (seq : BitVec 16) (f : ShareFrame) (s : State) (books : s.booksFit) :
    keepsPlaces s (s.share sender seq f) := by
  obtain ⟨table, image, parts⟩ := books
  unfold State.share
  split
  · split
    · next t ready =>
      have kept := State.ownReady_keepsPlaces ready
      refine keepsPlaces_finish (keepsPlaces_trans kept ⟨t.applyOwn_fits seq f, ?_⟩)
      exact t.applyOwn_books seq f (kept.2.1 table) (kept.2.2.1 image)
    · exact keepsPlaces_refl s
  · split
    · exact keepsPlaces_finish ⟨s.shareReceived_fits sender seq f, s.shareReceived_books sender seq f table⟩
    · exact keepsPlaces_refl s

theorem exec_snapshot_keepsPlaces (sender : Station) (part : SnapshotPart) (s : State) (books : s.booksFit)
    (shape : partShape part.body = true) : leadsTo (keepsPlaces s) (exec (.snapshot sender part) s) := by
  obtain ⟨table, image, parts⟩ := books
  simp only [exec, execSnapshot]
  have heard : keepsPlaces s (s.heard sender true) := ⟨s.heard_fits sender true, s.heard_books sender true⟩
  split
  · exact keepsPlaces_refl s
  · split
    · refine keepsPlaces_finish (keepsPlaces_trans heard ⟨State.collect_fits part _, ?_⟩)
      exact State.collect_books part _ (heard.2.2.2 parts) shape
    · exact heard

theorem exec_line_keepsPlaces (c : Instr) (s : State) (frame : lineRow c = true) (books : s.booksFit)
    (shaped : c.wellFormed = true) : leadsTo (keepsPlaces s) (exec c s) := by
  cases c with
  | lost | join | observedFoundingJoin | attach | leave | claim | withdraw | release | clear | slotSet | slotSense =>
    exact s.share_keepsPlaces _ _ _ books
  | foundingJoin =>
    simp only [exec, execFoundingJoin]
    split
    · exact s.share_keepsPlaces _ _ _ books
    · exact keepsPlaces_refl s
  | snapshot sender part => exact exec_snapshot_keepsPlaces sender part s books shaped
  | cellStop | thermal | presence | otherFrameAccepted | receivedFrameVoid =>
    simp only [exec, execCellStop, execThermal, execPresence, execOtherFrameAccepted, execReceivedFrameVoid]
    (repeat' split) <;>
      simp (maxDischargeDepth := 9) (implicitDefEqProofs := false) +contextual [keepsPlaces, keepsRoom, keepsBooks]
  | crcVeto | frameAbandoned | frameBegin | arbitrationLost | arbitrationWon | bitError | ownFrameAccepted | ownFrameVoid =>
    simp only [exec, execCrcVeto, execFrameAbandoned, execFrameBegin, execArbitrationLost, execArbitrationWon, execBitError,
      execOwnFrameAccepted, execOwnFrameVoid]
    (repeat' split) <;>
      simp (maxDischargeDepth := 9) (implicitDefEqProofs := false) +contextual [keepsPlaces, keepsRoom, keepsBooks]
  | _ => cases frame

theorem exec_expiry_keepsPlaces (c : Instr) (s : State) (expiry : c.isExpiry = true) : leadsTo (keepsPlaces s) (exec c s) := by
  cases c with
  | presenceTimerExpiry | peerSilence | isolation | joinWindowExpiry | joinWaitExpiry | quietEnd | leaveWaitEnd =>
    simp only [exec, execPresenceTimerExpiry, execPeerSilence, execIsolation, execJoinWindowExpiry, execJoinWaitExpiry,
      execQuietEnd, execLeaveWaitEnd]
    (repeat' split) <;>
      simp (maxDischargeDepth := 9) (implicitDefEqProofs := false) +contextual [keepsPlaces, keepsRoom, keepsBooks]
  | claimTimerExpiry | reportTimerExpiry | cadenceTimerExpiry | soakLimitExpiry | releaseTimeExpiry | seatTimeExpiry =>
    simp only [exec, execClaimTimerExpiry, execReportTimerExpiry, execCadenceTimerExpiry, execSoakLimitExpiry,
      execReleaseTimeExpiry, execSeatTimeExpiry]
    (repeat' split) <;>
      simp (maxDischargeDepth := 9) (implicitDefEqProofs := false) +contextual [keepsPlaces, keepsRoom, keepsBooks]
  | _ => cases expiry

theorem exec_input_keepsPlaces (c : Instr) (s : State) (input : (c.movesTrigger || c.movesAxisInput) = true) :
    leadsTo (keepsPlaces s) (exec c s) := by
  cases c with
  | triggerEdge | triggerReturnUnasserted | falseTrigger =>
    simp only [exec, execTriggerEdge, execTriggerReturnUnasserted, execFalseTrigger]
    split <;> simp (maxDischargeDepth := 9) (implicitDefEqProofs := false) +contextual [keepsPlaces, keepsRoom, keepsBooks]
  | scaleStep | scaleFaultInput | scaleFaultCleared | hwLimitAsserted | hwLimitCleared =>
    simp only [exec, execScaleStep, execScaleFaultInput, execScaleFaultCleared, execHwLimitAsserted, execHwLimitCleared]
    (repeat' split) <;>
      simp (maxDischargeDepth := 9) (implicitDefEqProofs := false) +contextual [keepsPlaces, keepsRoom, keepsBooks]
  | _ => cases input

theorem exec_site_keepsPlaces (c : Instr) (s : State) (site : siteRow c = true) : leadsTo (keepsPlaces s) (exec c s) := by
  cases c with
  | scaleCountFault | conversionEnd | scanCompletion | contactAccepted | idReadEnd | lockPulseEnd | referenceMark | seekEnd
  | followingError | dwellEnd =>
    simp only [exec, execScaleCountFault, execConversionEnd, execScanCompletion, execContactAccepted, execIdReadEnd,
      execLockPulseEnd, execReferenceMark, execSeekEnd, execFollowingError, execDwellEnd]
    (repeat' split) <;>
      simp (maxDischargeDepth := 9) (implicitDefEqProofs := false) +contextual [keepsPlaces, keepsRoom, keepsBooks]
  | travelComplete | controlledStopEnd | backOffEnd | excursionArrival | returnMoveEnd | changeMoveArrival | transferLegEnd =>
    simp only [exec, execTravelComplete, execControlledStopEnd, execBackOffEnd, execExcursionArrival, execReturnMoveEnd,
      execChangeMoveArrival, execTransferLegEnd]
    (repeat' split) <;>
      simp (maxDischargeDepth := 9) (implicitDefEqProofs := false) +contextual [keepsPlaces, keepsRoom, keepsBooks]
  | _ => cases site

theorem exec_block_keepsPlaces (c : Instr) (s : State) (block : c = .estop ∨ c = .estopCleared ∨
    (∃ seated, c = .headFilterEnd seated) ∨ ∃ slot present, c = .slotFilterEnd slot present) :
    leadsTo (keepsPlaces s) (exec c s) := by
  rcases block with rfl | rfl | ⟨seated, rfl⟩ | ⟨slot, present, rfl⟩
  all_goals
    simp only [exec, execEstop, execEstopCleared, execHeadFilterEnd, execSlotFilterEnd]
    (repeat' split) <;>
      simp (maxDischargeDepth := 9) (implicitDefEqProofs := false) +contextual [keepsPlaces, keepsRoom, keepsBooks]

/-! The image's own probe definitions. -/

theorem allSome_length {α : Type} {l : List (Option α)} {m : List α} (all : allSome l = some m) : m.length = l.length := by
  induction l generalizing m with
  | nil =>
    cases all
    rfl
  | cons a l ih =>
    cases a with
    | none => cases all
    | some a =>
      obtain ⟨tail, rest, rfl⟩ := Option.map_eq_some_iff.1 all
      simp [ih rest]

theorem probeDefsOf_length {m : List Byte} {defs : List ProbeDef} (read : probeDefsOf m = some defs) : defs.length ≤ 8 := by
  unfold probeDefsOf at read
  dsimp only at read
  split at read
  · next few =>
    split at read
    · next all =>
      split at read
      · cases read
        have length := allSome_length all
        simp only [List.length_map, List.length_range] at length
        omega
      · cases read
    · cases read
  · cases read

/-- An image that passed its judgements has eight probe definitions at most (R177, Table 13-1). -/
theorem imageOf_probeDefs_length {memory : List Byte} {c : Image} (image : imageOf memory = some c) :
    c.probeDefs.length ≤ 8 := by
  unfold imageOf at image
  dsimp only at image
  split at image
  · unfold imageFields at image
    split at image
    · next defs _ _ _ _ _ _ read _ _ _ _ =>
      have few := probeDefsOf_length read
      split at image
      · split at image
        · cases image
          exact few
        · cases image
      · cases image
    · cases image
  · cases image

theorem State.loadEnded_keepsPlaces (image : Option Image) (format : BitVec 16) (headHigh : Bool) (slotInputs : SlotSet)
    (s : State) (few : ∀ c, image = some c → c.probeDefs.length ≤ 8) :
    keepsPlaces s (s.loadEnded image format headHigh slotInputs) := by
  refine ⟨?_, s.loadEnded_books image format headHigh slotInputs⟩
  unfold State.loadEnded
  dsimp only
  split
  · next c =>
    have few := few c rfl
    split <;> simp +contextual [keepsRoom, State.takeImage, few]
  · split <;> simp (implicitDefEqProofs := false) +contextual [keepsRoom]

theorem exec_configLoadEnd_keepsPlaces (memory : List Byte) (headHigh : Bool) (slotInputs : SlotSet) (s : State) :
    leadsTo (keepsPlaces s) (exec (.configLoadEnd memory headHigh slotInputs) s) := by
  simp only [exec, execConfigLoadEnd]
  split
  · exact s.loadEnded_keepsPlaces _ _ _ _ fun c image => imageOf_probeDefs_length image
  · exact keepsPlaces_refl s

theorem exec_keepsPlaces (c : Instr) (s t : State) (books : s.booksFit) (shaped : c.wellFormed = true)
    (start : ∀ straps, c ≠ .coldReset straps) (step : exec c s = .next t) : keepsPlaces s t := by
  have row (kept : leadsTo (keepsPlaces s) (exec c s)) : keepsPlaces s t := by rwa [step] at kept
  cases c with
  | coldReset straps => exact absurd rfl (start straps)
  | configLoadEnd => exact row (exec_configLoadEnd_keepsPlaces _ _ _ s)
  | headFilterEnd | slotFilterEnd | estop | estopCleared => exact row (exec_block_keepsPlaces _ s (by simp))
  | seg | go | hold | goOn | stop | home | drivesOn | drivesOff | change | qualify | probedef | part | reportmark | evmask
  | shadowOn | shadowOff | askStatus | askPosition | askChannel | askPeer | askProbe | askPoint | askQueue | askShare
  | askIdent | restart =>
    exact row (exec_command_keepsPlaces _ s rfl)
  | presenceTimerExpiry | peerSilence | isolation | joinWindowExpiry | joinWaitExpiry | quietEnd | leaveWaitEnd
  | claimTimerExpiry | reportTimerExpiry | cadenceTimerExpiry | soakLimitExpiry | releaseTimeExpiry | seatTimeExpiry =>
    exact row (exec_expiry_keepsPlaces _ s rfl)
  | triggerEdge | triggerReturnUnasserted | falseTrigger | scaleStep | scaleFaultInput | scaleFaultCleared | hwLimitAsserted
  | hwLimitCleared =>
    exact row (exec_input_keepsPlaces _ s rfl)
  | cellStop | lost | join | foundingJoin | observedFoundingJoin | attach | leave | claim | withdraw | release | clear | slotSet
  | slotSense | snapshot | thermal | presence | otherFrameAccepted | receivedFrameVoid | crcVeto | frameAbandoned | frameBegin
  | arbitrationLost | arbitrationWon | bitError | ownFrameAccepted | ownFrameVoid =>
    exact row (exec_line_keepsPlaces _ s rfl books shaped)
  | scaleCountFault | referenceMark | seekEnd | followingError | conversionEnd | scanCompletion | dwellEnd | contactAccepted
  | idReadEnd | lockPulseEnd | travelComplete | controlledStopEnd | backOffEnd | excursionArrival | returnMoveEnd
  | changeMoveArrival | transferLegEnd =>
    exact row (exec_site_keepsPlaces _ s rfl)

/-- A state that keeps the places of a bounded one, and whose waiting commands are well formed, is bounded. -/
theorem State.bounded_of_keepsPlaces {s t : State} (h : s.bounded) (kept : keepsPlaces s t)
    (pending : ∀ c ∈ t.pending, c.wellFormed = true) : t.bounded := by
  obtain ⟨m1, m2, points, queue, stack, probes, ring, log, presences, slots, table, image, parts, -⟩ := h
  obtain ⟨⟨m1', m2', points', queue', stack', probes', ring', slots', log', presences'⟩, table', image', parts'⟩ := kept
  exact ⟨m1' m1, m2' m2, points' points, queue' queue, stack' stack, probes' probes, ring' ring, log' log,
    presences' presences, slots' slots, table' table, image' image, parts' parts, pending⟩

/-- The cold reset leaves every buffer but the commands that wait empty. -/
theorem execColdReset_bounded (straps : Straps) (s t : State) (step : exec (.coldReset straps) s = .next t)
    (pending : ∀ c ∈ s.pending, c.wellFormed = true) : t.bounded := by
  cases step
  have empty {n : Nat} : 0 ≤ n := Nat.zero_le n
  exact ⟨empty, empty, empty, empty, empty, empty, empty, empty, empty, rfl, nofun, nofun, nofun, pending⟩

theorem State.tick_keepsPlaces (s : State) : keepsPlaces s s.tick ∧ s.tick.pending = s.pending := by
  refine ⟨⟨s.tick_fits, ?_⟩, ?_⟩
  all_goals
    unfold State.tick State.advanceSetpoints
    (repeat' split) <;> simp [keepsBooks]

/-- Settles O58: by the rows, a millisecond leaving the buffers alone. -/
theorem stepsKeepTheBuffersBounded : Obligations.StepsKeepTheBuffersBounded := by
  intro s t h step
  have bounded := h
  obtain ⟨-, -, -, -, -, -, -, -, -, -, table, image, parts, pending⟩ := h
  unfold Machine.step at step
  split at step
  · next c rest queue =>
    have shaped : c.wellFormed = true := pending c (by simp [queue])
    have waiting : ∀ d ∈ rest, d.wellFormed = true := fun d hd => pending d (by simp [queue, hd])
    have left : t.pending = rest := (commandsLeaveOtherBlocksAlone c { s with pending := rest } t step).1
    by_cases reset : ∃ straps, c = .coldReset straps
    · obtain ⟨straps, rfl⟩ := reset
      exact execColdReset_bounded straps _ t step waiting
    · have kept := exec_keepsPlaces c { s with pending := rest } t ⟨table, image, parts⟩ shaped
        (fun straps same => reset ⟨straps, same⟩) step
      exact State.bounded_of_keepsPlaces (s := s) bounded kept (left.symm ▸ waiting)
  · cases step
    obtain ⟨kept, waiting⟩ := s.tick_keepsPlaces
    exact State.bounded_of_keepsPlaces bounded kept (waiting.symm ▸ pending)

end Sys2Proof.Machine
end

section
/-! PROOF. Reading one axis of a vector, and what the ends of motions, runs and excursions leave of the event set: they write the slots
of RUN_END 1, CHANGE_END 2 and QUAL_END 3 alone, and never the mask (R172). -/

namespace Sys2Proof.Machine

open Sys2Proof

@[simp] theorem vget_vmap {α β : Type} (f : AxisName → α → β) (v : Vec3 α) (a : AxisName) : vget (vmap f v) a = f a (vget v a) := by
  cases a <;> rfl

@[simp] theorem vget_vset_same {α : Type} (v : Vec3 α) (a : AxisName) (x : α) : vget (vset v a x) a = x := by
  cases a <;> rfl

theorem vget_vset_other {α : Type} (v : Vec3 α) {a b : AxisName} (x : α) (h : b ≠ a) : vget (vset v a x) b = vget v b := by
  cases a <;> cases b <;> simp_all [vset, vget]

theorem vec3_ext {α : Type} {v w : Vec3 α} (h : ∀ a, vget v a = vget w a) : v = w := by
  have x := h .x
  have y := h .y
  have z := h .z
  cases v
  cases w
  simp_all [vget]

/-- The mask of the event set and its slots but those of RUN_END, CHANGE_END and QUAL_END stand as they were. -/
abbrev leavesSlots (s t : State) : Prop :=
  (∀ n : Nat, n ≠ 1 → n ≠ 2 → n ≠ 3 → t.events.slots[n]? = s.events.slots[n]?) ∧ t.events.mask = s.events.mask ∧
  t.events.slots.length = s.events.slots.length

@[simp] theorem State.emit_mask (e : Event) (s : State) :
    (s.emit e).events.mask = s.events.mask ∧ (s.emit e).events.slots.length = s.events.slots.length := by
  unfold State.emit
  split <;> simp

/-- An occurrence writes the slot of its own kind alone (R172). -/
theorem State.emit_leavesSlots (e : Event) (s : State) (kind : e.kind = 1 ∨ e.kind = 2 ∨ e.kind = 3) :
    leavesSlots s (s.emit e) :=
  ⟨fun n h1 h2 h3 => s.emit_other e n (by omega), s.emit_mask e⟩

@[simp] theorem State.emit_qualEnd_slot (outcome : QualOutcome) (radius : Lu) (s : State) {n : Nat} (h : n ≠ 3) :
    (s.emit (.qualEnd outcome radius)).events.slots[n]? = s.events.slots[n]? :=
  s.emit_other _ n h

@[simp] theorem State.emit_runEnd_slot (reason : RunEndReason) (b : Byte) (s : State) {n : Nat} (h : n ≠ 1) :
    (s.emit (s.runEndEvent reason b)).events.slots[n]? = s.events.slots[n]? :=
  s.emit_other _ n (by simpa using h)

@[simp] theorem State.changeEnded_leavesSlots (outcome : ChangeOutcome) (s : State) : leavesSlots s (s.changeEnded outcome) := by
  exact s.emit_leavesSlots _ (.inr (.inl rfl))

@[simp] theorem State.judgeHead_leavesSlots (outcome : ChangeOutcome) (s : State) : leavesSlots s (s.judgeHead outcome) := by
  unfold State.judgeHead
  dsimp only
  (repeat' split) <;> simp (maxDischargeDepth := 9) (implicitDefEqProofs := false) +contextual [leavesSlots]

theorem leavesSlots_trans {s t u : State} (first : leavesSlots s t) (second : leavesSlots t u) : leavesSlots s u :=
  ⟨fun n h1 h2 h3 => (second.1 n h1 h2 h3).trans (first.1 n h1 h2 h3), second.2.1.trans first.2.1, second.2.2.trans first.2.2⟩

theorem State.judgeHeads_leavesSlots (l : List (Nat × ChangeOutcome)) (s : State) :
    leavesSlots s (l.foldl (fun s w => s.judgeHead w.2) s) := by
  induction l generalizing s with
  | nil => simp [leavesSlots]
  | cons w l ih => exact leavesSlots_trans (s.judgeHead_leavesSlots w.2) (ih _)

@[simp] theorem State.closeWindows_leavesSlots (s : State) : leavesSlots s s.closeWindows := by
  unfold State.closeWindows
  exact State.judgeHeads_leavesSlots _ _

@[simp] theorem State.askPulse_leavesSlots (kind : PulseKind) (r : ChangeRecord) (s : State) : leavesSlots s (s.askPulse kind r) := by
  unfold State.askPulse
  simp (maxDischargeDepth := 9) (implicitDefEqProofs := false) +contextual [leavesSlots]

@[simp] theorem State.endChange_leavesSlots (outcome : ChangeOutcome) (r : ChangeRecord) (s : State) : leavesSlots s (s.endChange outcome r) := by
  unfold State.endChange
  dsimp only
  (repeat' split) <;> simp (maxDischargeDepth := 9) (implicitDefEqProofs := false) +contextual [leavesSlots]

@[simp] theorem State.changeDone_leavesSlots (s : State) : leavesSlots s s.changeDone := by
  unfold State.changeDone
  dsimp only
  (repeat' split) <;> simp (maxDischargeDepth := 9) (implicitDefEqProofs := false) +contextual [leavesSlots]

@[simp] theorem State.abortChange_leavesSlots (s : State) : leavesSlots s s.abortChange := by
  unfold State.abortChange
  dsimp only
  (repeat' split) <;> simp (maxDischargeDepth := 9) (implicitDefEqProofs := false) +contextual [leavesSlots]

@[simp] theorem State.failChange_leavesSlots (s : State) : leavesSlots s s.failChange := by
  unfold State.failChange
  (repeat' split) <;> simp (maxDischargeDepth := 9) (implicitDefEqProofs := false) +contextual [leavesSlots]

@[simp] theorem State.endQualification_leavesSlots (outcome : QualOutcome) (s : State) : leavesSlots s (s.endQualification outcome) := by
  unfold State.endQualification
  (repeat' split) <;> simp (maxDischargeDepth := 9) (implicitDefEqProofs := false) +contextual [leavesSlots]

@[simp] theorem State.discardExcursions_leavesSlots (outcome : QualOutcome) (s : State) : leavesSlots s (s.discardExcursions outcome) := by
  unfold State.discardExcursions
  dsimp only
  simp (maxDischargeDepth := 9) (implicitDefEqProofs := false) +contextual [leavesSlots]

@[simp] theorem State.failAll_leavesSlots (s : State) : leavesSlots s s.failAll := by
  unfold State.failAll
  dsimp only
  simp (maxDischargeDepth := 9) (implicitDefEqProofs := false) +contextual [leavesSlots]

@[simp] theorem State.abortAll_leavesSlots (s : State) : leavesSlots s s.abortAll := by
  unfold State.abortAll
  dsimp only
  simp (maxDischargeDepth := 9) (implicitDefEqProofs := false) +contextual [leavesSlots]

@[simp] theorem State.endRun_leavesSlots (reason : RunEndReason) (b : Byte) (s : State) : leavesSlots s (s.endRun reason b) := by
  unfold State.endRun
  dsimp only
  (repeat' split) <;> simp (maxDischargeDepth := 9) (implicitDefEqProofs := false) +contextual [leavesSlots]

@[simp] theorem State.releaseAfterExcursion_leavesSlots (had : Bool) (s : State) : leavesSlots s (s.releaseAfterExcursion had) := by
  unfold State.releaseAfterExcursion
  (repeat' split) <;> simp (maxDischargeDepth := 9) (implicitDefEqProofs := false) +contextual [leavesSlots]

@[simp] theorem State.bringToRest_leavesSlots (after : AfterStop) (s : State) : leavesSlots s (s.bringToRest after) := by
  unfold State.bringToRest
  dsimp only
  (repeat' split) <;> simp (maxDischargeDepth := 9) (implicitDefEqProofs := false) +contextual [leavesSlots]

@[simp] theorem State.discardWaiting_leavesSlots (s : State) : leavesSlots s s.discardWaiting := by
  unfold State.discardWaiting
  dsimp only
  simp (maxDischargeDepth := 9) (implicitDefEqProofs := false) +contextual [leavesSlots]

@[simp] theorem State.stopAll_leavesSlots (reason : RunEndReason) (b : Byte) (s : State) : leavesSlots s (s.stopAll reason b) := by
  unfold State.stopAll
  dsimp only
  (repeat' split) <;> simp (maxDischargeDepth := 9) (implicitDefEqProofs := false) +contextual [leavesSlots]

@[simp] theorem State.cutDrives_leavesSlots (reason : RunEndReason) (s : State) : leavesSlots s (s.cutDrives reason) := by
  unfold State.cutDrives
  dsimp only
  simp (maxDischargeDepth := 9) (implicitDefEqProofs := false) +contextual [leavesSlots]

/-- A fault is pending in the slot of its kind (R12, R172). -/
theorem State.raise_slot (r : FaultReport) (s : State) (mask : s.events.mask.getLsbD 0 = true)
    (length : s.events.slots.length = 12) :
    ∃ slot, (s.raise r).events.slots[0]? = some slot ∧ slot.pending = some (.fault r s.positions) :=
  State.emit_slot (.fault r s.positions) { s with lastFault := some r.code } mask length

/-- The FAULT slot behind a fault that de-energizes is that of its occurrence. -/
theorem State.faultOff_slot (r : FaultReport) (s : State) :
    (s.faultOff r).events.slots[0]? = (s.raise r).events.slots[0]? := by
  unfold State.faultOff
  simp (maxDischargeDepth := 9) (implicitDefEqProofs := false)

theorem State.faultStill_slot (r : FaultReport) (s : State) :
    (s.faultStill r).events.slots[0]? = (s.raise r).events.slots[0]? := by
  unfold State.faultStill
  simp (maxDischargeDepth := 9) (implicitDefEqProofs := false)

end Sys2Proof.Machine
end

section
/-! PROOF. The axis unit: scale counting, scale faults, limits, the following error and ESTOP (chapter 1). -/

namespace Sys2Proof.Machine

open Sys2Proof

@[simp] theorem vmap_vmap {α β γ : Type} (f : AxisName → β → γ) (g : AxisName → α → β) (v : Vec3 α) :
    vmap f (vmap g v) = vmap (fun n a => f n (g n a)) v := rfl

@[simp] theorem State.updateAxis_self (axis : AxisName) (f : AxisChannel → AxisChannel) (s : State) :
    vget (s.updateAxis axis f).axes axis = f (vget s.axes axis) :=
  vget_vset_same _ _ _

theorem State.updateAxis_other (axis : AxisName) (f : AxisChannel → AxisChannel) (s : State) {b : AxisName} (h : b ≠ axis) :
    vget (s.updateAxis axis f).axes b = vget s.axes b :=
  vget_vset_other _ _ h

/-- A step against the count sense is the resolution taken away. -/
theorem AxisConf.add_step (c : AxisConf) (forward : Bool) (x : Lu) :
    x + c.step forward =
      if forward = c.senseNegative then x - (c.resolution.setWidth 32 : Lu) else x + (c.resolution.setWidth 32 : Lu) := by
  unfold AxisConf.step
  split <;> simp_all [BitVec.sub_eq_add_neg]

/-- Settles O10. -/
theorem scaleStepMovesOneAxis : Obligations.ScaleStepMovesOneAxis := by
  unfold Obligations.ScaleStepMovesOneAxis
  intro axis forward s
  refine ⟨_, rfl, rfl, fun b other => s.updateAxis_other axis _ other, ?_⟩
  cases config : s.config with
  | none => simp
  | some c => simp [AxisChannel.follow, AxisConf.add_step]

/-- A scale fault cuts the drives of an arm that has them, and ends the run of one that has not (R8). -/
theorem State.scaleFault_cuts (axis : AxisName) (detail : Nat) {s : State} (off : s.arm.energized = false → s.arm.st = .off) :
    let u := s.scaleFault axis detail
    (vget u.axes axis).referenced = false ∧ (vget u.axes axis).scaleFault = (vget s.axes axis).scaleFault ∧
    u.lastFault = some .scale ∧ u.arm.energized = false ∧ u.arm.st = .off ∧ u.run.st = .none := by
  unfold State.scaleFault
  dsimp only
  split
  · simp [report]
  · simp_all [report, State.raise, State.raiseAt]

theorem State.positions_updateAxis {axis : AxisName} {f : AxisChannel → AxisChannel} (s : State)
    (kept : (f (vget s.axes axis)).pos = (vget s.axes axis).pos) : (s.updateAxis axis f).positions = s.positions := by
  cases axis <;> simp_all [State.updateAxis, State.positions, vmap, vset, vget]

/-- The occurrence of a scale fault, with the positions of the arm. -/
theorem State.scaleFault_slot (axis : AxisName) (detail : Nat) {s : State} (mask : s.events.mask.getLsbD 0 = true)
    (length : s.events.slots.length = 12) :
    ∃ slot, (s.scaleFault axis detail).events.slots[0]? = some slot ∧
      slot.pending = some (.fault (report .scale (axisCode axis) detail) s.positions) := by
  have raised := State.raise_slot (report .scale (axisCode axis) detail)
    (s.updateAxis axis (fun a => { a with referenced := false })) mask length
  rw [State.positions_updateAxis s rfl] at raised
  unfold State.scaleFault
  dsimp only
  split
  · rw [State.faultOff_slot]
    exact raised
  · simpa using raised

/-- Settles O11. -/
theorem scaleFaultUnreferencesItsAxis : Obligations.ScaleFaultUnreferencesItsAxis := by
  unfold Obligations.ScaleFaultUnreferencesItsAxis
  rintro axis s ⟨off, -⟩
  refine ⟨?count, fun clear => ?input, fun asserted => by simp [exec, execScaleFaultInput, asserted]⟩
  case count =>
    obtain ⟨referenced, -, fault, cut, st, run⟩ := State.scaleFault_cuts axis 1 off.mpr
    exact ⟨_, rfl, referenced, fault, cut, st, run, State.scaleFault_slot axis 1⟩
  case input =>
    let taken := s.updateAxis axis (fun a => { a with scaleFault := true })
    have same : taken.positions = s.positions := State.positions_updateAxis s rfl
    obtain ⟨referenced, level, fault, cut, st, run⟩ := State.scaleFault_cuts (s := taken) axis 0 off.mpr
    refine ⟨taken.scaleFault axis 0, by simp [exec, execScaleFaultInput, clear, taken], referenced,
      level.trans (by simp [taken]), fault, cut, st, run, ?_⟩
    rw [← same]
    exact State.scaleFault_slot (s := taken) axis 0

@[simp] theorem AxisChannel.limitLevel_setLimit (side : Side) (level : Bool) (a : AxisChannel) :
    (a.setLimit side level).limitLevel side = level := by
  cases side <;> rfl

@[simp] theorem AxisChannel.limitLevel_setpoint (side : Side) (x : Lu) (a : AxisChannel) :
    ({ a with setpoint := x } : AxisChannel).limitLevel side = a.limitLevel side := by
  cases side <;> rfl

/-- Settles O13. -/
theorem limitInputsCutTheDrives : Obligations.LimitInputsCutTheDrives := by
  unfold Obligations.LimitInputsCutTheDrives
  intro axis side s
  refine ⟨fun level => by simp [exec, execHwLimitAsserted, level], fun level => ⟨fun still => ?_, fun on real => ?_⟩, rfl, rfl,
    rfl⟩
  · have quiet : (s.arm.energized && !s.arm.shadow) = false := by
      obtain off | shadow := still <;> simp [*]
    simp [exec, execHwLimitAsserted, level, State.updateAxis, quiet]
  · let taken := s.updateAxis axis (AxisChannel.setLimit side true)
    let code := if taken.seeking == some axis then FaultCode.homeFail else .limit
    refine ⟨taken.faultOff (report code (axisCode axis) (sideDetail side)), ?_, ?_⟩
    · simp [exec, execHwLimitAsserted, level, on, real, taken, code]
    · simp [report, code, taken, State.seeking, and_assoc]

@[simp] theorem State.moveSetpoints_axis (v : Vec3 Lu) (a : AxisName) (s : State) :
    vget (s.moveSetpoints v).axes a =
      { vget s.axes a with setpoint := vget v a, pos := if s.arm.shadow then vget v a else (vget s.axes a).pos } :=
  vget_vmap _ _ _

/-- The advance of the setpoints changes no drive, and outside shadow mode no position. -/
theorem State.atLoopStep_leaves (since : BitVec 32) (s : State) :
    let now := s.atLoopStep since
    now.config = s.config ∧ now.arm.energized = s.arm.energized ∧ now.arm.shadow = s.arm.shadow ∧
    ∀ a, s.arm.shadow = false → (vget now.axes a).pos = (vget s.axes a).pos := by
  unfold State.atLoopStep State.moveAlong State.config
  dsimp only
  (repeat' split) <;> simp_all [State.moveSetpoints]

/-- A seek moves the setpoint of its own axis alone. -/
theorem State.atLoopStep_seek (since : BitVec 32) {s : State} {c : Image} {m : Motion} {b axis : AxisName}
    (config : s.config = some c) (motion : s.arm.motion = some m) (seek : m.act = .seek b) (other : axis ≠ b) :
    (vget (s.atLoopStep since).axes axis).setpoint = (vget s.axes axis).setpoint := by
  unfold State.atLoopStep State.moveAlong
  simp only [motion, seek, config]
  split <;> simp [vget_vset_other _ _ other, State.setpoints]

/-- Settles O14. -/
theorem followingErrorBeyondTheLimit : Obligations.FollowingErrorBeyondTheLimit := by
  unfold Obligations.FollowingErrorBeyondTheLimit
  intro axis since c s config
  obtain ⟨conf, energized, shadow, positions⟩ := s.atLoopStep_leaves since
  rw [config] at conf
  refine ⟨fun still => ?_, fun on real beyond => ?_, fun stands => ?_, fun real => ?_, fun m b motion seek other => ?_⟩
  · simp only [exec, execFollowingError, conf, energized, shadow]
    refine if_neg fun beyond => ?_
    simp only [Bool.and_eq_true, Bool.not_eq_true', decide_eq_true_eq] at beyond
    obtain ⟨⟨on, real⟩, far⟩ := beyond
    obtain off | shadowed | near := still
    · simp [off] at on
    · simp [shadowed] at real
    · omega
  · exact ⟨_, by simp only [exec, execFollowingError, conf, energized, shadow]; rw [if_pos (by simp_all)], by simp⟩
  · unfold State.atLoopStep
    split <;> simp [stands]
  · exact vec3_ext fun a => by simpa [State.positions] using positions a real
  · exact State.atLoopStep_seek since config motion seek other.symm

@[simp] theorem State.leaveShadow_axis (a : AxisName) (s : State) :
    (vget s.leaveShadow.axes a).pos = (vget s.axes a).scale := by
  simp [State.leaveShadow, State.reloadPositions]

/-- What ESTOP has done before the drives are cut: everything in progress is aborted, and shadow mode left (R11, R39). -/
def State.estopAborts (s : State) : State :=
  let aborted := ({ s with estop := true } : State).abortAll
  if s.arm.shadow then aborted.leaveShadow else aborted

theorem execEstop_clear {s : State} (clear : s.estop = false) :
    execEstop s = .next (((s.estopAborts.deenergize.endRun .estop 0).releaseAfterExcursion
      (!s.run.stack.isEmpty || s.arm.shadow)).finish) := by
  simp [execEstop, clear, State.estopAborts]

theorem State.estopAborts_leaves (s : State) :
    s.estopAborts.estop = true ∧ s.estopAborts.arm.shadow = false ∧ s.estopAborts.run.stack = [] ∧
    s.estopAborts.lastFault = s.lastFault ∧
    ∀ a, (vget s.estopAborts.axes a).referenced = (vget s.axes a).referenced ∧
      (vget s.estopAborts.axes a).scale = (vget s.axes a).scale ∧
      (s.arm.shadow = true → (vget s.estopAborts.axes a).pos = (vget s.axes a).scale) := by
  unfold State.estopAborts
  dsimp only
  split <;> simp_all [State.leaveShadow, State.reloadPositions]

/-- A command that reaches its own tests is answered with what they say. -/
theorem State.command_answers {s u : State} {sender : Station} {own : State → Taken} {r : Result} {data : List ViewField}
    (kind : Nat) (inFault : Bool) (listens : s.listensTo sender = true)
    (taken : own (s.heard sender true) = (u, some (r, data))) :
    s.command sender kind inFault true own = u.reply sender kind r data := by
  rw [State.command_listens kind inFault own listens, taken]

/-- Settles O15. -/
theorem estopCutsTheDrives : Obligations.EstopCutsTheDrives := by
  unfold Obligations.EstopCutsTheDrives
  refine ⟨fun s stands => by simp [exec, execEstop, stands], fun s clear => ?_, fun sender s listens stands => ?_⟩
  · obtain ⟨estop, shadow, stack, fault, axes⟩ := s.estopAborts_leaves
    exact ⟨_, execEstop_clear clear, by simp +contextual [estop, shadow, stack, fault, axes, State.setpoints, State.positions]⟩
  · exact congrArg _ (State.command_answers 0x26 false listens (by simp [State.takeDrivesOn, answer, stands]))

/-- A command whose own part answers without data leaves that part's state behind its REPLY. -/
theorem State.command_answer {s u : State} {sender : Station} {own : State → Taken} {r : Result}
    (kind : Nat) (inFault : Bool) (listens : s.listensTo sender = true) (taken : own (s.heard sender true) = answer r u) :
    s.command sender kind inFault true own = u.reply sender kind r [] :=
  State.command_answers kind inFault listens taken

theorem State.attached_of_listensTo {sender : Station} {s : State} (h : s.listensTo sender = true) :
    s.join.st = .attached := by
  simp only [State.listensTo, State.fromPlanner, Bool.and_eq_true, beq_iff_eq] at h
  grind

@[simp] theorem State.heard_drivesTests (p : Station) (w : Bool) (s : State) :
    (s.heard p w).conflict = s.conflict ∧ (s.heard p w).anyScaleFault = s.anyScaleFault := by
  simp [State.conflict, State.me, State.anyScaleFault]

theorem State.takeDrivesOn_refused {s : State} (attached : s.join.st = .attached)
    (h : s.estop = true ∨ s.conflict ≠ 0 ∨ s.anyScaleFault = true) : s.takeDrivesOn = answer .state s := by
  have blocked : (s.estop || s.inConflict || s.anyScaleFault) = true := by
    simpa [State.inConflict, attached, or_assoc] using h
  simp [State.takeDrivesOn, blocked]

theorem State.takeDrivesOn_taken {s : State} (estop : s.estop = false) (conflict : s.conflict = 0)
    (fault : s.anyScaleFault = false) : s.takeDrivesOn = answer .ok s.energize.finish := by
  simp [State.takeDrivesOn, State.inConflict, *]

theorem State.tick_setpoints {s : State} (stands : s.travelling = false) : s.tick.setpoints = s.setpoints := by
  unfold State.tick
  cases s.arm.motion <;> simp [stands, State.setpoints]

/-- Settles O16. -/
theorem drivesGoOnAndOff : Obligations.DrivesGoOnAndOff := by
  unfold Obligations.DrivesGoOnAndOff
  refine ⟨fun sender s listens => ⟨fun estop conflict fault => ⟨fun on => ?_, fun off => ?_⟩, fun blocked => ?_, ?_⟩,
    fun s => ⟨fun on real => ?_, fun off => ?_⟩, fun axis c s config => ⟨fun on real => ?_, fun off => ?_, fun stands => ?_,
    fun t none next => ?_⟩⟩
  · exact congrArg _ (State.command_answer 0x26 false listens (by
      simpa [State.energize, on] using State.takeDrivesOn_taken (s := s.heard sender true) (by simpa) (by simpa) (by simpa)))
  · exact congrArg _ (State.command_answer 0x26 false listens (by
      simpa [State.energize, off, State.holdSetpoints] using State.takeDrivesOn_taken (s := s.heard sender true) (by simpa)
        (by simpa) (by simpa)))
  · exact congrArg _ (State.command_answer 0x26 false listens (State.takeDrivesOn_refused
      (by simpa using State.attached_of_listensTo listens) (by simpa)))
  · refine ⟨(s.heard sender true).cutDrives .stopped, congrArg Host.Outcome.next (State.command_answer
      (own := fun s => answer .ok (s.cutDrives .stopped).finish) 0x26 false listens rfl), ?_⟩
    simp [State.setpoints, State.positions, State.driveEnables]
  · simp [State.driveEnables, on, real]
  · obtain off | shadow := off <;> simp [State.driveEnables, *]
  · simp [State.driveDemands, on, real, config]
  · obtain off | shadow := off <;> simp [State.driveDemands, config, *]
  · simp [State.setpointRates, State.tick_setpoints stands]
  · obtain rfl : s.tick = t := by simpa [step, none] using next
    simp [State.setpointRates, State.setpoints]

end Sys2Proof.Machine
end

section
/-! PROOF. The commands of runs: SEG, GO, HOLD, GO_ON, STOP (chapter 2). -/

namespace Sys2Proof.Machine

open Sys2Proof

@[simp] theorem State.heard_ownedByOther (p q : Station) (w : Bool) (s : State) :
    (s.heard p w).ownedByOther q = s.ownedByOther q := by
  simp [State.ownedByOther]

@[simp] theorem State.heard_unreferenced (p : Station) (w : Bool) (s : State) :
    (s.heard p w).unreferenced = s.unreferenced := by
  simp [State.unreferenced]

@[simp] theorem State.heard_probe (p : Station) (w : Bool) (id : ProbeId) (s : State) :
    (s.heard p w).probe id = s.probe id := by
  simp [State.probe]

@[simp] theorem State.heard_checkSeg (p : Station) (w : Bool) (payload : List Byte) (s : State) :
    (s.heard p w).checkSeg payload = s.checkSeg payload := by
  unfold State.checkSeg
  have known : ∀ b, (s.heard p w).probeKnown b = s.probeKnown b := fun b => by cases b <;> simp [State.probeKnown]
  simp [known]

theorem State.ownedByOther_eq_false {sender : Station} {s : State} :
    s.ownedByOther sender = false ↔ s.run.owner = none ∨ s.run.owner = some sender := by
  cases h : s.run.owner <;> simp [State.ownedByOther, h]

/-- A SEG that passes its checks finds a place in the queue. -/
theorem State.room_of_checkSeg {p : List Byte} {seg : Segment} {s : State} (passes : s.checkSeg p = .ok seg) :
    s.run.queue.length < 16 := by
  unfold State.checkSeg at passes
  split at passes
  · cases passes
  · omega

/-- The checks of a SEG behind FULL and UNREF (R19). -/
theorem State.checkSeg_passing {p : List Byte} {s : State} (room : s.run.queue.length < 16)
    (referenced : segTravels p = false ∨ s.unreferenced = none) :
    s.checkSeg p = match segmentOf p, s.config with
      | some seg, some c =>
        if !segmentInRange c (segMissOk p) seg.body then .error .bad
        else if !s.probeKnown seg.body then .error .noProbe
        else .ok seg
      | _, _ => .error .bad := by
  have pass : (segTravels p && s.unreferenced.isSome) = false := by
    obtain travels | none := referenced <;> simp [*]
  simp only [State.checkSeg, Nat.not_le.mpr room, pass]
  rfl

theorem State.append_queue (sender : Station) (seg : Segment) (s : State) (owner : s.run.owner = none ∨ s.run.owner = some sender) :
    let u := s.append sender seg
    u.run.queue = s.run.queue ++ [seg] ∧ u.run.owner = some sender ∧
      u.run.st = (if s.run.st = .starved then .active else s.run.st) ∧ u.run.current = s.run.current ∧
      u.run.stack = s.run.stack ∧ u.arm = s.arm ∧ u.axes = s.axes ∧ u.table = s.table ∧
      u.events.address = (if s.run.owner = none then some sender else s.events.address) := by
  unfold State.append
  obtain owner | owner := owner
  all_goals
    simp only [owner]
    (repeat' split) <;> simp_all [State.setOwner]

/-- Settles O17. -/
theorem segJoinsTheQueue : Obligations.SegJoinsTheQueue := by
  unfold Obligations.SegJoinsTheQueue
  intro sender p seg s listens long owner passes
  refine ⟨⟨(s.heard sender true).append sender seg, ?_, ?_⟩, State.room_of_checkSeg passes⟩
  · have free : s.ownedByOther sender = false := State.ownedByOther_eq_false.mpr owner
    have queue := (State.append_queue sender seg (s.heard sender true) (by simpa using owner)).1
    exact congrArg Host.Outcome.next (State.command_answers 0x20 false listens (by
      simp [State.takeSeg, free, passes, Nat.not_lt.mpr long, queue, u8]))
  · simpa using State.append_queue sender seg (s.heard sender true) (by simpa using owner)

theorem State.takeSeg_error {sender : Station} {p : List Byte} {r : Result} {s : State} (long : 4 ≤ p.length)
    (owner : s.ownedByOther sender = false) (fails : s.checkSeg p = .error r) : s.takeSeg sender p = answer r s := by
  simp [State.takeSeg, owner, fails, Nat.not_lt.mpr long]

/-- Settles O18. -/
theorem segRefusedByTheFirstCheck : Obligations.SegRefusedByTheFirstCheck := by
  unfold Obligations.SegRefusedByTheFirstCheck
  intro sender p s listens
  have refused {r : Result} (own : (s.heard sender true).takeSeg sender p = answer r (s.heard sender true)) :
      exec (.seg sender p) s = .next ((s.heard sender true).reply sender 0x20 r []) :=
    congrArg Host.Outcome.next (State.command_answer 0x20 false listens own)
  have failing {r : Result} (long : 4 ≤ p.length) (owner : s.ownedByOther sender = false) (fails : s.checkSeg p = .error r) :
      exec (.seg sender p) s = .next ((s.heard sender true).reply sender 0x20 r []) :=
    refused (State.takeSeg_error long (by simpa using owner) (by simpa using fails))
  refine ⟨fun short => refused (by simp [State.takeSeg, short]), fun long other => refused (by simp [State.takeSeg, other, Nat.not_lt.mpr long]),
    fun long owner full => failing long owner (by simp [State.checkSeg, full]),
    fun long owner room travels unref => failing long owner ?_,
    fun long owner room passes => ⟨fun malformed => failing long owner ?_, fun seg c formed config =>
      ⟨fun range => failing long owner ?_, fun range id body unknown => failing long owner ?_⟩⟩⟩
  · simp [State.checkSeg, Nat.not_le.mpr room, travels, Option.isSome_iff_ne_none.mpr unref]
  · simp [State.checkSeg_passing room passes, malformed]
  · simp [State.checkSeg_passing room passes, formed, config, range]
  · rw [body] at range
    simp [State.checkSeg_passing room passes, formed, config, range, State.probeKnown, body, unknown]

@[simp] theorem State.emit_address (e : Event) (s : State) : (s.emit e).events.address = s.events.address := by
  unfold State.emit
  split <;> rfl

theorem State.startRun_queued {sender : Station} {s : State} (queued : s.run.queue ≠ []) :
    s.startRun sender = { s with
      run := { s.run with owner := some sender, st := .active }, events := { s.events with address := some sender } } := by
  simp [State.startRun, State.setOwner, queued]

theorem State.startRun_starved {sender : Station} {s : State} (empty : s.run.queue = []) :
    s.startRun sender = ({ s with
      run := { s.run with owner := some sender, st := .starved }
      events := { s.events with address := some sender } } : State).emit .starved := by
  simp [State.startRun, State.setOwner, empty]

/-- GO changes the run and its event alone. -/
theorem State.startRun_leaves (sender : Station) (s : State) :
    let u := s.startRun sender
    u.run.owner = some sender ∧ u.run.queue = s.run.queue ∧ u.run.current = s.run.current ∧ u.run.stack = s.run.stack ∧
    u.events.address = some sender ∧ u.arm = s.arm ∧ u.axes = s.axes ∧ u.detachDue = s.detachDue := by
  by_cases empty : s.run.queue = []
  · simp [State.startRun_starved empty]
  · simp [State.startRun_queued empty]

/-- Settles O19. -/
theorem goStartsTheRun : Obligations.GoStartsTheRun := by
  unfold Obligations.GoStartsTheRun
  intro sender s listens
  have taken {r : Result} {u : State} (own : (s.heard sender true).takeGo sender = answer r u) :
      exec (.go sender []) s = .next (u.reply sender 0x21 r []) :=
    congrArg Host.Outcome.next (State.command_answer 0x21 false listens own)
  refine ⟨fun none owner => ?_, fun none other => taken ?_, fun running => taken (by simp [State.takeGo, running])⟩
  · have free : s.ownedByOther sender = false := State.ownedByOther_eq_false.mpr owner
    obtain ⟨first, queue, current, stack, address, arm, axes, due⟩ := State.startRun_leaves sender (s.heard sender true)
    refine ⟨(s.heard sender true).startRun sender, taken (by simp [State.takeGo, none, free]), first, by simpa using queue,
      by simpa using current, by simpa using stack, address, by simpa using arm, by simpa using axes,
      fun queued => ?_, fun empty => ?_, fun moving quiet => ?_⟩
    · simp [State.startRun_queued (s := s.heard sender true) (by simpa using queued)]
    · rw [State.startRun_starved (by simpa using empty)]
      exact ⟨by simp, fun mask length => State.emit_slot .starved _ (by simpa [Event.kind] using mask) (by simpa using length)⟩
    · exact State.finish_of_advance_none (State.advance_none_of_moving (by simpa [arm] using moving)) (by simpa [due] using quiet)
  · obtain ⟨o, owner, other⟩ := other
    have busy : s.ownedByOther sender = true := by simp [State.ownedByOther, owner, other]
    simp [State.takeGo, none, busy]

@[simp] theorem State.heard_stops (p : Station) (w : Bool) (s : State) :
    (s.heard p w).inFaultStop = s.inFaultStop ∧ (s.heard p w).stopGoverns = s.stopGoverns ∧
    (s.heard p w).travelling = s.travelling := by
  simp [State.inFaultStop, State.stopGoverns, State.travelling, State.executing]

theorem exec_cellStop {sender : Station} {s : State} (reason : Byte) (receives : s.receives sender = true) :
    exec (.cellStop sender reason) s = .next (match s.table with
      | some t => if t.isPlanner sender then ((s.heard sender true).stopTaken .cellStopped reason).finish else s.heard sender true
      | none => s.heard sender true) := by
  cases table : s.table <;> simp [exec, execCellStop, receives, table]

theorem exec_stop {sender : Station} {s : State} (listens : s.listensTo sender = true) :
    exec (.stop sender []) s = .next (((s.heard sender true).stopTaken .stopped 0).finish.reply sender 0x24 .ok []) :=
  congrArg Host.Outcome.next (State.command_answer (own := fun s => answer .ok (s.stopTaken .stopped 0).finish)
    0x24 false listens rfl)

theorem State.stopAll_governed (reason : RunEndReason) (b : Byte) {s : State} (governs : s.stopGoverns = true) :
    s.stopAll reason b = if s.run.st == .none then s.flushUnrun else s := by
  simp [State.stopAll, governs]

theorem State.stopTaken_governed (reason : RunEndReason) (b : Byte) {s : State}
    (h : s.inFaultStop = true ∨ (s.stopGoverns = true ∧ s.run.st ≠ .none)) : s.stopTaken reason b = s := by
  obtain fault | ⟨governs, running⟩ := h
  · exact State.stopTaken_inFaultStop reason b s fault
  · simp [State.stopTaken, State.stopAll_governed, governs, running]

@[simp] theorem State.changeDone_change (s : State) : s.changeDone.chg.change = none := by
  unfold State.changeDone
  dsimp only
  split <;> simp_all [State.changeEnded, State.dropChange]

@[simp] theorem State.judgeHead_change (outcome : ChangeOutcome) (s : State) :
    (s.judgeHead outcome).chg.change = s.chg.change := by
  unfold State.judgeHead
  (repeat' split) <;> simp

theorem State.judgeHeads_change (ws : List (Nat × ChangeOutcome)) (s : State) :
    (ws.foldl (fun s w => s.judgeHead w.2) s).chg.change = s.chg.change := by
  induction ws generalizing s with
  | nil => rfl
  | cons w ws ih => exact (ih _).trans (s.judgeHead_change w.2)

@[simp] theorem State.closeWindows_change (s : State) : s.closeWindows.chg.change = s.chg.change := by
  unfold State.closeWindows
  exact State.judgeHeads_change _ _

@[simp] theorem State.endChange_change (outcome : ChangeOutcome) (r : ChangeRecord) (s : State) :
    (s.endChange outcome r).chg.change = none := by
  unfold State.endChange
  dsimp only
  split <;> simp [State.dropChange]

/-- After an abort no change is in progress (R131). -/
@[simp] theorem State.abortChange_change (s : State) : s.abortChange.chg.change = none := by
  unfold State.abortChange
  dsimp only
  split
  · assumption
  · split <;> simp

@[simp] theorem State.discardExcursions_change (outcome : QualOutcome) (s : State) :
    (s.discardExcursions outcome).chg.change = s.chg.change := by
  simp [State.discardExcursions]

@[simp] theorem State.abortAll_ends (s : State) :
    s.abortAll.chg.change = none ∧ s.abortAll.qual = none ∧ s.abortAll.travelling = s.travelling := by
  simp [State.abortAll, State.travelling, State.executing]

/-- RUN_END shows the end of a run, with DETACHED where the end has brought a detach (R172). -/
theorem State.endRun_slot {reason : RunEndReason} (b : Byte) {s : State} (running : s.run.st ≠ .none)
    (own : reason ≠ .detached) (mask : s.events.mask.getLsbD 1 = true) (length : s.events.slots.length = 12) :
    ∃ slot, (s.endRun reason b).events.slots[1]? = some slot ∧ slot.pending =
      some (if (s.endRun reason b).detachDue = none then .runEnd reason b else .runEnd .detached 0) := by
  let t := ({ s.dropClaim.clearStarts with run := Run.cold } : State)
  let u := t.releaseOutside t.keep
  have ended : s.endRun reason b = (u.emit (u.runEndEvent reason b)).drainRing := by simp [State.endRun, running, own, t, u]
  have event : u.runEndEvent reason b = if u.detachDue = none then .runEnd reason b else .runEnd .detached 0 := by
    cases due : u.detachDue <;> simp [State.runEndEvent, due]
  obtain ⟨slot, place, pending⟩ := State.emit_slot (u.runEndEvent reason b) u (by simpa [u, t] using mask) (by simpa [u, t] using length)
  rw [State.runEndEvent_kind] at place
  rw [ended]
  exact ⟨slot, by simpa using place, by simpa [event] using pending⟩

theorem State.bringToRest_moving (after : AfterStop) {s : State} (way : s.travelling = true) :
    let u := s.bringToRest after
    u.arm.todo = s.arm.todo ∧ u.arm.motion = s.arm.motion ∧ u.arm.stopping.map (·.after) = some after ∧
    (s.arm.stopping.map (·.fast) ≠ some true → u.arm.st = .decelerating) := by
  cases stop : s.arm.stopping <;> simp +contextual [State.bringToRest, way, stop]

theorem State.bringToRest_standing (after : AfterStop) {s : State} (way : s.travelling = false) :
    s.bringToRest after = s.standStill := by
  simp [State.bringToRest, way]

/-- What a stop that nothing governs leaves (R23, R32). -/
theorem State.stopAll_ends (why : RunEndReason) (b : Byte) {s : State} (ungoverned : s.stopGoverns = false)
    (own : why ≠ .detached) :
    let u := s.stopAll why b
    u.run.queue = [] ∧ u.run.stack = [] ∧ u.arm.todo = none ∧ u.chg.change = none ∧ u.qual = none ∧
      (s.travelling = false → u.run.st = .none ∧ u.run.owner = none ∧ u.arm.motion = none ∧ u.arm.stopping = none) ∧
      (s.travelling = false → s.run.st ≠ .none → s.events.mask.getLsbD 1 = true → s.events.slots.length = 12 →
        ∃ slot, u.events.slots[1]? = some slot ∧ slot.pending = some (if u.detachDue = none then .runEnd why b else .runEnd .detached 0)) ∧
      (s.travelling = true → s.run.st ≠ .none → u.run.st = s.run.st ∧ u.arm.motion = s.arm.motion ∧
        u.arm.stopping.map (·.after) = some (.endRun why b) ∧
        (s.arm.stopping.map (·.fast) ≠ some true → u.arm.st = .decelerating)) := by
  have stopped : s.stopAll why b = if s.run.st = .none
      then (s.abortAll.flushUnrun.releaseAfterExcursion (!s.run.stack.isEmpty)).bringToRest .still
      else if s.travelling then s.abortAll.flush.bringToRest (.endRun why b)
      else (s.abortAll.flush.bringToRest (.endRun why b)).endRun why b := by
    have way : s.abortAll.flush.travelling = s.travelling := State.abortAll_ends s |>.2.2
    simp [State.stopAll, ungoverned, way]
  dsimp only
  rw [stopped]
  have aborted := s.abortAll_ends.2.2
  split
  next none =>
    generalize t_eq : s.abortAll.flushUnrun.releaseAfterExcursion (!s.run.stack.isEmpty) = t
    have facts : t.run = { s.run with queue := [], owner := Option.none, stack := [] } ∧ t.arm.todo = Option.none ∧
        t.chg.change = Option.none ∧ t.qual = Option.none ∧ t.travelling = s.travelling := by
      rw [← aborted]
      simp [← t_eq, State.travelling, State.executing, State.flushUnrun]
    obtain ⟨run, todo, change, qual, same⟩ := facts
    cases way : s.travelling
    · rw [State.bringToRest_standing .still (same.trans way)]
      simp [run, todo, change, qual, none]
    · have start := (State.bringToRest_moving .still (same.trans way)).1
      simp [start, run, todo, change, qual, none]
  next running =>
    generalize t_eq : s.abortAll.flush = t at *
    have facts : t.run = { s.run with queue := [], stack := [] } ∧ t.arm.todo = none ∧ t.arm.motion = s.arm.motion ∧
        t.arm.stopping = s.arm.stopping ∧ t.chg.change = none ∧ t.qual = none ∧ t.travelling = s.travelling ∧
        t.events.mask = s.events.mask ∧ t.events.slots.length = s.events.slots.length := by
      rw [← aborted]
      simp [← t_eq, State.travelling, State.executing, State.flush]
    obtain ⟨run, todo, motion, stopping, change, qual, same, mask, length⟩ := facts
    cases way : s.travelling
    · rw [State.bringToRest_standing _ (same.trans way)]
      have slot (mask' : s.events.mask.getLsbD 1 = true) (length' : s.events.slots.length = 12) :=
        State.endRun_slot (s := t.standStill) b (by simpa [run] using running) own
          (by simpa [mask] using mask') (by simpa [length] using length')
      obtain ⟨cold, -⟩ := State.endRun_cold (s := t.standStill) why b (by simpa [run] using running)
      simpa [cold, Run.cold, todo, change, qual, running] using slot
    · obtain ⟨start, way', after, st⟩ := State.bringToRest_moving (.endRun why b) (same.trans way)
      rw [stopping] at st
      exact ⟨by simp [run], by simp [run], by simp [start, todo], by simp [change], by simp [qual], by simp, by simp,
        fun _ _ => ⟨by simp [run], by simp [way', motion], after, st⟩⟩

/-- Settles O22. -/
theorem stopEndsTheRun : Obligations.StopEndsTheRun := by
  unfold Obligations.StopEndsTheRun
  intro sender reason s receives
  have takes {stopped cellStopped : State} (stop : (s.heard sender true).stopTaken .stopped 0 = stopped)
      (cell : (s.heard sender true).stopTaken .cellStopped reason = cellStopped) :
      (s.listensTo sender = true → exec (.stop sender []) s = .next (stopped.finish.reply sender 0x24 .ok [])) ∧
      ((∃ tbl, s.table = some tbl ∧ tbl.isPlanner sender = true) →
        exec (.cellStop sender reason) s = .next cellStopped.finish) :=
    ⟨fun listens => by rw [exec_stop listens, stop], fun ⟨tbl, table, planner⟩ => by
      simp [exec_cellStop reason receives, table, planner, cell]⟩
  refine ⟨fun other => ?_, fun governed => ⟨takes ?_ ?_, ?_⟩, fun free governs none => takes ?_ ?_,
    fun free ungoverned => takes ?_ ?_, fun why b ungoverned own => ?_⟩
  · rw [exec_cellStop reason receives]
    grind
  · exact State.stopTaken_governed .stopped 0 (by simpa using governed)
  · exact State.stopTaken_governed .cellStopped reason (by simpa using governed)
  · exact fun moving quiet => State.finish_of_advance_none (State.advance_none_of_moving (by simpa using moving)) (by simpa using quiet)
  · simp [State.stopTaken, free, State.stopAll_governed, governs, none, State.flushUnrun]
  · simp [State.stopTaken, free, State.stopAll_governed, governs, none, State.flushUnrun]
  · simp [State.stopTaken, free]
  · simp [State.stopTaken, free]
  · obtain ⟨queue, stack, todo, change, qual, rest, slot, decelerates⟩ :=
      State.stopAll_ends why b (s := s.heard sender true) (by simpa using ungoverned) own
    simp only [State.heard_stops, State.heard_frame] at rest slot decelerates
    exact ⟨queue, stack, todo, change, qual, rest, slot, decelerates⟩

/-- A HELD run starts nothing but a referencing (R33). -/
theorem State.advance_none_of_held {s : State} (held : s.run.st = .held) (parked : s.chg.parked = false)
    (todo : s.arm.todo ≠ some .home) : s.advance = none := by
  unfold State.advance State.mayBegin State.mayTake
  (repeat' split) <;> simp_all

theorem Run.eta_of_active {r : Run} (active : r.st = .active) : { r with st := .active } = r := by
  rw [← active]

theorem State.heard_eta (p : Station) (w : Bool) (s : State) :
    ({ s.heard p w with arm := s.arm, run := s.run } : State) = s.heard p w := by
  unfold State.heard
  split <;> rfl

theorem Start.fromGateOne_ne_home {t : Start} (h : t ≠ .home) : t.fromGateOne ≠ .home := by
  cases t <;> simp_all [Start.fromGateOne]

/-- What HOLD leaves, where the arm starts nothing behind it. -/
theorem State.exec_hold {sender : Station} {s u : State} (listens : s.listensTo sender = true)
    (owner : s.run.owner = some sender) (active : s.run.st = .active) (effect : (s.heard sender true).holdEffect = u)
    (rests : u.advance = none) (due : u.detachDue = none) :
    exec (.hold sender []) s = .next (u.reply sender 0x22 .ok []) :=
  congrArg Host.Outcome.next (State.command_answer (own := State.takeHold sender) 0x22 false listens (by
    simp [State.takeHold, owner, active, effect, State.finish_of_advance_none rests due]))

theorem State.holdMoving_travel {m : Motion} {s : State} (free : s.arm.stopping = none) (motion : s.arm.motion = some m)
    (dwell : m.act ≠ .dwell) (place : m.act ≠ .inPlace) :
    s.holdMoving = if m.atTarget then { s with arm := { s.arm with motion := some { m with thenHeld := true } } }
      else { s with arm := { s.arm with
        st := .decelerating, stopping := some { fast := false, after := .resume, held := true, afterBackOff := false } } } := by
  unfold State.holdMoving
  simp only [free, motion]

/-- Settles O20. -/
theorem holdStopsTheRunWhereItStands : Obligations.HoldStopsTheRunWhereItStands := by
  unfold Obligations.HoldStopsTheRunWhereItStands
  intro sender s listens
  have taken {r : Result} {u : State} (own : (s.heard sender true).takeHold sender = answer r u) :
      exec (.hold sender []) s = .next (u.reply sender 0x22 r []) :=
    congrArg Host.Outcome.next (State.command_answer 0x22 false listens own)
  have leaves {arm : Arm} {st : RunState} (owner : s.run.owner = some sender) (active : s.run.st = .active)
      (effect : (s.heard sender true).holdEffect = { s.heard sender true with arm := arm, run := { s.run with st := st } })
      (rests : ({ s.heard sender true with arm := arm, run := { s.run with st := st } } : State).advance = none)
      (due : s.detachDue = none) :
      exec (.hold sender []) s =
        .next (({ s.heard sender true with arm := arm, run := { s.run with st := st } } : State).reply sender 0x22 .ok []) :=
    State.exec_hold listens owner active effect rests (by simpa using due)
  refine ⟨fun other => taken (by simp [State.takeHold, other]), fun owner still => taken (by simp [State.takeHold, owner, still]),
    fun owner active due parked => ⟨fun m moving free motion => ⟨fun dwell place way => ?_, fun dwell place way => ?_,
      fun place => ?_, fun left dwell left' on => ?_⟩, fun p moving stopping => ⟨fun back => ?_, fun back => ?_⟩,
    fun p slowing stopping => ⟨fun after => ?_, fun after => ?_⟩, fun claiming => ⟨fun todo => ?_, fun todo => ?_⟩,
    fun t wait todo home on => ?_, fun rest => ?_⟩⟩
  · exact leaves owner active (by simp [State.holdEffect, moving, State.holdMoving_travel, free, motion, dwell, place, way, Run.eta_of_active active])
      (State.advance_none_of_moving (by simp)) due
  · exact leaves owner active (by simp [State.holdEffect, moving, State.holdMoving_travel, free, motion, dwell, place, way, Run.eta_of_active active])
      (State.advance_none_of_moving (by simp [moving])) due
  · exact leaves owner active (by simp [State.holdEffect, moving, State.holdMoving, free, motion, place, State.holdRun])
      (State.advance_none_of_moving (by simp [moving])) due
  · refine ⟨_, State.exec_hold listens owner active rfl (State.advance_none_of_held ?_ ?_ ?_) ?_, ?_⟩
    all_goals simp [State.holdEffect, moving, State.holdMoving, free, motion, dwell, left', State.holdStill, State.holdRun, on, parked, due]
  · exact leaves owner active (by simp [State.holdEffect, moving, State.holdMoving, stopping, back, Run.eta_of_active active])
      (State.advance_none_of_moving (by simp [moving])) due
  · exact leaves owner active (by
      rw [Run.eta_of_active active, State.heard_eta]
      simp [State.holdEffect, moving, State.holdMoving, stopping])
      (State.advance_none_of_moving (by simp [moving])) due
  · exact leaves owner active (by simp [State.holdEffect, slowing, stopping, after, Run.eta_of_active active])
      (State.advance_none_of_moving (by simp [slowing])) due
  · exact leaves owner active (by
      rw [Run.eta_of_active active, State.heard_eta]
      simp [State.holdEffect, slowing, stopping])
      (State.advance_none_of_moving (by simp [slowing])) due
  · exact leaves owner active (by simp [State.holdEffect, claiming, todo, State.holdRun])
      (State.advance_none_of_held rfl (by simpa) (by simpa)) due
  · exact leaves owner active (by simp [State.holdEffect, claiming, todo, State.holdRun])
      (State.advance_none_of_moving (by simp [claiming])) due
  · refine ⟨_, State.exec_hold listens owner active rfl (State.advance_none_of_held ?_ ?_ ?_) ?_, ?_⟩
    all_goals simp [State.holdEffect, wait, todo, State.holdStill, State.holdRun, on, parked, due, Start.fromGateOne_ne_home home]
  · obtain homing | off | ⟨still, todo⟩ := rest
    · exact leaves owner active (by simp [State.holdEffect, homing, State.holdRun]) (State.advance_none_of_moving (by simp [homing])) due
    · exact leaves owner active (by simp [State.holdEffect, off, State.holdRun]) (State.advance_none_of_moving (by simp [off])) due
    · exact leaves owner active (by simp [State.holdEffect, still, State.holdRun])
        (State.advance_none_of_held rfl (by simpa) (by simpa)) due

end Sys2Proof.Machine
end

section
/-! PROOF. Shadow mode (R37, R39). -/

namespace Sys2Proof.Machine

open Sys2Proof

theorem State.enterShadow_axis (a : AxisName) (s : State) :
    vget s.enterShadow.axes a = { vget s.axes a with pos := (vget s.axes a).setpoint } := by
  simp [State.enterShadow, State.setpoints]

theorem State.enterShadow_arm (s : State) :
    s.enterShadow.arm = { s.arm with shadow := true, phys := s.arm.standing } ∧ s.enterShadow.run = s.run := by
  simp [State.enterShadow, State.moveSetpoints]

/-- The entry to shadow mode sets its event (R37). -/
theorem State.enterShadow_slot {s : State} (mask : s.events.mask.getLsbD 11 = true) (length : s.events.slots.length = 12) :
    ∃ slot, s.enterShadow.events.slots[11]? = some slot ∧ slot.pending = some (.shadow true) :=
  State.emit_slot (.shadow true) _ mask length

theorem State.endShadow_axis (a : AxisName) (s : State) :
    vget s.endShadow.axes a = { vget s.axes a with pos := (vget s.axes a).scale, setpoint := (vget s.axes a).scale } := by
  simp [State.endShadow, State.leaveShadow, State.reloadPositions, State.holdSetpoints]

theorem State.endShadow_arm (s : State) :
    s.endShadow.arm = { s.arm with shadow := false, standing := s.arm.phys, phys := 0, begun := 0 } := by
  simp [State.endShadow, State.leaveShadow, State.reloadPositions, State.holdSetpoints]

/-- Settles O24. -/
theorem shadowModeOnAndOff : Obligations.ShadowModeOnAndOff := by
  unfold Obligations.ShadowModeOnAndOff
  intro sender s listens
  have on {r : Result} {u : State} (own : (s.heard sender true).takeShadowOn = answer r u) :
      exec (.shadowOn sender [1#8]) s = .next (u.reply sender 0x2D r []) :=
    congrArg Host.Outcome.next (State.command_answer 0x2D false listens own)
  have off {r : Result} {u : State} (own : (s.heard sender true).takeShadowOff = answer r u) :
      exec (.shadowOff sender [0#8]) s = .next (u.reply sender 0x2D r []) :=
    congrArg Host.Outcome.next (State.command_answer 0x2D false listens own)
  refine ⟨fun none still queue stack real => ?_, fun refused => on ?_, fun none still shadow => ?_, fun refused => off ?_⟩
  · obtain ⟨arm, run⟩ := State.enterShadow_arm (s.heard sender true)
    have axis (a : AxisName) := State.enterShadow_axis a (s.heard sender true)
    refine ⟨(s.heard sender true).enterShadow, on (by simp [State.takeShadowOn, none, still, queue, stack, real]),
      by simp [arm], by simp [arm], by simp [arm], vec3_ext fun a => ?_, vec3_ext fun a => ?_, fun a => ?_, by simp [arm],
      by simp [run], by simp [State.driveEnables, arm], fun mask length => ?_⟩
    · simp [State.positions, State.setpoints, axis]
    · simp [State.setpoints, axis]
    · simp [axis]
    · exact State.enterShadow_slot (by simpa using mask) (by simpa using length)
  · have blocked : ¬ (s.run.st = .none ∧ s.arm.st = .still ∧ s.run.queue = [] ∧ s.run.stack = [] ∧ s.arm.shadow = false) := by
      grind
    simp_all [State.takeShadowOn]
  · have arm := State.endShadow_arm (s.heard sender true)
    have axis (a : AxisName) := State.endShadow_axis a (s.heard sender true)
    refine ⟨(s.heard sender true).endShadow, off (by simp [State.takeShadowOff, none, still, shadow]),
      by simp [arm], by simp [arm], by simp [arm], by simp [arm], vec3_ext fun a => ?_, vec3_ext fun a => ?_,
      by simp [State.driveEnables, arm]⟩
    · simp [State.positions, axis]
    · simp [State.setpoints, State.positions, axis]
  · have blocked : ¬ (s.run.st = .none ∧ s.arm.st = .still ∧ s.arm.shadow = true) := by grind
    simp_all [State.takeShadowOff]

end Sys2Proof.Machine
end

section
/-! PROOF. The commands that set or read the station's data, and the tests that every command passes (chapters 6, 7, 12). -/

namespace Sys2Proof.Machine

open Sys2Proof

/-! ## PROBEDEF -/

/-- A record that is found carries the ID that was looked for. -/
theorem State.probe_id {s : State} {id : ProbeId} {r : ProbeRecord} (found : s.probe id = some r) : r.defined.id = id := by
  simpa using List.find?_some found

/-- The mounted probe's record carries an ID exactly when that probe is mounted and has a record. -/
theorem State.mountedRecord_any {s : State} {id : ProbeId} :
    s.mountedRecord.any (fun r => r.defined.id == id) = true ↔ s.mounted.id = some id ∧ s.probe id ≠ none := by
  cases mounted : s.mounted.id with
  | none => simp [State.mountedRecord, mounted]
  | some other =>
    cases record : s.probe other with
    | none =>
      simp [State.mountedRecord, mounted, record]
      rintro rfl
      exact record
    | some r =>
      simp [State.mountedRecord, mounted, record, State.probe_id record]
      rintro rfl
      simp [record]

@[simp] theorem State.heard_mountedRecord (p : Station) (w : Bool) (s : State) :
    (s.heard p w).mountedRecord = s.mountedRecord ∧ (s.heard p w).probeInUse = s.probeInUse := by
  have probe : (s.heard p w).probe = s.probe := by
    funext id
    simp [State.probe]
  simp [State.mountedRecord, State.probeInUse, probe]

/-- PROBEDEF's own tests and effect where the fields are in range and a place is there. -/
theorem State.takeProbedef_formed {p : List Byte} {d : ProbeDef} {s : State} (formed : probeDefOf p = some d)
    (room : s.probe d.id = none → s.probes.length < 8) :
    s.takeProbedef p = if s.mountedRecord.any (fun r => r.defined.id == d.id) && s.probeInUse then answer .state s
      else answer .ok (s.defineProbe d) := by
  have fits : ((s.probe d.id).isNone && decide (8 ≤ s.probes.length)) = false := by
    cases known : s.probe d.id <;> simp_all
  simp [State.takeProbedef, formed, fits]

/-- Settles O26. -/
theorem probedefWritesOneRecord : Obligations.ProbedefWritesOneRecord := by
  unfold Obligations.ProbedefWritesOneRecord
  intro sender p s listens length
  have taken {r : Result} {u : State} (own : (s.heard sender true).takeProbedef p = answer r u) :
      exec (.probedef sender p) s = .next (u.reply sender 0x29 r []) := by
    simp only [exec, execProbedef, length]
    exact congrArg Host.Outcome.next (State.command_answer 0x29 false listens own)
  refine ⟨fun malformed => taken (by simp [State.takeProbedef, malformed]), fun d formed => ⟨fun new full => taken ?_,
    fun known mounted used => taken ?_, fun new room => taken ?_, fun known free => taken ?_⟩⟩
  · simp [State.takeProbedef, formed, new, full]
  · have same := State.mountedRecord_any.mpr ⟨mounted, known⟩
    rw [State.takeProbedef_formed formed (fun new => absurd (by simpa using new) known)]
    simp only [State.heard_mountedRecord, same, used]
    rfl
  · have other : s.mountedRecord.any (fun r => r.defined.id == d.id) = false :=
      Bool.eq_false_iff.mpr fun same => (State.mountedRecord_any.mp same).2 new
    rw [State.takeProbedef_formed formed (fun _ => by simpa using room)]
    simp [other, State.defineProbe, new]
  · have other : (s.mountedRecord.any (fun r => r.defined.id == d.id) && s.probeInUse) = false := by
      have same := State.mountedRecord_any (s := s) (id := d.id)
      grind
    obtain ⟨r, found⟩ := Option.ne_none_iff_exists'.mp known
    rw [State.takeProbedef_formed formed (fun new => absurd (by simpa using new) known)]
    simp only [State.heard_mountedRecord, other]
    simp [State.defineProbe, found, State.updateProbe, ProbeRecord.redefine]

/-! ## PART, REPORTMARK, EVMASK -/

/-- Settles O27. -/
theorem settingCommandsSetWhatTheyName : Obligations.SettingCommandsSetWhatTheyName := by
  unfold Obligations.SettingCommandsSetWhatTheyName
  intro sender p s listens
  refine ⟨fun length => ?_, fun length => ⟨fun range => ?_, fun range => ?_⟩, fun length => ⟨fun range => ?_, fun range => ?_⟩⟩
  · simp only [exec, execPart, length]
    exact congrArg Host.Outcome.next (State.command_answer 
      (own := fun s => answer .ok { s with part := partOf p }) 0x2A false listens rfl)
  · simp only [exec, execReportmark, length]
    exact congrArg Host.Outcome.next (State.command_answer 0x2B false listens (by
      simp [State.takeReportmark, within, range]))
  · simp only [exec, execReportmark, length]
    exact congrArg Host.Outcome.next (State.command_answer 0x2B false listens (by
      rw [State.takeReportmark, if_neg]; simpa [within, and_assoc] using range))
  · refine ⟨s.events.withMask (wordAt p 0), ?_, rfl, rfl, fun n slot place => by
      simp [EventSet.withMask, mapFrom_getElem?, place]
      rfl⟩
    simp only [exec, execEvmask, length]
    exact congrArg Host.Outcome.next (State.command_answer 0x2C false listens (by simp [State.takeEvmask, range]))
  · simp only [exec, execEvmask, length]
    exact congrArg Host.Outcome.next (State.command_answer 0x2C false listens (by
      simp [State.takeEvmask, Nat.not_lt.mpr range]))

/-! ## ASK -/

theorem bytesOf_length (n v : Nat) : (bytesOf n v).length = n := by
  induction n generalizing v with
  | zero => rfl
  | succ n ih => simp [bytesOf, ih]

/-- The payload of an ASK gives its fields back. -/
theorem askFields_of_bytes {view n part : Nat} (view_lt : view < 256) (n_lt : n < 65536) (part_lt : part < 256) :
    askFields (bytesOf 1 view ++ bytesOf 2 n ++ bytesOf 1 part) =
      { view := view, argument := BitVec.ofNat 16 n, part := part } := by
  have word : 256 * (n / 256 % 256) + n % 256 = n := by omega
  simp [askFields, fieldAt, wordAt, bytesOf, bigEndian, word, view_lt, part_lt]

theorem State.heard_plainViews (p : Station) (w : Bool) (s : State) :
    (s.heard p w).viewStatus = s.viewStatus ∧ (s.heard p w).viewPosition = s.viewPosition ∧
    (s.heard p w).viewQueue = s.viewQueue ∧ (s.heard p w).viewIdent = s.viewIdent := by
  refine ⟨?_, ?_, ?_, ?_⟩
  · simp [State.viewStatus, State.joinShown, State.configFaultShown, State.shownSeq]
  · simp [State.viewPosition, State.referencedMask, State.limitMask, State.scaleFaultMask]
  · simp [State.viewQueue, State.falseTriggers]
  · simp [State.viewIdent]

theorem State.heard_channel (p : Station) (w : Bool) (n : Nat) (s : State) : (s.heard p w).viewChannel n = s.viewChannel n := by
  simp [State.viewChannel]

theorem State.heard_share (p : Station) (w : Bool) (n : Nat) (s : State) : (s.heard p w).viewShare n = s.viewShare n := by
  simp [State.viewShare]

/-- An ASK of a row's own view is answered with what the view gives. -/
theorem State.ask_answers {sender : Station} {s : State} {view n part : Nat} {r : Result} {data : List ViewField}
    (give : AskFields → State → Result × List ViewField) (listens : s.listensTo sender = true) (view_lt : view < 256)
    (n_lt : n < 65536) (part_lt : part < 256)
    (gives : give { view := view, argument := BitVec.ofNat 16 n, part := part } (s.heard sender true) = (r, data)) :
    s.ask view give sender (bytesOf 1 view ++ bytesOf 2 n ++ bytesOf 1 part) =
      (s.heard sender true).reply sender askKind r data := by
  have length : ((bytesOf 1 view ++ bytesOf 2 n ++ bytesOf 1 part).length == 4) = true := by simp [bytesOf_length]
  unfold State.ask
  rw [length]
  exact State.command_answers askKind true listens (by simp only [askFields_of_bytes view_lt n_lt part_lt, gives]; simp)

/-- Settles O28. -/
theorem askAnswersFromTheStateAsItStands : Obligations.AskAnswersFromTheStateAsItStands := by
  unfold Obligations.AskAnswersFromTheStateAsItStands
  intro sender n s listens n_lt
  have small : n % 65536 = n := Nat.mod_eq_of_lt n_lt
  have asked {view part : Nat} {r : Result} {data : List ViewField} (give : AskFields → State → Result × List ViewField)
      (view_lt : view < 256) (part_lt : part < 256)
      (gives : give { view := view, argument := BitVec.ofNat 16 n, part := part } (s.heard sender true) = (r, data)) :
      (Host.Outcome.next (s.ask view give sender (bytesOf 1 view ++ bytesOf 2 n ++ bytesOf 1 part)) :
        Host.Outcome State Fault Refusal) = .next ((s.heard sender true).reply sender askKind r data) :=
    congrArg _ (State.ask_answers give listens view_lt n_lt part_lt gives)
  obtain ⟨status, position, queue, ident⟩ := s.heard_plainViews sender true
  refine ⟨fun zero => ⟨?_, ?_, ?_, fun none => by simp [State.falseTriggers, none], ?_⟩, fun lt => ?_, fun ge => ?_, fun lt => ?_, fun ge => ?_,
    fun e entry => ?_, fun none => ?_, fun r found => ?_, fun none => ?_, fun pt found => ⟨?_, ?_⟩, fun none => ⟨?_, ?_⟩⟩
  · exact asked _ (by decide) (by decide) (by simp [plainView, zero, status])
  · exact asked _ (by decide) (by decide) (by simp [plainView, zero, position])
  · exact asked _ (by decide) (by decide) (by simp [plainView, zero, queue])
  · exact asked _ (by decide) (by decide) (by simp [plainView, zero, ident])
  · exact asked _ (by decide) (by decide) (by simp [indexedView, small, lt, State.heard_channel])
  · exact asked _ (by decide) (by decide) (by simp [indexedView, small, Nat.not_lt.mpr ge])
  · exact asked _ (by decide) (by decide) (by simp [indexedView, small, lt, State.heard_share])
  · exact asked _ (by decide) (by decide) (by simp [indexedView, small, Nat.not_lt.mpr ge])
  · exact asked _ (by decide) (by decide) (by simp [peerView, small, entry, State.viewPeer])
  · exact asked _ (by decide) (by decide) (by simp [peerView, small, none])
  · exact asked _ (by decide) (by decide) (by simp [probeView, found])
  · exact asked _ (by decide) (by decide) (by simp [probeView, none])
  · exact asked _ (by decide) (by decide) (by simp only [pointView, State.heard_frame, found]; rfl)
  · exact asked _ (by decide) (by decide) (by simp only [pointView, State.heard_frame, found]; rfl)
  · exact asked _ (by decide) (by decide) (by simp only [pointView, State.heard_frame, none])
  · exact asked _ (by decide) (by decide) (by simp only [pointView, State.heard_frame, none])

/-! ## The command path -/

/-- A row of the command frames takes the command path of its header. -/
theorem exec_of_header {c : Instr} {k : CommandHeader} (header : c.header = some k) (s : State) :
    ∃ own, exec c s = .next (s.command k.sender k.kind k.inFault k.lengthOk own) := by
  cases c <;> cases header <;> exact ⟨_, rfl⟩

/-- Settles O29. -/
theorem commandTestsInTheirOrder : Obligations.CommandTestsInTheirOrder := by
  unfold Obligations.CommandTestsInTheirOrder
  intro c k s header
  obtain ⟨own, path⟩ := exec_of_header header s
  rw [path]
  refine ⟨fun deaf => by rw [State.command_unheard k.kind _ _ own deaf],
    fun receives busy => by rw [State.command_busy k.kind _ _ own receives busy], fun receives free => ?_⟩
  have refused {r : Result} (test : s.commandTest k.sender k.inFault k.lengthOk = some r) :
      (Host.Outcome.next (s.command k.sender k.kind k.inFault k.lengthOk own) : Host.Outcome State Fault Refusal) =
        .next ((s.heard k.sender true).reply k.sender k.kind r []) :=
    congrArg Host.Outcome.next (State.command_refused k.kind k.inFault k.lengthOk own receives free test)
  refine ⟨fun reading => refused ?_, fun fault plain => refused ?_, fun fault plain length => refused ?_,
    fun loaded wait => refused ?_, fun loaded wait other => refused ?_, fun loaded wait planner length => refused ?_⟩
  all_goals simp [State.commandTest, Option.isSome_iff_ne_none, *]

end Sys2Proof.Machine
end

section
/-! PROOF. The cell line: frames heard, vetoed and offered, the detach, the report decision (chapters 3 and 7). -/

namespace Sys2Proof.Machine

open Sys2Proof

/-! ## Frames of other stations -/

@[simp] theorem State.heard_vetoesHeader (p : Station) (w : Bool) (h : FrameHeader) (s : State) :
    (s.heard p w).vetoesHeader h = s.vetoesHeader h := by
  simp [State.vetoesHeader]

theorem State.receives_of_other {p : Station} {s : State} (active : s.line.active = true) (other : p ≠ s.me) :
    s.receives p = true := by
  simp [State.receives, active, other]

/-- What hearing a frame changes at a station that is not QUIET. -/
theorem State.heard_of_notQuiet (p : Station) (w : Bool) {s : State} (loud : s.join.st ≠ .quiet) :
    s.heard p w = { s with
      line := { s.line with
        crcVetoes := 0
        lastHeard := updateAt (fun t => t.map (fun _ => s.clock)) p.val s.line.lastHeard
        heardAny := s.line.heardAny.map (fun _ => s.clock) }
      join := { s.join with
        window := if s.join.st == .listening && s.setup.load == .loaded && w then some s.clock else s.join.window } } := by
  simp [State.heard, loud]

/-- Settles O30. -/
theorem frameHeardRestartsTheTimes : Obligations.FrameHeardRestartsTheTimes := by
  unfold Obligations.FrameHeardRestartsTheTimes
  intro p hd shown s active other source formed free
  have receives := State.receives_of_other active other
  refine ⟨fun loud => ⟨s.heard p true, ?_⟩, fun quiet => ?_, ?_⟩
  · refine ⟨by simp [exec, execOtherFrameAccepted, receives], fun shown' => ?_, fun shown' => ?_, ?_⟩
    · have opens : (shown != some .listening) = true := by simpa using shown'
      simp [exec, execReceivedFrameVoid, source, receives, formed, free, opens]
    · have stays : (shown != some .listening) = false := by simpa using shown'
      simp only [exec, execReceivedFrameVoid, source, receives, formed, stays, State.heard_vetoesHeader, free]
      simp [State.heard_of_notQuiet _ _ loud]
    · rw [State.heard_of_notQuiet _ _ loud]
      refine ⟨rfl, fun since heard => ?_, fun n elsewhere => ?_, fun any => ?_, fun listening loaded => ?_, rfl⟩
      · simp [updateAt_getElem?, heard]
      · simp [updateAt_getElem?, elsewhere]
      · obtain ⟨t, some⟩ := Option.ne_none_iff_exists'.mp any
        simp [some]
      · simp [listening, loaded]
  · simp [exec, execOtherFrameAccepted, receives, State.heard, quiet]
  · simp [exec, execOtherFrameAccepted, State.receives]

/-- A row of the share frames takes its frame in line order. -/
theorem exec_of_shareFrame {c : Instr} {p : Station} {q : BitVec 16} {f : ShareFrame} (frame : c.shareFrame = some (p, q, f))
    (s : State) : exec c s = .next (s.share p q f) := by
  cases c <;> cases frame <;> rfl

theorem mismatched_of_ne {t : Table} {q : BitVec 16} {f : ShareFrame} (plain : ∀ fields, f ≠ .join fields) (ne : q ≠ t.seq + 1) :
    mismatched t q f = true := by
  cases f <;> simp_all [mismatched]

/-- A share frame of another station at a station that follows the line. -/
theorem State.share_of_other {p : Station} {s : State} (q : BitVec 16) (f : ShareFrame) (active : s.line.active = true)
    (other : p ≠ s.me) : s.share p q f = (s.shareReceived p q f).finish := by
  simp [State.share, active, other]

/-- Settles O31. -/
theorem sequenceMismatchDetaches : Obligations.SequenceMismatchDetaches := by
  unfold Obligations.SequenceMismatchDetaches
  intro c p q f hd tbl s active other table ne
  refine ⟨fun frame plain => ?_, fun source seq formed kind join => ?_⟩
  · rw [exec_of_shareFrame frame, State.share_of_other q f active other]
    simp [State.shareReceived, table, mismatched_of_ne plain ne]
  · have receives := State.receives_of_other active other
    have veto : s.vetoesHeader hd = true := by by_cases same : hd.kind.toNat = joinKind <;> simp_all [State.vetoesHeader]
    have opens : ((none : Option JoinShown) != some .listening) = true := rfl
    simp [exec, execReceivedFrameVoid, source, receives, formed, veto, opens]

/-! ## Detach and QUIET -/

/-- Refutes O32: a change window that the detach closes over an empty head makes the mounted-probe record NONE (R98), where the
statement has the probe unresolved. The state is ATTACHED with a resolved probe, no change, and a window that awaits no pulse. -/
theorem not_detachDiscardsTheCell : ¬ Obligations.DetachDiscardsTheCell := by
  unfold Obligations.DetachDiscardsTheCell
  intro holds
  let s : State := { State.reset with
    join := { State.reset.join with st := .attached }
    mounted := .resolved 5
    chg := { State.reset.chg with closing := [(0, .aborted)] } }
  have mounted : (s.detach .isolated).mounted = .unresolved (.id 5) := by
    obtain ⟨-, -, -, -, -, -, -, -, -, -, -, -, -, -, probe, -⟩ := (holds .isolated s).2 (.inr rfl)
    exact probe 5 rfl rfl
  exact absurd mounted (by decide +kernel)

/-- Settles O33. -/
theorem eightVetoesLeadToQuiet : Obligations.EightVetoesLeadToQuiet := by
  unfold Obligations.EightVetoesLeadToQuiet
  intro cause s active abandoned
  refine ⟨fun quiet => by simp [exec, execCrcVeto, execFrameAbandoned, quiet], fun loud => ⟨?_, fun few => ?_,
    fun many listening => ?_, fun many cell => ?_⟩⟩
  · simp [exec, execCrcVeto, execFrameAbandoned, active, abandoned]
  · simp [exec, execCrcVeto, active, loud, State.countVeto, Nat.add_lt_add_right few 1]
  · exact ⟨s.enterQuiet, by simp [exec, execCrcVeto, active, listening, State.countVeto, Nat.not_lt.mpr (Nat.add_le_add_right many 1)],
      rfl, rfl, rfl, rfl, rfl⟩
  · simp [exec, execCrcVeto, active, loud, State.countVeto, Nat.not_lt.mpr (Nat.add_le_add_right many 1), cell]

/-! ## The frame offered -/

/-- Settles O34. -/
theorem frameBeginOffersTheFirstMailbox : Obligations.FrameBeginOffersTheFirstMailbox := by
  unfold Obligations.FrameBeginOffersTheFirstMailbox
  intro s
  refine ⟨fun blocked => ?_, fun active idle loud => ?_⟩
  · have may : s.mayBeginFrame = false := by
      obtain off | busy | quiet := blocked <;> simp [State.mayBeginFrame, *]
    simp [exec, execFrameBegin, may]
  · refine ⟨{ s with line := { s.line with tx := s.offered } }, by simp [exec, execFrameBegin, State.mayBeginFrame, *], rfl,
      by simp [← idle], ?_⟩
    refine ⟨fun table lost => ?_, fun lost => ⟨fun e rest m1 sent => ?_, fun m1 => ⟨fun part rest m2 => ?_, fun m2 =>
      ⟨fun r m3 => ?_, fun m3 => ⟨fun e rest pending => ?_, fun pending => ⟨fun pt rest points => ?_, fun points =>
        ⟨fun content thermal => ?_, fun thermal presence => ?_, fun thermal presence => ?_⟩⟩⟩⟩⟩⟩⟩
    · have some := Option.isSome_iff_ne_none.mpr table
      have first : s.offerLost = Option.some (offer (.lost s.line.lostSet) 15) := by
        simpa [State.offerLost, some] using lost
      simp [State.offered, first]
    · have own : (e.isJoin || s.table.isSome) = true := by
        obtain table | join := sent <;> simp [Option.isSome_iff_ne_none, *]
      simp [State.offered, State.offerLost, lost, State.offerShare, m1, own]
    · simp [State.offered, State.offerLost, lost, State.offerShare, m1, State.offerPart, m2]
    · simp [State.offered, State.offerLost, lost, State.offerShare, m1, State.offerPart, m2, State.offerReply, m3]
    all_goals
      simp [State.offered, State.offerLost, State.offerShare, State.offerPart, State.offerReply, State.offerEvent,
        State.offerPoints, State.offerThermal, State.offerPresence, *]

/-- Settles O39. -/
theorem reportDecisionNamesTheOldestPoints : Obligations.ReportDecisionNamesTheOldestPoints := by
  unfold Obligations.ReportDecisionNamesTheOldestPoints
  intro s
  refine ⟨fun onLine => by simp [State.decideReport, onLine], fun free => ⟨fun empty => ?_, fun a one => ?_, fun a b rest two => ?_,
    fun a rest ring => ?_, ?_, ?_⟩⟩
  · simp [State.decideReport, free, empty, pointsNamed]
  · simp [State.decideReport, free, one, pointsNamed]
  · simp [State.decideReport, free, two, pointsNamed]
  · change _ ↔ _ ∨ s.cap.timeout.toNat ≤ (s.age a.time).toNat ∨ _
    simp only [State.reportDue, ring, Bool.or_eq_true, decide_eq_true_eq, or_assoc]
  · simp [State.decideReport, free]
  · simp [State.decideReport, free]

end Sys2Proof.Machine
end

section
/-! PROOF. What the ends of motions, runs and excursions leave of the line controller: all but M1 and the POINTS slot; and at a station
without a table and without a claim they queue nothing (R54, R92). -/

namespace Sys2Proof.Machine

open Sys2Proof

/-- The line controller stands as it was, but for M1 and the POINTS slot. -/
abbrev sameLine (s t : State) : Prop :=
  t.line.active = s.line.active ∧ t.line.tx = s.line.tx ∧ t.line.awaiting = s.line.awaiting ∧ t.line.lostSet = s.line.lostSet ∧
  t.line.m2 = s.line.m2 ∧ t.line.m3 = s.line.m3 ∧ t.line.thermal = s.line.thermal ∧ t.line.presence = s.line.presence ∧
  t.line.crcVetoes = s.line.crcVetoes ∧ t.line.voids = s.line.voids ∧ t.line.presenceTimer = s.line.presenceTimer ∧
  t.line.lastHeard = s.line.lastHeard ∧ t.line.heardAny = s.line.heardAny

@[simp] theorem State.removeAllM1_sameLine (p : M1Entry → Bool) (s : State) : sameLine s (s.removeAllM1 p) := by
  simp [State.removeAllM1, sameLine]

@[simp] theorem State.pushM1_sameLine (e : M1Entry) (s : State) : sameLine s (s.pushM1 e) := by
  unfold State.pushM1
  dsimp only
  (repeat' split) <;> simp (maxDischargeDepth := 9) (implicitDefEqProofs := false) [sameLine]

@[simp] theorem State.queueRelease_sameLine (items : ItemSet) (s : State) : sameLine s (s.queueRelease items) := by
  unfold State.queueRelease
  dsimp only
  (repeat' split) <;> simp (maxDischargeDepth := 9) (implicitDefEqProofs := false) [sameLine]

@[simp] theorem State.releaseOutside_sameLine (zones : ZoneSet) (s : State) : sameLine s (s.releaseOutside zones) := by
  unfold State.releaseOutside
  simp (maxDischargeDepth := 9) (implicitDefEqProofs := false) [sameLine]

@[simp] theorem State.endFrames_sameLine (items : ItemSet) (serial : Nat) (s : State) : sameLine s (s.endFrames items serial) := by
  unfold State.endFrames
  dsimp only
  (repeat' split) <;> simp (maxDischargeDepth := 9) (implicitDefEqProofs := false) [sameLine]

@[simp] theorem State.dropClaim_sameLine (s : State) : sameLine s s.dropClaim := by
  unfold State.dropClaim
  dsimp only
  (repeat' split) <;> simp (maxDischargeDepth := 9) (implicitDefEqProofs := false) [sameLine]

@[simp] theorem State.decideReport_sameLine (s : State) : sameLine s s.decideReport := by
  unfold State.decideReport
  dsimp only
  (repeat' split) <;> simp (maxDischargeDepth := 9) (implicitDefEqProofs := false) [sameLine]

@[simp] theorem State.drainRing_sameLine (s : State) : sameLine s s.drainRing := by
  unfold State.drainRing
  dsimp only
  simp (maxDischargeDepth := 9) (implicitDefEqProofs := false) [sameLine]

@[simp] theorem State.changeDone_sameLine (s : State) : sameLine s s.changeDone := by
  unfold State.changeDone
  dsimp only
  (repeat' split) <;> simp (maxDischargeDepth := 9) (implicitDefEqProofs := false) [sameLine]

@[simp] theorem State.endChange_sameLine (outcome : ChangeOutcome) (r : ChangeRecord) (s : State) : sameLine s (s.endChange outcome r) := by
  unfold State.endChange
  dsimp only
  (repeat' split) <;> simp (maxDischargeDepth := 9) (implicitDefEqProofs := false) [sameLine]

@[simp] theorem State.abortChange_sameLine (s : State) : sameLine s s.abortChange := by
  unfold State.abortChange
  dsimp only
  (repeat' split) <;> simp (maxDischargeDepth := 9) (implicitDefEqProofs := false) [sameLine]

@[simp] theorem State.failChange_sameLine (s : State) : sameLine s s.failChange := by
  unfold State.failChange
  (repeat' split) <;> simp (maxDischargeDepth := 9) (implicitDefEqProofs := false) [sameLine]

@[simp] theorem State.discardExcursions_sameLine (outcome : QualOutcome) (s : State) : sameLine s (s.discardExcursions outcome) := by
  unfold State.discardExcursions
  dsimp only
  simp (maxDischargeDepth := 9) (implicitDefEqProofs := false) [sameLine]

@[simp] theorem State.failAll_sameLine (s : State) : sameLine s s.failAll := by
  unfold State.failAll
  dsimp only
  simp (maxDischargeDepth := 9) (implicitDefEqProofs := false) [sameLine]

@[simp] theorem State.abortAll_sameLine (s : State) : sameLine s s.abortAll := by
  unfold State.abortAll
  dsimp only
  simp (maxDischargeDepth := 9) (implicitDefEqProofs := false) [sameLine]

@[simp] theorem State.endRun_sameLine (reason : RunEndReason) (b : Byte) (s : State) : sameLine s (s.endRun reason b) := by
  unfold State.endRun
  dsimp only
  (repeat' split) <;> simp (maxDischargeDepth := 9) (implicitDefEqProofs := false) [sameLine]

@[simp] theorem State.releaseAfterExcursion_sameLine (had : Bool) (s : State) : sameLine s (s.releaseAfterExcursion had) := by
  unfold State.releaseAfterExcursion
  (repeat' split) <;> simp (maxDischargeDepth := 9) (implicitDefEqProofs := false) [sameLine]

@[simp] theorem State.bringToRest_sameLine (after : AfterStop) (s : State) : sameLine s (s.bringToRest after) := by
  unfold State.bringToRest
  dsimp only
  (repeat' split) <;> simp (maxDischargeDepth := 9) (implicitDefEqProofs := false) [sameLine]

@[simp] theorem State.discardWaiting_sameLine (s : State) : sameLine s s.discardWaiting := by
  unfold State.discardWaiting
  dsimp only
  simp (maxDischargeDepth := 9) (implicitDefEqProofs := false) [sameLine]

@[simp] theorem State.stopAll_sameLine (reason : RunEndReason) (b : Byte) (s : State) : sameLine s (s.stopAll reason b) := by
  unfold State.stopAll
  dsimp only
  (repeat' split) <;> simp (maxDischargeDepth := 9) (implicitDefEqProofs := false) [sameLine]

@[simp] theorem State.faultStill_sameLine (r : FaultReport) (s : State) : sameLine s (s.faultStill r) := by
  unfold State.faultStill
  dsimp only
  simp (maxDischargeDepth := 9) (implicitDefEqProofs := false) [sameLine]

@[simp] theorem State.faultOff_sameLine (r : FaultReport) (s : State) : sameLine s (s.faultOff r) := by
  unfold State.faultOff
  dsimp only
  simp (maxDischargeDepth := 9) (implicitDefEqProofs := false) [sameLine]

@[simp] theorem State.cutDrives_sameLine (reason : RunEndReason) (s : State) : sameLine s (s.cutDrives reason) := by
  unfold State.cutDrives
  dsimp only
  simp (maxDischargeDepth := 9) (implicitDefEqProofs := false) [sameLine]

/-- At a station without a table and a claim nothing has been queued in M1, and no detach is due that was not. -/
abbrev queuesNothing (s t : State) : Prop :=
  s.table = none → s.agent.current = none → t.line.m1 = s.line.m1 ∧ t.agent = s.agent ∧ t.detachDue = s.detachDue

@[simp] theorem State.decideReport_m1 (s : State) : s.decideReport.line.m1 = s.line.m1 := by
  unfold State.decideReport
  split <;> rfl

@[simp] theorem State.queueRelease_queuesNothing (items : ItemSet) (s : State) : queuesNothing s (s.queueRelease items) := by
  intro table _
  simp [State.queueRelease, table]

@[simp] theorem State.releaseOutside_queuesNothing (zones : ZoneSet) (s : State) : queuesNothing s (s.releaseOutside zones) := by
  unfold State.releaseOutside
  simp (maxDischargeDepth := 9) (implicitDefEqProofs := false) +contextual [queuesNothing]

@[simp] theorem State.dropClaim_queuesNothing (s : State) : queuesNothing s s.dropClaim := by
  intro _ claim
  simp [State.dropClaim, claim]

@[simp] theorem State.drainRing_queuesNothing (s : State) : queuesNothing s s.drainRing := by
  unfold State.drainRing
  dsimp only
  simp (maxDischargeDepth := 9) (implicitDefEqProofs := false) +contextual [queuesNothing]

@[simp] theorem State.changeDone_queuesNothing (s : State) : queuesNothing s s.changeDone := by
  unfold State.changeDone
  dsimp only
  (repeat' split) <;> simp (maxDischargeDepth := 9) (implicitDefEqProofs := false) +contextual [queuesNothing]

@[simp] theorem State.endChange_queuesNothing (outcome : ChangeOutcome) (r : ChangeRecord) (s : State) : queuesNothing s (s.endChange outcome r) := by
  unfold State.endChange
  dsimp only
  (repeat' split) <;> simp (maxDischargeDepth := 9) (implicitDefEqProofs := false) +contextual [queuesNothing]

@[simp] theorem State.abortChange_queuesNothing (s : State) : queuesNothing s s.abortChange := by
  unfold State.abortChange
  dsimp only
  (repeat' split) <;> simp (maxDischargeDepth := 9) (implicitDefEqProofs := false) +contextual [queuesNothing]

@[simp] theorem State.failChange_queuesNothing (s : State) : queuesNothing s s.failChange := by
  unfold State.failChange
  (repeat' split) <;> simp (maxDischargeDepth := 9) (implicitDefEqProofs := false) +contextual [queuesNothing]

@[simp] theorem State.discardExcursions_queuesNothing (outcome : QualOutcome) (s : State) : queuesNothing s (s.discardExcursions outcome) := by
  unfold State.discardExcursions
  dsimp only
  simp (maxDischargeDepth := 9) (implicitDefEqProofs := false) +contextual [queuesNothing]

@[simp] theorem State.failAll_queuesNothing (s : State) : queuesNothing s s.failAll := by
  unfold State.failAll
  dsimp only
  simp (maxDischargeDepth := 9) (implicitDefEqProofs := false) +contextual [queuesNothing]

@[simp] theorem State.abortAll_queuesNothing (s : State) : queuesNothing s s.abortAll := by
  unfold State.abortAll
  dsimp only
  simp (maxDischargeDepth := 9) (implicitDefEqProofs := false) +contextual [queuesNothing]

@[simp] theorem State.endRun_queuesNothing (reason : RunEndReason) (b : Byte) (s : State) : queuesNothing s (s.endRun reason b) := by
  unfold State.endRun
  dsimp only
  (repeat' split) <;> simp (maxDischargeDepth := 9) (implicitDefEqProofs := false) +contextual [queuesNothing]

@[simp] theorem State.releaseAfterExcursion_queuesNothing (had : Bool) (s : State) : queuesNothing s (s.releaseAfterExcursion had) := by
  unfold State.releaseAfterExcursion
  (repeat' split) <;> simp (maxDischargeDepth := 9) (implicitDefEqProofs := false) +contextual [queuesNothing]

@[simp] theorem State.bringToRest_queuesNothing (after : AfterStop) (s : State) : queuesNothing s (s.bringToRest after) := by
  unfold State.bringToRest
  dsimp only
  (repeat' split) <;> simp (maxDischargeDepth := 9) (implicitDefEqProofs := false) +contextual [queuesNothing]

@[simp] theorem State.discardWaiting_queuesNothing (s : State) : queuesNothing s s.discardWaiting := by
  unfold State.discardWaiting
  dsimp only
  simp (maxDischargeDepth := 9) (implicitDefEqProofs := false) +contextual [queuesNothing]

@[simp] theorem State.stopAll_queuesNothing (reason : RunEndReason) (b : Byte) (s : State) : queuesNothing s (s.stopAll reason b) := by
  unfold State.stopAll
  dsimp only
  (repeat' split) <;> simp (maxDischargeDepth := 9) (implicitDefEqProofs := false) +contextual [queuesNothing]

@[simp] theorem State.faultStill_queuesNothing (r : FaultReport) (s : State) : queuesNothing s (s.faultStill r) := by
  unfold State.faultStill
  dsimp only
  simp (maxDischargeDepth := 9) (implicitDefEqProofs := false) +contextual [queuesNothing]

@[simp] theorem State.faultOff_queuesNothing (r : FaultReport) (s : State) : queuesNothing s (s.faultOff r) := by
  unfold State.faultOff
  dsimp only
  simp (maxDischargeDepth := 9) (implicitDefEqProofs := false) +contextual [queuesNothing]

@[simp] theorem State.cutDrives_queuesNothing (reason : RunEndReason) (s : State) : queuesNothing s (s.cutDrives reason) := by
  unfold State.cutDrives
  dsimp only
  simp (maxDischargeDepth := 9) (implicitDefEqProofs := false) +contextual [queuesNothing]

end Sys2Proof.Machine
end

section
/-! PROOF. The station's own frames: arbitration, acceptance, voids (R42 to R57), and the timers of the line. -/

namespace Sys2Proof.Machine

open Sys2Proof

/-! ## Arbitration -/

/-- Clearing renewal marks leaves what is pending (R174). -/
theorem EventSet.pending_unmark (carried : List Event) (e : EventSet) : (e.unmark carried).pending = e.pending := by
  have marks (k : Nat) (l : List EventSlot) :
      (mapFrom (fun n slot => if carried.any (fun c => c.kind == n) then { slot with renewed := false } else slot) k l).filterMap
        (·.pending) = l.filterMap (·.pending) := by
    induction l generalizing k with
    | nil => rfl
    | cons slot l ih =>
      have kept : (if carried.any (fun c => c.kind == k) then { slot with renewed := false } else slot).pending = slot.pending :=
        by
        split <;> rfl
      simp only [mapFrom, List.filterMap_cons, ih, kept]
  exact marks 0 e.slots

/-- A frame that leaves the line unaccepted leaves its content in its mailbox (R43, R45). -/
theorem State.unsent_leaves (tx : Tx) (s : State) :
    let t := s.unsent tx
    t.line.tx = none ∧ t.line.m1 = s.line.m1 ∧ sameLine s.clearTx t ∧ t.events.pending = s.events.pending ∧ t.cap = s.cap ∧
    t.join = s.join ∧ t.table = s.table ∧ t.arm = s.arm ∧ t.agent = s.agent ∧ t.events.mask = s.events.mask ∧
    t.events.slots.length = s.events.slots.length ∧ t.detachDue = s.detachDue := by
  unfold State.unsent
  dsimp only
  split
  · refine ⟨rfl, rfl, ⟨rfl, rfl, rfl, rfl, rfl, rfl, rfl, rfl, rfl, rfl, rfl, rfl, rfl⟩, EventSet.pending_unmark _ _, rfl, rfl,
    rfl, rfl, rfl, rfl, ?_, rfl⟩
    simp [EventSet.unmark, State.clearTx]
  · simp [State.clearTx, sameLine]
  · simp [State.clearTx, sameLine]

theorem State.dropClaim_of_none {s : State} (claim : s.agent.current = none) : s.dropClaim = s := by
  simp [State.dropClaim, claim]

theorem State.endRun_agent (reason : RunEndReason) (b : Byte) {s : State} (claim : s.agent.current = none) :
    (s.endRun reason b).agent = s.agent := by
  unfold State.endRun
  (repeat' split) <;> simp [State.dropClaim_of_none claim]

theorem State.failAll_agent {s : State} (claim : s.agent.current = none) : s.failAll.agent = s.agent := by
  unfold State.failAll
  dsimp only
  rw [State.dropClaim_of_none (by simpa using claim)]
  simp

/-- A fault that leaves the drives leaves the agent, once no claim is current. -/
theorem State.faultStill_agent (r : FaultReport) {s : State} (claim : s.agent.current = none) : (s.faultStill r).agent = s.agent
    := by
  have failed := State.failAll_agent (s := s.raise r) (by simpa using claim)
  simp only [State.raise_frame] at failed
  unfold State.faultStill
  simp [State.endRun_agent _ _ (s := (s.raise r).failAll.standStill) (by simpa [failed] using claim), failed]

/-- The state in which a frame has won arbitration (R42). -/
def State.winning (tx : Tx) (s : State) : State :=
  { s with line := { s.line with tx := some { tx with won := true, seq := s.sequenceFor tx.content } } }

theorem exec_arbitrationWon_withdraw {tx : Tx} {s : State} (onLine : s.line.tx = some tx) (won : tx.won = false)
    (withdraw : tx.content.isWithdraw = true) :
    exec .arbitrationWon s = .next ((s.winning tx).claimFailed.1.claimTimedOut (s.winning tx).claimFailed.2).finish := by
  simp [exec, execArbitrationWon, onLine, won, withdraw, State.winning]

/-- A claim whose timeout takes effect is retired (R75). -/
theorem State.claimFailed_expiring {s : State} {k : CurrentClaim} (current : s.agent.current = some k)
    (expiring : k.phase = .expiring) :
    s.claimFailed = ({ s with agent := { s.agent with
        current := none, retired := some { items := k.items, phase := .withdrawing, serial := k.serial } } },
      some (k.requester, k.wanted &&& ~~~ s.held)) := by
  simp [State.claimFailed, current, expiring, State.setClaim, State.setRetired]

theorem State.claimFailed_otherwise {s : State} (other : ∀ k, s.agent.current = some k → k.phase ≠ .expiring) :
    s.claimFailed = (s, none) := by
  unfold State.claimFailed
  (repeat' split) <;> simp_all

/-- Settles O35. -/
theorem arbitrationWritesTheSequence : Obligations.ArbitrationWritesTheSequence := by
  unfold Obligations.ArbitrationWritesTheSequence
  intro tx s onLine won
  refine ⟨⟨s.unsent tx, by simp [exec, execArbitrationLost, onLine, won], ?_⟩, fun plain =>
    ⟨s.sequenceFor tx.content, ?_, ?_, ?_, ?_, ?_⟩,
    fun withdraw => ⟨s.sequenceFor tx.content, ?_, ?_, fun k current expiring => ⟨fun quiet => ?_, fun look conflict => ?_⟩⟩⟩
  · obtain ⟨none, m1, line, pending, cap, -⟩ := s.unsent_leaves tx
    simp only [sameLine, State.clearTx] at line
    simp_all
  · simp [exec, execArbitrationWon, onLine, won, plain]
  · intro tbl e f content table
    simp [State.sequenceFor, content, table]
  · intro tbl stations content table
    simp [State.sequenceFor, content, table, State.shownSeq]
  · intro e fields content table
    simp [State.sequenceFor, content, table]
  · intro share lost
    unfold State.sequenceFor
    split <;> simp_all
  · intro tbl table
    have claims : ∃ e f, tx.content = .share e f := by
      unfold TxContent.isWithdraw at withdraw
      split at withdraw <;> simp_all
    obtain ⟨e, f, content⟩ := claims
    simp [State.sequenceFor, content, table]
  · intro idle
    rw [exec_arbitrationWon_withdraw onLine won withdraw, State.claimFailed_otherwise (s := s.winning tx) idle]
    rfl
  · rw [exec_arbitrationWon_withdraw onLine won withdraw, State.claimFailed_expiring (s := s.winning tx) current expiring]
    obtain look | conflict := quiet <;> simp [*, State.claimTimedOut, State.winning]
  · rw [exec_arbitrationWon_withdraw onLine won withdraw, State.claimFailed_expiring (s := s.winning tx) current expiring]
    generalize k.wanted &&& ~~~ (s.winning tx).held = items
    have told (t : State) : t.claimTimedOut (some (k.requester, items)) = t.faultStill (report .zoneTimeout 0 items.toNat) := by
      unfold State.claimTimedOut
      grind
    refine ⟨_, by rw [told], ?_⟩
    rw [State.faultStill_agent _ rfl]
    simp [State.winning, report]

/-! ## Detach -/

/-- A detach first discards the table, the claims, the line controller's part in the cell, and every FRESH peer reading (R92). -/
def State.outOfCell (s : State) : State :=
  { s with
    table := none
    agent := { current := none, retired := none }
    line := s.line.detached
    mounted := match s.mounted with
      | .resolved id => .unresolved (.id id)
      | m => m
    thermal := { s.thermal with peers := substitutePeers s.clock (fun _ => true) s.thermal.peers } }

/-- It then ends everything in progress (R92). -/
def State.endsAll (s : State) : State :=
  (((s.discardWaiting.abortAll.bringToRest .still).endRun .detached 0).flushUnrun).drainRing

theorem State.detach_of_cell (cause : DetachCause) {s : State} (cell : s.join.st = .attached ∨ s.join.st = .joining) :
    s.detach cause = if cause == .vetoLimit then (s.outOfCell.endsAll.emit (.detach cause)).enterQuiet
      else (s.outOfCell.endsAll.emit (.detach cause)).enterListening := by
  have inCell : (s.join.st == .joining || s.join.st == .attached) = true := by
    obtain attached | joining := cell <;> simp [*]
  unfold State.detach
  rw [inCell]
  rfl

/-- Without a table and a claim the end of everything queues nothing and leaves the line as it was (R92). -/
theorem State.endsAll_line {s : State} (table : s.table = none) (claim : s.agent.current = none) :
    sameLine s s.endsAll ∧ s.endsAll.line.m1 = s.line.m1 ∧ s.endsAll.agent = s.agent ∧ s.endsAll.detachDue = s.detachDue ∧
    s.endsAll.events.mask = s.events.mask ∧ s.endsAll.events.slots.length = s.events.slots.length := by
  unfold State.endsAll
  simp (maxDischargeDepth := 9) (implicitDefEqProofs := false) [sameLine, table, claim]

/-- What a detach leaves of the station's part in the cell (R92). -/
theorem State.detach_discards (cause : DetachCause) {s : State} (cell : s.join.st = .attached ∨ s.join.st = .joining) :
    let t := s.detach cause
    t.table = none ∧ t.agent = { current := none, retired := none } ∧ t.line.m1 = [] ∧ t.line.m2 = [] ∧ t.line.voids = 0 ∧
    t.line.lostSet = 0 ∧ t.join.st = (if cause = .vetoLimit then .quiet else .listening) ∧
    (s.events.mask.getLsbD 9 = true → s.events.slots.length = 12 →
      ∃ slot, t.events.slots[9]? = some slot ∧ slot.pending = some (.detach cause)) := by
  obtain ⟨line, m1, agent, due, mask, length⟩ := State.endsAll_line (s := s.outOfCell) rfl rfl
  have table : s.outOfCell.endsAll.table = none := by simp [State.endsAll, State.outOfCell, State.flushUnrun]
  have slot (mask' : s.events.mask.getLsbD 9 = true) (length' : s.events.slots.length = 12) :=
    State.emit_slot (.detach cause) s.outOfCell.endsAll (by rw [mask]; exact mask') (by rw [length]; exact length')
  rw [State.detach_of_cell cause cell]
  generalize s.outOfCell.endsAll = t at *
  simp only [sameLine, State.outOfCell, Line.detached] at line m1 agent
  split
  · simp_all [State.enterQuiet, Join.cold, Event.kind]
  · simp_all [State.enterListening, Join.cold, Event.kind]

/-! ## Voids -/

/-- A frame that is void is a CLAIM of the retired claim (R76). -/
def State.retiresWith (tx : Tx) (s : State) : Prop :=
  tx.stale = false ∧ ∃ items n f r, tx.content = .share (.claim items n) f ∧ s.agent.retired = some r ∧ r.phase = .retiring ∧
    r.serial = n

theorem State.retiringVoid_other {tx : Tx} {s : State} (other : ¬ s.retiresWith tx) : s.retiringVoid tx = s := by
  unfold State.retiringVoid
  (repeat' split) <;> simp_all [State.retiresWith]

theorem State.retiringVoid_retires {tx : Tx} {s : State} (retires : s.retiresWith tx) :
    s.retiringVoid tx = { s with
      line := { s.line with m1 := s.line.m1.drop 1 }, agent := { s.agent with retired := none } } := by
  obtain ⟨fresh, items, n, f, r, content, retired, phase, serial⟩ := retires
  simp [State.retiringVoid, content, retired, phase, serial, fresh, State.setRetired]

theorem State.retiringVoid_leaves (tx : Tx) (s : State) :
    let t := s.retiringVoid tx
    t.join = s.join ∧ t.line.voids = s.line.voids ∧ t.events.mask = s.events.mask ∧
    t.events.slots.length = s.events.slots.length := by
  unfold State.retiringVoid
  (repeat' split) <;> simp [State.setRetired]

theorem State.detach_outside (cause : DetachCause) {s : State} (outside : s.join.st = .listening ∨ s.join.st = .quiet) :
    s.detach cause = s := by
  obtain listening | quiet := outside <;> simp [State.detach, *]

theorem State.countVoid_stays {s : State} (stays : s.line.voids < 3 ∨ s.join.st = .listening ∨ s.join.st = .quiet) :
    s.countVoid = { s with line := { s.line with
      voids := if s.join.st = .quiet then s.line.voids else if s.line.voids < 3 then s.line.voids + 1 else 0 } } := by
  unfold State.countVoid
  by_cases quiet : s.join.st = .quiet
  · simp [quiet]
  · by_cases few : s.line.voids < 3
    · simp [quiet, few, Nat.add_lt_add_right few 1]
    · have listening : s.join.st = .listening := by grind
      have many : ¬ s.line.voids + 1 < 4 := by omega
      simp only [few, many, listening]
      exact State.detach_outside _ (.inl listening)

theorem State.countVoid_detaches {s : State} (many : 3 ≤ s.line.voids) (cell : s.join.st = .attached ∨ s.join.st = .joining) :
    s.countVoid = ({ s with line := { s.line with voids := 0 } } : State).detach .voidLimit := by
  have loud : (s.join.st == .quiet) = false := by obtain attached | joining := cell <;> simp [*]
  simp [State.countVoid, loud, Nat.not_lt.mpr (Nat.add_le_add_right many 1)]

/-- Settles O37. -/
theorem voidFrameStaysInItsMailbox : Obligations.VoidFrameStaysInItsMailbox := by
  unfold Obligations.VoidFrameStaysInItsMailbox
  intro tx s onLine
  have void : exec .bitError s = .next (s.ownVoid tx).finish := by simp [exec, execBitError, onLine]
  obtain ⟨none, m1, line, pending, cap, join, table, arm, agent, mask, length, due⟩ := s.unsent_leaves tx
  simp only [sameLine, State.clearTx] at line
  refine ⟨fun won => by simp [exec, execBitError, execOwnFrameVoid, onLine, won], fun lost => by
    simp [exec, execOwnFrameVoid, onLine, lost], fun stays => ⟨s.ownVoid tx, void, ?_⟩, fun many cell => ⟨s.ownVoid tx, void, ?_⟩⟩
  · have counts (t : State) (line : t.line.voids = s.line.voids) (join : t.join = s.join) :=
      State.countVoid_stays (s := t) (by rw [line, join]; exact stays)
    have same : (s.unsent tx).retiresWith tx ↔ s.retiresWith tx := by simp [State.retiresWith, agent]
    unfold State.ownVoid
    by_cases retires : s.retiresWith tx
    · rw [State.retiringVoid_retires (same.mpr retires), counts _ (by simp [line]) (by simp [join])]
      refine ⟨by simp [none], by simp [line, join], by simp [line], by simp [line], by simp [line], by simp [line], by simp
        [line],
        by simp [pending], by simp [cap], by simp [join], by simp [table], by simp [arm], by simp [agent], fun other => absurd
          retires other,
        fun _ => ⟨by simp [m1], rfl⟩⟩
    · rw [State.retiringVoid_other (fun h => retires (same.mp h)), counts _ (by simp [line]) (by simp [join])]
      refine ⟨by simp [none], by simp [line, join], by simp [line], by simp [line], by simp [line], by simp [line], by simp
        [line],
        by simp [pending], by simp [cap], by simp [join], by simp [table], by simp [arm], by simp [agent], 
        fun _ => ⟨by simp [m1], by simp [agent]⟩, fun h => absurd h retires⟩
  · have kept := (s.unsent tx).retiringVoid_leaves tx
    simp only [join, line, mask, length] at kept
    obtain ⟨join', voids', mask', length'⟩ := kept
    unfold State.ownVoid
    generalize (s.unsent tx).retiringVoid tx = t at *
    rw [State.countVoid_detaches (by rw [voids']; exact many) (by rw [join']; exact cell)]
    obtain ⟨table, agent, m1, m2, voids, -, st, slot⟩ := State.detach_discards .voidLimit
      (s := { t with line := { t.line with voids := 0 } }) (by rw [join']; exact cell)
    refine ⟨voids, by rw [st]; rfl, table, m1, m2, by rw [agent], ?_⟩
    simpa [mask', length'] using slot

/-! ## Acceptance -/

theorem exec_ownFrameAccepted {tx : Tx} {s : State} (onLine : s.line.tx = some tx) (won : tx.won = true) :
    exec .ownFrameAccepted s = .next (s.ownAccepted tx).finish := by
  simp [exec, execOwnFrameAccepted, onLine, won]

@[simp] theorem State.leaveRingWait_leaves (s : State) :
    s.leaveRingWait.line = s.line ∧ s.leaveRingWait.cap = s.cap ∧ s.leaveRingWait.join = s.join ∧
    s.leaveRingWait.events = s.events ∧ s.leaveRingWait.table = s.table := by
  unfold State.leaveRingWait
  split <;> simp

/-- What the acceptance of an EVENT leaves of a slot (R174). -/
theorem EventSet.accept_slot {carried : List Event} {e : EventSet} {k : Nat} {slot : EventSlot} (place : e.slots[k]? = some slot)
    :
    (e.accept carried).slots[k]? = some (if carried.any (fun e => e.kind == k) = false then slot
      else if slot.renewed = true then { slot with renewed := false } else { pending := none, renewed := false }) := by
  simp only [EventSet.accept, mapFrom_getElem?, place, Option.map_some, Nat.zero_add]
  cases carried.any (fun c => c.kind == k) <;> rfl

theorem State.heardCell_leaves (s : State) :
    sameLine s s.heardCell ∧ s.heardCell.cap = s.cap ∧ s.heardCell.join = s.join ∧ s.heardCell.table = s.table := by
  unfold State.heardCell
  (repeat' split) <;> simp [sameLine, State.rewriteM1]

theorem State.failJoin_leaves (s : State) : sameLine s s.failJoin ∧ s.failJoin.cap = s.cap := by
  unfold State.failJoin
  simp [sameLine]

/-- A PRESENCE that is recorded leaves the line controller but for M1, and the capture unit. -/
theorem State.presenceRecorded_leaves (n : Station) (z : ZoneSet) (shown : JoinShown) (s : State) :
    sameLine s (s.presenceRecorded n z shown) ∧ (s.presenceRecorded n z shown).cap = s.cap := by
  unfold State.presenceRecorded State.recordPresence State.listenPresence
  dsimp only
  (repeat' split) <;> simp [sameLine, State.heardCell_leaves, State.failJoin_leaves]

/-- What is recorded of a PRESENCE (R48, R63, R80). -/
theorem State.presenceRecorded_records (n : Station) (z : ZoneSet) (shown : JoinShown) (s : State) :
    let u := s.presenceRecorded n z shown
    (∀ tbl, s.table = some tbl → u.table = some (tbl.publish n z)) ∧
    (s.table = none → s.join.st = .joining → s.join.logging = true → s.join.presences.length < 64 →
      u.join.presences = s.join.presences ++ [{ sender := n, standing := z, before := s.join.log.length }]) ∧
    (s.table = none → s.join.st = .listening → u.join.image = s.join.image.map (fun image => image.publish n z) ∧
      (JoinShown.showsCell shown = false → u.line.m1 = s.line.m1)) ∧
    (s.join.st = .quiet → u.join = s.join) := by
  refine ⟨fun tbl table => ?_, fun table joining logging room => ?_, fun table listening => ⟨?_, fun alone => ?_⟩, fun quiet =>
    ?_⟩
  · simp [State.presenceRecorded, table]
  · simp [State.presenceRecorded, table, joining, State.recordPresence, logging, room]
  · simp only [State.presenceRecorded, table, listening, State.listenPresence]
    split <;> simp [State.heardCell_leaves]
  · simp [State.presenceRecorded, table, listening, State.listenPresence, alone]
  · unfold State.presenceRecorded
    cases s.table <;> simp [quiet]

/-- A share frame of the station's own that is accepted leaves all but what awaits its application, and the join unit. -/
theorem State.shareAccepted_leaves (f : ShareFrame) (seq : BitVec 16) (s : State) :
    let u := s.shareAccepted f seq
    u.line.tx = s.line.tx ∧ u.line.lostSet = s.line.lostSet ∧ u.line.m1 = s.line.m1 ∧ u.line.m2 = s.line.m2 ∧
    u.line.m3 = s.line.m3 ∧ u.line.thermal = s.line.thermal ∧ u.line.presence = s.line.presence ∧ u.line.voids = s.line.voids ∧
    u.line.presenceTimer = s.line.presenceTimer ∧ u.events = s.events ∧ u.cap = s.cap := by
  unfold State.shareAccepted State.joinAccepted
  (repeat' split) <;> simp [State.await]

/-- What is not an ordinary JOIN without a founding image awaits its application (R48, R82). -/
theorem State.shareAccepted_awaits {f : ShareFrame} (seq : BitVec 16) {s : State}
    (plain : ∀ fields, f = .join fields → fields.founding = true ∨ s.join.image ≠ none) : s.shareAccepted f seq = s.await f := by
  unfold State.shareAccepted
  split
  next fields =>
    have held : (fields.founding || (s.await (.join fields)).join.image.isSome) = true := by
      obtain founding | image := plain fields rfl
      · simp [founding]
      · simp [State.await, Option.isSome_iff_ne_none, image]
    simp [State.joinAccepted, held]
  · rfl

/-- An ordinary JOIN begins the join (R86). -/
theorem State.shareAccepted_joins {fields : JoinFields} (seq : BitVec 16) {s : State} (ordinary : fields.founding = false)
    (image : s.join.image = none) :
    let u := s.shareAccepted (.join fields) seq
    u.line.awaiting = none ∧ u.join.st = .joining ∧ u.join.logging = true ∧ u.join.wait = some s.clock ∧
      u.join.log = [{ sender := s.me, seq := seq, frame := .join fields }] := by
  simp [State.shareAccepted, State.await, State.joinAccepted, ordinary, image, State.me]

/-- The whole of a share frame's acceptance, as the mailboxes, the line and the join unit show it. -/
theorem State.shareAccepted_shows (f : ShareFrame) (seq : BitVec 16) (s : State) :
    let u := s.shareAccepted f seq
    ((∀ fields, f = .join fields → fields.founding = true ∨ s.join.image ≠ none) →
      u.line.awaiting = some f ∧ u.join = s.join) ∧
    (∀ fields, f = .join fields → fields.founding = false → s.join.image = none →
      u.line.awaiting = none ∧ u.join.st = .joining ∧ u.join.logging = true ∧ u.join.wait = some s.clock ∧
      u.join.log = [{ sender := s.me, seq := seq, frame := .join fields }]) := by
  refine ⟨fun plain => ?_, fun fields join ordinary image => ?_⟩
  · rw [State.shareAccepted_awaits seq plain]
    exact ⟨rfl, rfl⟩
  · subst join
    exact State.shareAccepted_joins seq ordinary image

/-- Settles O36. -/
theorem acceptedFrameLeavesItsMailbox : Obligations.AcceptedFrameLeavesItsMailbox := by
  unfold Obligations.AcceptedFrameLeavesItsMailbox
  intro tx s onLine won
  refine ⟨s.ownAccepted tx, exec_ownFrameAccepted onLine won, ?_⟩
  unfold State.ownAccepted State.contentAccepted
  cases content : tx.content with
  | lost stations =>
    cases stale : tx.stale
    · simp [State.await]
    · by_cases quiet : s.join.st = .quiet <;>
        simp [State.await, State.staleAccepted, State.shareAccepted, quiet]
  | share e f =>
    cases stale : tx.stale
    · dsimp only
      generalize before_eq : State.noteClaim e _ = before
      have facts : before.line =
          { s.line with tx := none, voids := 0, presenceTimer := some s.clock, m1 := s.line.m1.drop 1 } ∧
          before.join = s.join ∧ before.clock = s.clock ∧ before.me = s.me ∧ before.events = s.events ∧ before.cap = s.cap := by
        subst before_eq
        exact ⟨rfl, rfl, rfl, rfl, rfl, rfl⟩
      have leaves := before.shareAccepted_leaves f tx.seq
      have shows := before.shareAccepted_shows f tx.seq
      simp only [facts] at leaves shows
      simp [leaves]
      simpa using shows
    · by_cases quiet : s.join.st = .quiet
      · simp [State.staleAccepted, quiet]
      · simp only [State.staleAccepted, quiet, beq_iff_eq, if_false]
        generalize before_eq : ({ s with line := { s.line with
          tx := none, voids := 0, presenceTimer := some s.clock } } : State) = before
        have facts : before.line = { s.line with tx := none, voids := 0, presenceTimer := some s.clock } ∧
            before.join = s.join ∧ before.clock = s.clock ∧ before.me = s.me ∧ before.events = s.events ∧ before.cap = s.cap := by
          subst before_eq
          exact ⟨rfl, rfl, rfl, rfl, rfl, rfl⟩
        have leaves := before.shareAccepted_leaves f tx.seq
        have shows := before.shareAccepted_shows f tx.seq
        simp only [facts] at leaves shows
        simp [leaves, quiet]
        simpa using shows
  | snapshot part => cases stale : tx.stale <;> simp 
  | reply r => cases stale : tx.stale <;> simp 
  | event carried =>
    have accepted (k : Nat) (slot : EventSlot) (place : s.events.slots[k]? = some slot) :=
      EventSet.accept_slot (carried := carried) place
    cases stale : tx.stale <;> simpa  using accepted
  | points carried => cases stale : tx.stale <;> simp [State.dropPoints]
  | thermal c => cases stale : tx.stale <;> cases renewed : tx.renewed <;> simp
  | presence fields =>
    have me (l : Line) : ({ s with line := l } : State).me = s.me := rfl
    cases stale : tx.stale
    · simp only [me, Bool.false_eq_true, if_false]
      generalize before_eq : ({ s with line := { s.line with
        tx := none, voids := 0, presenceTimer := some s.clock, presence := false } } : State) = before
      have facts : before.line = { s.line with tx := none, voids := 0, presenceTimer := some s.clock, presence := false } ∧
          before.join = s.join ∧ before.table = s.table ∧ before.events = s.events ∧ before.cap = s.cap := by
        subst before_eq
        exact ⟨rfl, rfl, rfl, rfl, rfl⟩
      have leaves := before.presenceRecorded_leaves s.me fields.standing fields.join
      have records := before.presenceRecorded_records s.me fields.standing fields.join
      simp only [facts, sameLine] at leaves records
      obtain ⟨held, logged, listens, quiet⟩ := records
      simp [leaves]
      exact ⟨held, logged, listens⟩
    · simp only [me, if_true]
      generalize before_eq : ({ s with line := { s.line with
        tx := none, voids := 0, presenceTimer := some s.clock } } : State) = before
      have facts : before.line = { s.line with tx := none, voids := 0, presenceTimer := some s.clock } ∧
          before.join = s.join ∧ before.table = s.table ∧ before.events = s.events ∧ before.cap = s.cap := by
        subst before_eq
        exact ⟨rfl, rfl, rfl, rfl, rfl⟩
      have leaves := before.presenceRecorded_leaves s.me fields.standing fields.join
      have records := before.presenceRecorded_records s.me fields.standing fields.join
      simp only [facts, sameLine] at leaves records
      obtain ⟨held, logged, listens, quiet⟩ := records
      simp [leaves]
      exact ⟨⟨held, logged, listens⟩, quiet⟩

end Sys2Proof.Machine
end

section
/-! PROOF. The timers of the line, the join unit and the claim agent (R57 to R59, R75, R80, R88, R112). -/

namespace Sys2Proof.Machine

open Sys2Proof

theorem State.pushM1_room {e : M1Entry} {s : State} (room : s.line.m1.length < 8) :
    s.pushM1 e = { s with line := { s.line with m1 := s.line.m1 ++ [e] } } := by
  simp [State.pushM1, room]

/-- An ordinary JOIN that waits alone in M1 takes the founding mark in its place (R80). -/
theorem State.waitingJoin {s : State} (waits : s.line.m1 = [.join false]) (idle : s.m1OnLine = false) :
    s.holdsJoin = true ∧ s.waitsInM1 M1Entry.isJoin = true ∧
    s.rewriteM1 M1Entry.isJoin (.join true) = { s with line := { s.line with m1 := [.join true] } } := by
  simp [State.holdsJoin, State.waitsInM1, State.rewriteM1, rewriteFirst, waits, idle, M1Entry.isJoin]

/-- Settles O38. -/
theorem lineTimersActAtTheirEnd : Obligations.LineTimersActAtTheirEnd := by
  unfold Obligations.LineTimersActAtTheirEnd
  intro since peer s
  refine ⟨fun runs => ?_, fun none => ?_, fun attached runs => ?_, fun apart => ⟨?_, ?_⟩, fun attached runs company => ?_,
    fun attached alone => ?_, fun quiet runs => ?_, fun loud => ?_, fun oldest rest ring => ?_, fun empty => ?_,
    fun k current pending timer room => ?_, fun idle => ?_, fun listening window empty due moving => ?_,
    fun listening window waits onLine => ?_, fun gone => ?_, fun wait room => ?_, fun none => ?_⟩
  · simp [exec, execPresenceTimerExpiry, runs]
  · simp [exec, execPresenceTimerExpiry, none]
  · simp only [exec, execPeerSilence, attached, runs]
    simp
  · simp only [exec, execPeerSilence]
    split <;> simp_all
  · simp only [exec, execIsolation]
    split <;> simp_all
  · simp [exec, execIsolation, attached, runs, company]
  · simp only [exec, execIsolation, alone]
    split <;> simp_all
  · refine ⟨(s.reach since 1000).enterListening, by simp only [exec, execQuietEnd, quiet, runs], ?_⟩
    simp [State.enterListening, Join.cold]
  · simp only [exec, execQuietEnd]
    split <;> simp_all
  · simp only [exec, execReportTimerExpiry, ring]
  · simp only [exec, execReportTimerExpiry, empty]
  · simp only [exec, execClaimTimerExpiry, current, pending, timer]
    rw [State.pushM1_room (by simpa using room)]
    simp [State.setClaim]
  · simp only [exec, execClaimTimerExpiry]
    (repeat' split) <;> simp_all
  · have none : (s.reach since 1000).holdsJoin = false := by simp [State.holdsJoin, empty]
    simp only [exec, execJoinWindowExpiry, listening, window]
    rw [if_pos (by simpa [State.holdsJoin] using none), State.pushM1_room (by simp [empty]),
      State.finish_of_advance_none (State.advance_none_of_moving (by simpa using moving)) (by simpa using due)]
    simp [empty, listening]
  · have waiting (j : Join) := State.waitingJoin (s := { s.reach since 1000 with join := j }) (by simpa using waits)
      (by simpa [State.m1OnLine] using onLine)
    simp only [exec, execJoinWindowExpiry, listening, window]
    rw [(waiting _).1, if_neg (by decide), if_pos (waiting _).2.1, (waiting _).2.2]
    simp [listening]
  · simp only [exec, execJoinWindowExpiry]
    split <;> simp_all
  · simp only [exec, execJoinWaitExpiry, wait, State.failJoin]
    rw [State.pushM1_room (by simpa using room)]
    simp
  · simp only [exec, execJoinWaitExpiry, none]

end Sys2Proof.Machine
end

section
/-! PROOF. What the standing arm starts at the end of a command: one start, gate 1, the claim (R26, R27, R36, R73). -/

namespace Sys2Proof.Machine

open Sys2Proof

/-! ## The going on of the arm -/

/-- An arm with one thing to go on with goes on with it, and with nothing more. -/
theorem State.settle_of_advance {s t : State} (goes : s.advance = some t) (stops : t.advance = none) : s.settle = t := by
  simp [State.settle, State.goOn, goes, stops]

theorem State.settle_of_advances {s t u : State} (goes : s.advance = some t) (then_ : t.advance = some u)
    (stops : u.advance = none) :
    s.settle = u := by
  simp [State.settle, State.goOn, goes, then_, stops]

theorem State.finish_of_settle {s t : State} (settles : s.settle = t) (due : t.detachDue = none) : s.finish = t := by
  simp [State.finish, settles, due]

theorem State.finish_of_advance {s t : State} (goes : s.advance = some t) (stops : t.advance = none) (due : t.detachDue = none) :
    s.finish = t :=
  State.finish_of_settle (State.settle_of_advance goes stops) due

/-- A start that waits begins, once the arm stands and the run is not HELD (R26, R33). -/
theorem State.advance_todo {s : State} {t : Start} (due : s.detachDue = none) (still : s.arm.st = .still)
    (todo : s.arm.todo = some t) (may : s.run.st ≠ .held ∨ t = .home) : s.advance = some (s.begin_ t) := by
  have begins : s.mayBegin t = true := by simpa [State.mayBegin] using may
  simp [State.advance, due, still, todo, begins]

/-- The head segment is taken (R26). -/
theorem State.advance_take {s : State} {seg : Segment} {rest : List Segment} (due : s.detachDue = none)
    (still : s.arm.st = .still) (todo : s.arm.todo = none) (parked : s.chg.parked = false) (queue : s.run.queue = seg :: rest)
    (active : s.run.st = .active) (stack : s.run.stack = []) (current : s.run.current = none) :
    s.advance = some (s.take seg rest) := by
  simp [State.advance, due, still, todo, parked, queue, State.mayTake, active, stack, current]

/-! ## Gate 1 -/

theorem State.claimStands_of_none {s : State} (r : Requester) (wanted : ItemSet) (claim : s.agent.current = none) :
    s.claimStands r wanted = false := by
  simp [State.claimStands, claim]

/-- A start that asks for items that are held passes gate 1 (R27). -/
theorem State.begin_of_held {s : State} {t : Start} {r : Requester} {items : ItemSet} (fresh : s.arm.itemsHeld = false)
    (asks : s.asks t = some (r, items)) (attached : s.join.st = .attached) (claim : s.agent.current = none)
    (held : s.missing (items ||| zoneItems s.keep) = 0) :
    s.begin_ t = ({ s with arm := { s.arm with todo := none } } : State).startPastGate t := by
  simp [State.begin_, State.gateItems, fresh, asks, State.claimStands_of_none _ _ claim, State.request, attached, held]

/-- A start that asks for nothing passes gate 1. -/
theorem State.begin_of_noItems {s : State} {t : Start} (fresh : s.arm.itemsHeld = false) (asks : s.asks t = none) :
    s.begin_ t = ({ s with arm := { s.arm with todo := none } } : State).startPastGate t := by
  simp [State.begin_, State.gateItems, fresh, asks]

/-- A start whose claim has been told held passes gate 1 (R28). -/
theorem State.begin_of_told {s : State} {t : Start} (told : s.arm.itemsHeld = true) :
    s.begin_ t = ({ s with arm := { s.arm with todo := none, itemsHeld := false } } : State).startPastGate t := by
  simp [State.begin_, State.gateItems, told]

/-- A start whose items are held passes gate 1, whether it has been told so or finds it so. -/
theorem State.begin_of_free {s : State} {t : Start} {r : Requester} {items : ItemSet} (asks : s.asks t = some (r, items))
    (attached : s.join.st = .attached) (claim : s.agent.current = none) (held : s.missing (items ||| zoneItems s.keep) = 0) :
    s.begin_ t = ({ s with arm := { s.arm with todo := none, itemsHeld := false } } : State).startPastGate t := by
  cases told : s.arm.itemsHeld
  · rw [State.begin_of_held told asks attached claim held]
    exact congrArg (fun arm => ({ s with arm := arm } : State).startPastGate t) (by simp [← told])
  · exact State.begin_of_told told

/-- The state in which a start waits for the items that are missing, with its claim in M1 (R27, R73). -/
def State.claiming (r : Requester) (wanted : ItemSet) (s : State) : State :=
  ({ s with
    arm := { s.arm with st := .claiming }
    line := { s.line with m1 := s.line.m1 ++ [.claim (s.missing wanted) s.agent.formed] }
    agent := { s.agent with
      current := some { requester := r, wanted := wanted, items := s.missing wanted, phase := .queued, timer := none,
                        serial := s.agent.formed }
      formed := s.agent.formed + 1 } } : State).emit (.claimWait (s.missing wanted))

/-- A start with items missing waits for them (R27, R73). -/
theorem State.begin_of_missing {s : State} {t : Start} {r : Requester} {items : ItemSet} (fresh : s.arm.itemsHeld = false)
    (asks : s.asks t = some (r, items)) (attached : s.join.st = .attached) (claim : s.agent.current = none)
    (room : s.line.m1.length < 8) (missing : s.missing (items ||| zoneItems s.keep) ≠ 0) :
    s.begin_ t = s.claiming r (items ||| zoneItems s.keep) := by
  have waits : ¬ s.missing (items ||| zoneItems s.keep) = 0#24 := missing
  simp [State.begin_, State.gateItems, fresh, asks, State.claimStands_of_none _ _ claim, State.request, attached, waits, claim,
    State.newClaim, State.pushM1_room room, State.waitForItems, State.claiming]

theorem State.claiming_advance (r : Requester) (wanted : ItemSet) (s : State) : (s.claiming r wanted).advance = none :=
  State.advance_none_of_moving (by simp [State.claiming])

@[simp] theorem State.claiming_leaves (r : Requester) (wanted : ItemSet) (s : State) :
    (s.claiming r wanted).arm = { s.arm with st := .claiming } ∧ (s.claiming r wanted).axes = s.axes ∧
    (s.claiming r wanted).run = s.run ∧ (s.claiming r wanted).chg = s.chg ∧ (s.claiming r wanted).detachDue = s.detachDue ∧
    (s.claiming r wanted).line.m1 = s.line.m1 ++ [.claim (s.missing wanted) s.agent.formed] ∧
    (s.claiming r wanted).agent.current = some
      { requester := r, wanted := wanted, items := s.missing wanted, phase := .queued, timer := none,
        serial := s.agent.formed } := by
  simp [State.claiming]

/-! ## GO_ON and HOME -/

@[simp] theorem State.heard_missing (p : Station) (w : Bool) (items : ItemSet) (s : State) :
    (s.heard p w).missing items = s.missing items := by
  simp [State.missing, State.held, State.releasing, State.me]

@[simp] theorem State.heard_keep (p : Station) (w : Bool) (s : State) : (s.heard p w).keep = s.keep := by
  simp [State.keep]

/-- Settles O21. -/
theorem goOnResumesWhatWaits : Obligations.GoOnResumesWhatWaits := by
  unfold Obligations.GoOnResumesWhatWaits
  intro sender s listens
  have taken {r : Result} {u : State} (own : (s.heard sender true).takeGoOn sender = answer r u) :
      exec (.goOn sender []) s = .next (u.reply sender 0x23 r []) :=
    congrArg Host.Outcome.next (State.command_answer 0x23 false listens own)
  have resumes (owner : s.run.owner = some sender) (held : s.run.st = .held) :
      exec (.goOn sender []) s = .next
        (({ s.heard sender true with run := { s.run with st := .active } } : State).finish.reply sender 0x23 .ok []) :=
    taken (by simp [State.takeGoOn, owner, held])
  refine ⟨fun other => taken (by simp [State.takeGoOn, other]), fun owner still => taken (by simp [State.takeGoOn, owner, still]),
    resumes, fun owner held due still claim left todo items => ?_⟩
  have attached := State.attached_of_listensTo listens
  generalize before_eq : ({ s.heard sender true with run := { s.run with st := .active } } : State) = before
  have missing : before.missing (0 ||| zoneItems before.keep) = 0 := by
    rw [← before_eq]
    simpa [State.missing, State.held, State.releasing, State.keep, State.me] using items
  have goes : before.advance = some (before.begin_ (.dwellOn left)) := by
    rw [← before_eq]
    exact State.advance_todo (by simpa using due) (by simpa using still) (by simpa using todo) (.inl nofun)
  rw [State.begin_of_free (r := .motion) rfl (by simpa [← before_eq] using attached) (by simpa [← before_eq] using claim) missing]
    at goes
  have finishes := State.finish_of_advance goes
    (State.advance_none_of_moving (by simp [State.startPastGate, State.startDwell, State.formMotion]))
    (by simpa [← before_eq, State.startPastGate, State.startDwell] using due)
  refine ⟨before.finish, before_eq ▸ resumes owner held, ?_⟩
  rw [finishes]
  simp [← before_eq, State.startPastGate, State.startDwell, State.formMotion, restingMotion]

/-- The next axis begins its seek, unreferenced (R14). -/
theorem State.nextSeek_begins {s : State} {c : Image} {axis : AxisName} {more : List AxisName} (config : s.config = some c)
    (seeks : s.arm.seeks = axis :: more) (clear : seekBlocked (vget c.axes axis) (vget s.axes axis) = none) :
    let t := s.nextSeek
    t.arm.st = .homing ∧ t.arm.seeks = axis :: more ∧ t.arm.markMet = false ∧ t.arm.motion.map (·.act) = some (.seek axis) ∧
    (vget t.axes axis).referenced = false ∧ t.detachDue = s.detachDue := by
  have clear' : seekBlocked (vget c.axes axis) { vget s.axes axis with referenced := false } = none := clear
  simp only [State.nextSeek, config, seeks]
  simp [clear', State.formMotion, restingMotion, seeks]

theorem State.startHome_seeks {s : State} {c : Image} {axis : AxisName} {more : List AxisName} (config : s.config = some c)
    (order : c.order = axis :: more) (clear : seekBlocked (vget c.axes axis) (vget s.axes axis) = none) :
    let t := s.startHome
    t.arm.st = .homing ∧ t.arm.seeks = c.order ∧ t.arm.markMet = false ∧ t.arm.motion.map (·.act) = some (.seek axis) ∧
    (vget t.axes axis).referenced = false ∧ t.detachDue = s.detachDue := by
  simp only [State.startHome, config, order]
  exact State.nextSeek_begins (s := { s with arm := { s.arm with
    todo := none, begun := s.arm.begun ||| c.homeZones, seeks := axis :: more } }) config rfl clear

/-- Settles O23. -/
theorem homeClaimsThenSeeks : Obligations.HomeClaimsThenSeeks := by
  unfold Obligations.HomeClaimsThenSeeks
  intro sender c s listens config
  have attached := State.attached_of_listensTo listens
  have taken {r : Result} {u : State} (own : (s.heard sender true).takeHome = answer r u) :
      exec (.home sender []) s = .next (u.reply sender 0x25 r []) :=
    congrArg Host.Outcome.next (State.command_answer 0x25 false listens own)
  refine ⟨fun refused => taken ?_, fun none still real => ?_⟩
  · have blocked : ¬ (s.run.st = .none ∧ s.arm.st = .still ∧ s.arm.shadow = false) := by grind
    simp_all [State.takeHome]
  generalize before_eq : ({ s.heard sender true with arm := { s.arm with todo := some .home, itemsHeld := false } } : State) =
    before
  have homes : exec (.home sender []) s = .next (before.finish.reply sender 0x25 .ok []) :=
    taken (by simp [State.takeHome, none, still, real, attached, ← before_eq, State.setTodo])
  have config' : before.config = some c := by simpa [← before_eq, State.config] using config
  have missing : before.missing (zoneItems c.homeZones ||| zoneItems before.keep) =
      s.missing (zoneItems c.homeZones ||| zoneItems s.keep) := by
    simp [← before_eq, State.missing, State.held, State.releasing, State.keep, State.me]
  have asks : before.asks .home = some (.home, zoneItems c.homeZones) := by simp [State.asks, config']
  refine ⟨homes, fun due held claim axis more order clear => ⟨before.finish, homes, ?_⟩, fun due lacks claim room =>
    ⟨before.finish, homes, ?_⟩⟩
  · have goes : before.advance = some (before.begin_ .home) := by
      rw [← before_eq]
      exact State.advance_todo (by simpa using due) (by simpa using still) rfl (.inr rfl)
    rw [State.begin_of_free asks (by simpa [← before_eq] using attached) (by simpa [← before_eq] using claim)
      (missing.trans held)] at goes
    obtain ⟨st, seeks, mark, motion, referenced, due'⟩ := State.startHome_seeks
      (s := { before with arm := { before.arm with todo := Option.none, itemsHeld := false } })
      config' order (by simpa [← before_eq] using clear)
    rw [State.finish_of_advance goes (State.advance_none_of_moving (by simp [State.startPastGate, st]))
      (due'.trans (by simpa [← before_eq] using due))]
    exact ⟨st, seeks, mark, motion, referenced⟩
  · have goes : before.advance = some (before.begin_ .home) := by
      rw [← before_eq]
      exact State.advance_todo (by simpa using due) (by simpa using still) rfl (.inr rfl)
    rw [State.begin_of_missing (by simp [← before_eq]) asks (by simpa [← before_eq] using attached)
      (by simpa [← before_eq] using claim)
      (by simpa [← before_eq] using room) (by rw [missing]; exact lacks)] at goes
    rw [State.finish_of_advance goes (State.claiming_advance _ _ _) (by simpa [← before_eq] using due)]
    simp [missing]
    simp [← before_eq]

/-! ## Seeks (O12) -/

theorem State.seeking_iff {s : State} {axis : AxisName} :
    s.seeking = some axis ↔ s.arm.st = .homing ∧ s.arm.stopping = none ∧ s.arm.seeks.head? = some axis := by
  cases stop : s.arm.stopping <;> simp [State.seeking, stop]

/-- An axis whose limit stands asserted fails its seek (R16). -/
theorem State.nextSeek_blocked {s : State} {c : Image} {axis : AxisName} {more : List AxisName} {detail : Nat}
    (config : s.config = some c) (seeks : s.arm.seeks = axis :: more)
    (blocked : seekBlocked (vget c.axes axis) (vget s.axes axis) = some detail) :
    let t := s.nextSeek
    t.lastFault = some .homeFail ∧ t.arm.st = .off ∧ (vget t.axes axis).referenced = false := by
  have blocked' : seekBlocked (vget c.axes axis) { vget s.axes axis with referenced := false } = some detail := blocked
  simp only [State.nextSeek, config, seeks]
  simp [blocked', report]

/-- After the last seek the standing set is the home standing set, and the arm stands (R15). -/
theorem State.nextSeek_done {s : State} {c : Image} (config : s.config = some c) (seeks : s.arm.seeks = []) :
    let t := s.nextSeek
    t.arm.standing = c.homeStanding ∧ t.arm.begun = 0 ∧ t.arm.motion = none ∧ t.arm.seeks = [] ∧
    t.arm.st = (if s.arm.energized then .still else .off) ∧ t.axes = s.axes := by
  simp only [State.nextSeek, config, seeks]
  simp [seeks]

/-- Settles O12. -/
theorem seeksReferenceTheirAxes : Obligations.SeeksReferenceTheirAxes := by
  unfold Obligations.SeeksReferenceTheirAxes
  refine ⟨fun axis c s config => ⟨fun homing free first unmet => ?_, fun other => ?_⟩,
    fun beyond axis more c s config homing free seeks => ⟨fun unmet => ?_, fun met => ?_⟩⟩
  · have seeking := State.seeking_iff.mpr ⟨homing, free, first⟩
    refine ⟨{ s.updateAxis axis (AxisChannel.refer (vget c.axes axis).reference) with arm := { s.arm with markMet := true } },
      by simp [exec, execReferenceMark, config, seeking, unmet, State.updateAxis], ?_⟩
    have elsewhere (b : AxisName) (ne : b ≠ axis) := s.updateAxis_other axis (AxisChannel.refer (vget c.axes axis).reference) ne
    simp [AxisChannel.refer] at elsewhere ⊢
    exact elsewhere
  · have ignored : (s.seeking == some axis && !s.arm.markMet) = false := by
      have seeks := State.seeking_iff (s := s) (axis := axis)
      grind
    simp [exec, execReferenceMark, config, ignored]
  · have seeking := State.seeking_iff.mpr ⟨homing, free, by rw [seeks]; rfl⟩
    simp [exec, execSeekEnd, config, seeking, unmet]
  · have seeking := State.seeking_iff.mpr ⟨homing, free, by rw [seeks]; rfl⟩
    generalize stopped_eq : ({ s.updateAxis axis (fun a => { a with setpoint := seekRest (vget c.axes axis) a beyond }) with
      arm := { s.arm with seeks := more } } : State) = stopped
    have config' : stopped.config = some c := by rw [← stopped_eq]; exact config
    have same (b : AxisName) : seekBlocked (vget c.axes b) (vget stopped.axes b) = seekBlocked (vget c.axes b) (vget s.axes b) :=
      by
      by_cases own : b = axis
      · simp [own, ← stopped_eq, seekBlocked]
      · simp [← stopped_eq, State.updateAxis_other _ _ _ own]
    refine ⟨stopped.nextSeek, ?_, fun last => ?_, fun b after next => ⟨?_, fun clear => ?_, fun detail blocked => ?_⟩⟩
    · simp [exec, execSeekEnd, config, seeking, met, seeks, ← stopped_eq, State.updateAxis]
    · obtain ⟨standing, begun, motion, none, st, axes⟩ := State.nextSeek_done config' (by rw [← stopped_eq]; exact last)
      refine ⟨standing, begun, motion, none, by simpa [← stopped_eq] using st, ?_⟩
      rw [axes]
      simp [← stopped_eq]
    · cases blocked : seekBlocked (vget c.axes b) (vget s.axes b) with
      | none => exact (State.nextSeek_begins config' (by rw [← stopped_eq]; exact next) ((same b).trans blocked)).2.2.2.2.1
      | some detail => exact (State.nextSeek_blocked config' (by rw [← stopped_eq]; exact next) ((same b).trans blocked)).2.2
    · obtain ⟨st, rest, mark, motion, -⟩ :=
        State.nextSeek_begins config' (by rw [← stopped_eq]; exact next) ((same b).trans clear)
      exact ⟨st, rest.trans next.symm, mark, motion⟩
    · obtain ⟨fault, st, -⟩ := State.nextSeek_blocked config' (by rw [← stopped_eq]; exact next) ((same b).trans blocked)
      exact ⟨fault, st⟩

end Sys2Proof.Machine
end

section
/-! PROOF. The stand-alone excursions: CHANGE and QUALIFY (R123, R124, R136). -/

namespace Sys2Proof.Machine

open Sys2Proof

theorem State.settle_of_three {s t u v : State} (first : s.advance = some t) (second : t.advance = some u)
    (third : u.advance = some v) (stops : v.advance = none) : s.settle = v := by
  simp [State.settle, State.goOn, first, second, third, stops]

/-- The record that a CHANGE pushes (Table 9-2). -/
def State.returnRecord (kind : ExcursionKind) (s : State) : ReturnRecord :=
  { kind := kind, position := s.positions, standing := s.arm.standing, need := none, serves := false }

/-- The state in which a stand-alone CHANGE has begun (R123). -/
def State.changing (id : ProbeId) (s : State) : State :=
  { s with
    run := { s.run with stack := [s.returnRecord .change] }
    arm := { s.arm with todo := none, itemsHeld := false }
    chg := { s.chg with change := some (ChangeRecord.new s.chg.begun id true), begun := s.chg.begun + 1, stayed := false } }

/-- A CHANGE that is pushed chooses its slots next (R123). -/
theorem State.pushChange_advance {s : State} (id : ProbeId) (due : s.detachDue = none) (still : s.arm.st = .still)
    (idle : s.run.st = .none) (stack : s.run.stack = []) (read : s.head.idRead = none) :
    (s.pushChange id false).advance = some ((s.changing id).chooseSlots (ChangeRecord.new s.chg.begun id true)) := by
  have goes : (s.pushChange id false).advance = some ((s.pushChange id false).begin_ .changeBegin) :=
    State.advance_todo (by simpa [State.pushChange] using due) (by simpa [State.pushChange, State.setTodo] using still)
      (by simp [State.pushChange, State.setTodo]) (.inl (by simp [State.pushChange, State.push, stack, idle]))
  rw [goes, State.begin_of_noItems (by simp [State.pushChange, State.setTodo]) rfl]
  simp [State.startPastGate, State.beginChange, State.mustWaitForRead, State.pushChange, State.push, stack, State.setTodo, read,
    State.updateChange, ChangeRecord.new, State.changing, State.returnRecord]

/-! ## NO_SLOT -/

@[simp] theorem State.failChange_change (s : State) : s.failChange.chg.change = none := by
  unfold State.failChange
  split
  · assumption
  · split <;> simp

theorem State.faultStill_change (r : FaultReport) (s : State) :
    (s.faultStill r).chg.change = none ∧ (s.faultStill r).chg.parked = false := by
  simp [State.faultStill, State.failAll, State.discardExcursions]

/-- M1 takes a RELEASE without overflow: a place is left, or a RELEASE waits at its tail (R53). -/
def State.takesRelease (s : State) : Prop :=
  s.line.m1.length < 8 ∨ ∃ front waiting, s.line.m1 = front ++ [.release waiting] ∧ (front ≠ [] ∨ s.m1OnLine = false)

theorem State.takesRelease_of_line {s t : State} (h : s.takesRelease) (m1 : t.line.m1 = s.line.m1) (tx : t.line.tx = s.line.tx) :
    t.takesRelease := by
  simpa [State.takesRelease, State.m1OnLine, m1, tx] using h

theorem State.queueRelease_fitsIn {s : State} (items : ItemSet) (h : s.takesRelease) :
    (s.queueRelease items).detachDue = s.detachDue ∧ (s.queueRelease items).takesRelease := by
  unfold State.queueRelease
  split
  · exact ⟨rfl, h⟩
  · split
    next m1 merged =>
      refine ⟨rfl, ?_⟩
      obtain room | ⟨front, waiting, tail, mergeable⟩ := h
      · exact .inl (by simpa [mergeTail_length _ _ _ _ merged] using room)
      · rw [tail, mergeTail_merges _ _ _ _ mergeable] at merged
        exact .inr ⟨front, waiting ||| items, (Option.some.inj merged).symm, mergeable⟩
    next unmerged =>
      have room : s.line.m1.length < 8 := by
        obtain room | ⟨front, waiting, tail, mergeable⟩ := h
        · exact room
        · simp [tail, mergeTail_merges _ _ _ _ mergeable] at unmerged
      rw [State.pushM1_room room]
      refine ⟨rfl, ?_⟩
      by_cases empty : s.line.m1 = []
      · exact .inl (by simp [empty])
      · exact .inr ⟨s.line.m1, items, rfl, .inl empty⟩

/-- What keeps M1 keeps that no detach is due. -/
theorem State.releaseAfterExcursion_due {s : State} (had : Bool) (room : s.takesRelease) :
    (s.releaseAfterExcursion had).detachDue = s.detachDue := by
  unfold State.releaseAfterExcursion State.releaseOutside
  split
  · exact (State.queueRelease_fitsIn _ room).1
  · rfl

theorem State.failChange_fitsIn {s : State} (room : s.takesRelease) (notDone : ∀ r, s.chg.change = some r → r.step ≠ .done) :
    s.failChange.detachDue = s.detachDue ∧ s.failChange.takesRelease := by
  unfold State.failChange
  split
  · exact ⟨rfl, room⟩
  next r change =>
    have begun : (r.step == .done) = false := by simpa using notDone r change
    rw [begun]
    obtain ⟨due, room'⟩ := State.queueRelease_fitsIn (s.changeSlots r ||| zoneItems (itemZones s.held &&& ~~~ s.keep)) room
    exact ⟨by simpa using due, State.takesRelease_of_line room' (by simp) (by simp)⟩

/-- A fault of an arm at rest makes no detach due, where M1 takes its RELEASEs. -/
theorem State.faultStill_due (r : FaultReport) {s : State} (claim : s.agent.current = none) (room : s.takesRelease)
    (idle : s.run.st = .none) (notDone : ∀ r, s.chg.change = some r → r.step ≠ .done) :
    (s.faultStill r).detachDue = s.detachDue := by
  obtain ⟨due, room'⟩ := State.failChange_fitsIn (s := s.raise r) (State.takesRelease_of_line room (by simp) (by simp))
    (by simpa using notDone)
  have failed : (s.raise r).failAll.detachDue = s.detachDue ∧ (s.raise r).failAll.takesRelease := by
    unfold State.failAll
    dsimp only
    rw [State.dropClaim_of_none (by simpa using claim)]
    exact ⟨by simpa using due, State.takesRelease_of_line room' (by simp) (by simp)⟩
  have ended : (s.raise r).failAll.standStill.endRun .fault 0 = (s.raise r).failAll.standStill := by
    simp [State.endRun, idle]
  unfold State.faultStill
  dsimp only
  rw [ended, State.releaseAfterExcursion_due _ (State.takesRelease_of_line failed.2 (by simp) (by simp))]
  simpa using failed.1

/-- A CHANGE that finds no slot ends with its fault, and the arm stands with nothing to start (R123). -/
theorem State.changing_noSlot {s : State} (id : ProbeId) (detail : Nat) (due : s.detachDue = none) (claim : s.agent.current = none)
    (room : s.line.m1.length < 8) (idle : s.run.st = .none) :
    let f := (s.changing id).faultStill (report .noSlot detail 0)
    f.advance = none ∧ f.detachDue = none ∧ f.lastFault = some .noSlot ∧ f.run.stack = [] ∧ f.chg.change = none ∧
    (s.events.mask.getLsbD 0 = true → s.events.slots.length = 12 → ∃ slot, f.events.slots[0]? = some slot ∧
      slot.pending = some (.fault (report .noSlot detail 0) s.positions)) := by
  obtain ⟨change, parked⟩ := (s.changing id).faultStill_change (report .noSlot detail 0)
  have none := State.faultStill_due (s := s.changing id) (report .noSlot detail 0) claim (.inl room) idle (by
    simp [State.changing, ChangeRecord.new])
  refine ⟨State.advance_none_of_idle (by simp) parked (.inr (by simp)), none.trans due, by simp [report], by simp, change,
    fun mask length => ?_⟩
  rw [State.faultStill_slot]
  exact State.raise_slot (s := s.changing id) _ mask length

/-! ## The slots chosen -/

theorem lowestSlot_eq_some {p : Nat → Bool} {n : Fin 8} (meets : p n.val = true) (lowest : ∀ k < n, p k.val = false) :
    lowestSlot p = some n := by
  unfold lowestSlot
  rw [List.find?_eq_some_iff_getElem]
  refine ⟨meets, n.val, by simp, by simp, fun j lt => ?_⟩
  simpa using lowest ⟨j, by omega⟩ (by simpa [Fin.lt_def] using lt)

theorem lowestSlot_eq_none {p : Nat → Bool} (none : ∀ n : Fin 8, p n.val = false) : lowestSlot p = Option.none := by
  simp [lowestSlot, none]

/-- The choice of slots where the target is not mounted (R123). -/
theorem State.chooseSlots_pick {s : State} {tbl : Table} {id : ProbeId} (table : s.table = some tbl)
    (other : s.mounted ≠ .resolved id) :
    (s.changing id).chooseSlots (ChangeRecord.new s.chg.begun id true) =
      match tbl.pickSlot id with
      | none => (s.changing id).faultStill (report .noSlot 0 0)
      | some pick =>
        if s.mounted == .none then (s.changing id).claimSlots pick none
        else
          match tbl.dropSlot (s.mountedRecord.bind (·.homeSlot)) with
          | none => (s.changing id).faultStill (report .noSlot 1 0)
          | some drop => (s.changing id).claimSlots pick (some drop) := by
  have unmounted : ((s.changing id).mounted == .resolved (ChangeRecord.new s.chg.begun id true).target) = false := by
    simpa [State.changing, ChangeRecord.new] using other
  have table' : (s.changing id).table = some tbl := table
  unfold State.chooseSlots
  rw [unmounted, table']
  rfl

theorem State.topCorridor_of {s : State} {c : Image} {r : ReturnRecord} {rest : List ReturnRecord} (config : s.config = some c)
    (stack : s.run.stack = r :: rest) : s.topCorridor = corridorOf c r.kind := by
  simp [State.topCorridor, State.top, config, stack]

/-- A CHANGE with its slots chosen waits for what is missing of them and the rack corridor (R124). -/
theorem State.claimSlots_advance {s : State} {c : Image} (id : ProbeId) (pick : Fin 8) (drop : Option (Fin 8)) (config : s.config = some c)
    (due : s.detachDue = none) (still : s.arm.st = .still) (idle : s.run.st = .none) (attached : s.join.st = .attached)
    (claim : s.agent.current = none) (room : s.line.m1.length < 8)
    (missing : s.missing (zoneItems c.rackCorridor ||| slotItem pick ||| slotItems drop ||| zoneItems s.keep) ≠ 0) :
    ((s.changing id).claimSlots pick drop).advance = some (((s.changing id).claimSlots pick drop).claiming .change
      (zoneItems c.rackCorridor ||| slotItem pick ||| slotItems drop ||| zoneItems s.keep)) := by
  have asks : ((s.changing id).claimSlots pick drop).asks .changeClaim =
      some (.change, zoneItems c.rackCorridor ||| slotItem pick ||| slotItems drop) := by
    have corridor : ((s.changing id).claimSlots pick drop).topCorridor = c.rackCorridor :=
      State.topCorridor_of (r := s.returnRecord .change) (rest := []) 
        (by simpa [State.claimSlots, State.updateChange, State.setTodo, State.changing, State.config] using config)
        (by simp [State.claimSlots, State.updateChange, State.setTodo, State.changing])
    have chosen : ∃ r, ((s.changing id).claimSlots pick drop).chg.change = some r ∧ r.pick = some pick ∧ r.drop = drop :=
      ⟨_, rfl, rfl, rfl⟩
    obtain ⟨r, change, picks, drops⟩ := chosen
    simp [State.asks, corridor, change, picks, drops, slotItems]
  have goes := State.advance_todo (s := (s.changing id).claimSlots pick drop) (t := .changeClaim) due still rfl (.inl (by
    simp [State.claimSlots, State.updateChange, State.setTodo, State.changing, idle]))
  rw [goes, State.begin_of_missing rfl asks attached claim room missing]
  rfl

/-! ## The probe mounted already -/

/-- The state in which a CHANGE has ended NONE_NEEDED (R123). -/
def State.noneNeeded (id : ProbeId) (s : State) : State :=
  let t := (s.changing id).dropChange.changeEnded .noneNeeded
  { t with chg := { t.chg with stayed := true } }

theorem State.chooseSlots_mounted {s : State} {id : ProbeId} (mounted : s.mounted = .resolved id) :
    (s.changing id).chooseSlots (ChangeRecord.new s.chg.begun id true) = (s.noneNeeded id).afterChange := by
  have same : ((s.changing id).mounted == .resolved (ChangeRecord.new s.chg.begun id true).target) = true := by
    simpa [State.changing, ChangeRecord.new] using mounted
  unfold State.chooseSlots
  rw [same]
  rfl

@[simp] theorem State.noneNeeded_leaves (id : ProbeId) (s : State) :
    (s.noneNeeded id).arm = { s.arm with todo := none, itemsHeld := false } ∧ (s.noneNeeded id).axes = s.axes ∧
    (s.noneNeeded id).run = { s.run with stack := [s.returnRecord .change] } ∧
    (s.noneNeeded id).chg = { s.chg with change := none, begun := s.chg.begun + 1, stayed := true } ∧
    (s.noneNeeded id).line = s.line ∧ (s.noneNeeded id).agent = s.agent ∧ (s.noneNeeded id).join = s.join ∧
    (s.noneNeeded id).table = s.table ∧ (s.noneNeeded id).setup = s.setup ∧ (s.noneNeeded id).probes = s.probes ∧
    (s.noneNeeded id).mounted = s.mounted ∧ (s.noneNeeded id).detachDue = s.detachDue := by
  simp [State.noneNeeded, State.dropChange, State.changing]

theorem State.noneNeeded_slot {s : State} {id : ProbeId} (mounted : s.mounted = .resolved id) (mask : s.events.mask.getLsbD 2 = true)
    (length : s.events.slots.length = 12) :
    ∃ slot, (s.noneNeeded id).events.slots[2]? = some slot ∧ slot.pending = some (.changeEnd .noneNeeded id) := by
  have shown : (s.changing id).dropChange.mounted.shown = id := by
    simp [State.changing, State.dropChange, mounted, Mounted.shown]
  obtain ⟨slot, place, pending⟩ := State.emit_slot (.changeEnd .noneNeeded (s.changing id).dropChange.mounted.shown)
    (s.changing id).dropChange mask length
  exact ⟨slot, place, by rw [pending, shown]⟩

/-- The only record of the stack is popped: the arm stands with nothing to start (R138). -/
theorem State.pop_last {s : State} {c : Image} {r : ReturnRecord} (config : s.config = some c) (stack : s.run.stack = [r])
    (serves : r.serves = false) (need : r.need = none) (room : s.line.m1.length < 8) :
    s.pop.detachDue = s.detachDue ∧ s.pop.run = { s.run with stack := [] } ∧ s.pop.chg.change = s.chg.change ∧
    s.pop.chg.parked = s.chg.parked ∧ s.pop.arm.st = (if s.arm.energized then .still else .off) ∧ s.pop.arm.todo = s.arm.todo ∧
    s.pop.arm.standing = r.standing ∧ s.pop.axes = s.axes ∧ s.pop.events = s.events := by
  generalize stood_eq : (s.arriveIn r.standing).standStill = stood
  have popped : s.pop = ({ stood with
      run := { stood.run with stack := [] }
      chg := { stood.chg with stayed := stood.chg.stayed && !(r.kind == ExcursionKind.change) }
      qual := if r.kind == ExcursionKind.qualify then none else stood.qual } : State).releaseOutside (stood.keep ||| 0) := by
    unfold State.pop
    simp [config, stack, serves, need, ← stood_eq]
    rfl
  rw [popped]
  refine ⟨?_, ?_⟩
  · unfold State.releaseOutside
    rw [(State.queueRelease_fitsIn _ (.inl (by simpa [← stood_eq] using room))).1]
    simp [← stood_eq]
  · simp [← stood_eq]
    rfl

/-- The record of a CHANGE that stayed is popped at once (R138). -/
theorem State.noneNeeded_returns {s : State} {c : Image} (id : ProbeId) (config : s.config = some c) (due : s.detachDue = none)
    (still : s.arm.st = .still) (idle : s.run.st = .none) (parked : s.chg.parked = false) (room : s.line.m1.length < 8) :
    ∃ t, ((s.noneNeeded id).setTodo .beginReturn).advance = some t ∧ t.advance = none ∧ t.detachDue = none ∧ t.run.stack = [] ∧
      t.chg.change = none ∧ t.arm.st = (if s.arm.energized then .still else .off) ∧ t.arm.standing = s.arm.standing ∧
      t.axes = s.axes ∧ t.events = (s.noneNeeded id).events := by
  generalize waits_eq : (s.noneNeeded id).setTodo .beginReturn = waits
  have goes := State.advance_todo (s := waits) (t := .beginReturn) (by simpa [← waits_eq] using due)
    (by simpa [← waits_eq, State.setTodo] using still) (by simp [← waits_eq, State.setTodo]) (.inl (by simp [← waits_eq, idle]))
  rw [State.begin_of_noItems (by simp [← waits_eq, State.setTodo]) (by simp [← waits_eq, State.asks, State.setTodo, State.top, State.returnRecord])] at goes
  generalize begun_eq : ({ waits with arm := { waits.arm with todo := none } } : State) = begun at goes
  have config' : begun.config = some c := by simpa [← begun_eq, ← waits_eq, State.setTodo, State.config] using config
  have pops : begun.startPastGate .beginReturn = begun.pop := by
    simp [State.startPastGate, State.startReturn, config', State.top]
    simp [← begun_eq, ← waits_eq, State.returnRecord]
  obtain ⟨due', run, change, parked', st, todo, standing, axes, events⟩ := State.pop_last (r := s.returnRecord .change) config'
    (by simp [← begun_eq, ← waits_eq]) rfl rfl (by simpa [← begun_eq, ← waits_eq] using room)
  rw [pops] at goes
  refine ⟨begun.pop, goes, State.advance_none_of_idle ?_ ?_ (.inr ?_), ?_, by simp [run], ?_, ?_, ?_, ?_, ?_⟩
  · rw [todo]; simp [← begun_eq]
  · rw [parked']; simpa [← begun_eq, ← waits_eq] using parked
  · rw [run]; simp [← begun_eq, ← waits_eq, idle]
  · rw [due']; simpa [← begun_eq, ← waits_eq] using due
  · rw [change]; simp [← begun_eq, ← waits_eq]
  · rw [st]; simp [← begun_eq, ← waits_eq]
  · exact standing
  · rw [axes]; simp [← begun_eq, ← waits_eq]
  · rw [events]; simp [← begun_eq, ← waits_eq]

/-- After a CHANGE that stayed, the mounted probe is qualified only where it is not yet and the image wants it (R135). -/
theorem State.noneNeeded_afterChange {s : State} {c : Image} {id : ProbeId} {r : ProbeRecord} (config : s.config = some c)
    (mounted : s.mounted = .resolved id) (probe : s.probe id = some r) :
    (s.noneNeeded id).afterChange =
      if c.autoQualify && !s.arm.shadow && r.qual != .qualified then (s.noneNeeded id).pushOut .qualify none false
      else (s.noneNeeded id).setTodo .beginReturn := by
  have record : (s.noneNeeded id).mountedRecord = some r := by
    simpa [State.mountedRecord, State.probe, mounted, Mounted.id] using probe
  have may : (s.noneNeeded id).mayAutoQualify = (c.autoQualify && !s.arm.shadow) := by
    simp [State.mayAutoQualify, show (s.noneNeeded id).config = some c by simpa [State.config] using config]
  simp only [State.afterChange, record, may]

theorem State.pushOut_of_room {s : State} (kind : ExcursionKind) (need : Option ZoneSet) (serves : Bool)
    (stack : s.run.stack.length < 3) :
    s.pushOut kind need serves =
      { s with
        run := { s.run with stack :=
          { kind := kind, position := s.positions, standing := s.arm.standing, need := need, serves := serves } ::
            s.run.stack }
        arm := { s.arm with todo := some .moveOut, itemsHeld := false } } := by
  simp [State.pushOut, State.push, State.setTodo, show ¬ 3 ≤ s.run.stack.length by omega]

/-- A QUALIFY that is pushed waits for what is missing of the sphere corridor (R137). -/
theorem State.pushOut_qualify_advance {s : State} {c : Image} (config : s.config = some c) (due : s.detachDue = none)
    (still : s.arm.st = .still) (idle : s.run.st = .none) (stack : s.run.stack.length < 3) (attached : s.join.st = .attached)
    (claim : s.agent.current = none) (room : s.line.m1.length < 8)
    (missing : s.missing (zoneItems c.sphereCorridor ||| zoneItems s.keep) ≠ 0) :
    ∃ t, (s.pushOut .qualify none false).advance = some t ∧ t.advance = none ∧ t.detachDue = none ∧ t.arm.st = .claiming ∧
      t.run.stack = s.returnRecord .qualify :: s.run.stack ∧ t.chg.change = s.chg.change ∧
      t.agent.current.map (fun k => (k.requester, k.items)) =
        some (.excursion, s.missing (zoneItems c.sphereCorridor ||| zoneItems s.keep)) ∧
      t.line.m1 = s.line.m1 ++ [.claim (s.missing (zoneItems c.sphereCorridor ||| zoneItems s.keep)) s.agent.formed] := by
  generalize pushed_eq : s.pushOut .qualify none false = pushed
  rw [State.pushOut_of_room _ _ _ stack] at pushed_eq
  have config' : pushed.config = some c := by simpa [← pushed_eq, State.config] using config
  have same : pushed.missing (zoneItems c.sphereCorridor ||| zoneItems pushed.keep) =
      s.missing (zoneItems c.sphereCorridor ||| zoneItems s.keep) := by
    rw [← pushed_eq]
    rfl
  have asks : pushed.asks .moveOut = some (.excursion, zoneItems c.sphereCorridor) := by
    simp [State.asks, State.topCorridor, config', State.top]
    simp [← pushed_eq, corridorOf]
  have goes := State.advance_todo (s := pushed) (t := .moveOut) (by simpa [← pushed_eq] using due)
    (by simpa [← pushed_eq] using still) (by simp [← pushed_eq]) (.inl (by simp [← pushed_eq, idle]))
  rw [State.begin_of_missing (by simp [← pushed_eq]) asks (by simpa [← pushed_eq] using attached)
    (by simpa [← pushed_eq] using claim) (by simpa [← pushed_eq] using room) (by rwa [same])] at goes
  refine ⟨_, goes, State.claiming_advance _ _ _, ?_, ?_⟩
  · simpa [← pushed_eq] using due
  · simp [same]
    simp [← pushed_eq, State.returnRecord]

/-! ## CHANGE and QUALIFY as commands -/

theorem Table.slotFree_iff {tbl : Table} {n : Nat} : tbl.slotFree n = true ↔ tbl.contents n = .empty ∧ tbl.holder (16 + n) = .free := by
  simp [Table.slotFree]

/-- The drop slot is the home slot, where that is free and EMPTY, and otherwise the lowest such slot (R123). -/
theorem Table.dropSlot_eq_some {tbl : Table} {home : Option (Fin 8)} {n : Fin 8} (fits : tbl.slotFree n.val = true)
    (chosen : home = some n ∨ (∀ k, home = some k → tbl.slotFree k.val = false) ∧ ∀ k < n, tbl.slotFree k.val = false) :
    tbl.dropSlot home = some n := by
  obtain home | ⟨away, lowest⟩ := chosen
  · simp [Table.dropSlot, home, fits]
  · have found := lowestSlot_eq_some (p := tbl.slotFree) fits lowest
    cases home with
    | none => exact found
    | some k => simpa [Table.dropSlot, away k rfl] using found

theorem Table.dropSlot_eq_none {tbl : Table} (home : Option (Fin 8)) (none : ∀ n : Fin 8, tbl.slotFree n.val = false) :
    tbl.dropSlot home = Option.none := by
  cases home with
  | none => exact lowestSlot_eq_none none
  | some k => simpa [Table.dropSlot, none k] using lowestSlot_eq_none none

theorem State.mayExcurse_iff {s : State} (attached : s.join.st = .attached) :
    s.mayExcurse = true ↔ s.run.st = .none ∧ s.arm.st = .still ∧ s.run.stack = [] := by
  simp [State.mayExcurse, attached, and_assoc]

section
variable {s : State} {c : Image} {tbl : Table} {id : ProbeId} (config : s.config = some c) (table : s.table = some tbl)
  (due : s.detachDue = none) (still : s.arm.st = .still) (idle : s.run.st = .none) (stack : s.run.stack = [])
  (read : s.head.idRead = none) (attached : s.join.st = .attached) (claim : s.agent.current = none)
  (room : s.line.m1.length < 8)
include due still idle stack read claim room

include config attached in
/-- A CHANGE whose slots are chosen ends its command CLAIMING (R124). -/
theorem State.pushChange_claims {pick : Fin 8} {drop : Option (Fin 8)}
    (chosen : (s.changing id).chooseSlots (ChangeRecord.new s.chg.begun id true) = (s.changing id).claimSlots pick drop)
    (missing : s.missing (zoneItems c.rackCorridor ||| slotItem pick ||| slotItems drop ||| zoneItems s.keep) ≠ 0) :
    let t := (s.pushChange id false).finish
    t.arm.st = .claiming ∧ t.run.stack = [s.returnRecord .change] ∧
    t.chg.change.map (fun r => (r.step, r.target, r.pick, r.drop)) = some (.claim, id, some pick, drop) ∧
    t.agent.current.map (fun k => (k.requester, k.items)) =
      some (.change, s.missing (zoneItems c.rackCorridor ||| slotItem pick ||| slotItems drop ||| zoneItems s.keep)) ∧
    t.line.m1 = s.line.m1 ++
      [.claim (s.missing (zoneItems c.rackCorridor ||| slotItem pick ||| slotItems drop ||| zoneItems s.keep)) s.agent.formed] := by
  have finishes := State.finish_of_settle (State.settle_of_advances
    ((State.pushChange_advance id due still idle stack read).trans (congrArg some chosen))
    (State.claimSlots_advance id pick drop config due still idle attached claim room missing) (State.claiming_advance _ _ _))
    (by simpa [State.claimSlots, State.updateChange, State.changing] using due)
  rw [finishes]
  have same (items : ItemSet) : ((s.changing id).claimSlots pick drop).missing items = s.missing items := rfl
  refine ⟨?_, ?_, ?_, ?_, ?_⟩
  · simp
  · simp [State.claimSlots, State.updateChange, State.changing]
  · simp [State.claimSlots, State.updateChange, State.changing, ChangeRecord.new]
  · simp [same]
  · simp only [State.claiming_leaves, same]
    rfl

/-- A CHANGE that finds no slot ends its command with the fault (R123). -/
theorem State.pushChange_noSlot {detail : Nat}
    (chosen : (s.changing id).chooseSlots (ChangeRecord.new s.chg.begun id true) =
      (s.changing id).faultStill (report .noSlot detail 0)) :
    let t := (s.pushChange id false).finish
    t.lastFault = some .noSlot ∧ t.run.stack = [] ∧ t.chg.change = none ∧
    (s.events.mask.getLsbD 0 = true → s.events.slots.length = 12 → ∃ slot, t.events.slots[0]? = some slot ∧
      slot.pending = some (.fault (report .noSlot detail 0) s.positions)) := by
  obtain ⟨stops, due', fault, rest⟩ := State.changing_noSlot id detail due claim room idle
  have finishes := State.finish_of_settle (State.settle_of_advance
    ((State.pushChange_advance id due still idle stack read).trans (congrArg some chosen)) stops) due'
  rw [finishes]
  exact ⟨fault, rest⟩

omit claim in
include config in
/-- A CHANGE for the probe that is mounted, with nothing to qualify, ends NONE_NEEDED at once (R123, R138). -/
theorem State.pushChange_noneNeeded (mounted : s.mounted = .resolved id) {r : ProbeRecord} (probe : s.probe id = some r)
    (parked : s.chg.parked = false) (qualified : (c.autoQualify && !s.arm.shadow && r.qual != .qualified) = false) :
    let t := (s.pushChange id false).finish
    t.run.stack = [] ∧ t.chg.change = none ∧ t.arm.st = (if s.arm.energized then .still else .off) ∧
    t.arm.standing = s.arm.standing ∧ t.axes = s.axes ∧ t.events = (s.noneNeeded id).events := by
  obtain ⟨t, returns, stops, due', shows⟩ := State.noneNeeded_returns id config due still idle parked room
  have chooses : (s.pushChange id false).advance = some ((s.noneNeeded id).setTodo .beginReturn) := by
    rw [State.pushChange_advance id due still idle stack read, State.chooseSlots_mounted mounted,
      State.noneNeeded_afterChange config mounted probe, qualified]
    rfl
  rw [State.finish_of_settle (State.settle_of_advances chooses returns stops) due']
  exact shows

include config attached in
/-- A CHANGE for the probe that is mounted and not qualified goes on as its qualification (R135). -/
theorem State.pushChange_qualifies (mounted : s.mounted = .resolved id) {r : ProbeRecord} (probe : s.probe id = some r)
    (unqualified : (c.autoQualify && !s.arm.shadow && r.qual != .qualified) = true)
    (missing : s.missing (zoneItems c.sphereCorridor ||| zoneItems s.keep) ≠ 0) :
    let t := (s.pushChange id false).finish
    t.arm.st = .claiming ∧ t.chg.change = none ∧ t.run.stack.map (·.kind) = [.qualify, .change] := by
  have same : (s.noneNeeded id).missing (zoneItems c.sphereCorridor ||| zoneItems (s.noneNeeded id).keep) =
      s.missing (zoneItems c.sphereCorridor ||| zoneItems s.keep) := by
    simp [State.missing, State.held, State.releasing, State.keep, State.me]
  obtain ⟨t, claims, stops, due', st, records, change, -⟩ := State.pushOut_qualify_advance (s := s.noneNeeded id) (c := c)
    (by simpa [State.config] using config) (by simpa using due) (by simpa using still) (by simpa using idle) (by simp)
    (by simpa using attached) (by simpa using claim) (by simpa using room) (by rwa [same])
  have chooses : (s.pushChange id false).advance = some ((s.noneNeeded id).pushOut .qualify none false) := by
    rw [State.pushChange_advance id due still idle stack read, State.chooseSlots_mounted mounted,
      State.noneNeeded_afterChange config mounted probe, unqualified]
    rfl
  rw [State.finish_of_settle (State.settle_of_advances chooses claims stops) due']
  exact ⟨st, by simpa using change, by simp [records, State.returnRecord]⟩

end

theorem wordAt_bytesOf (id : ProbeId) : wordAt (bytesOf 2 id.toNat) 0 = id := by
  have word : 256 * (id.toNat / 256 % 256) + id.toNat % 256 = id.toNat := by omega
  simp [wordAt, fieldAt, bytesOf, bigEndian, word]

/-- Settles O25. -/
theorem standAloneExcursionsBeginWithTheirClaims : Obligations.StandAloneExcursionsBeginWithTheirClaims := by
  unfold Obligations.StandAloneExcursionsBeginWithTheirClaims
  intro sender id c tbl s listens config table h change free fits home drops claims noSlot
  have attached := State.attached_of_listensTo listens
  have changes {r : Result} {u : State} (own : h.takeChange id = answer r u) :
      exec change s = .next (u.reply sender 0x27 r []) := by
    refine congrArg Host.Outcome.next (State.command_answer 0x27 false listens ?_)
    rw [wordAt_bytesOf]
    exact own
  have qualifies {r : Result} {u : State} (own : h.takeQualify = answer r u) :
      exec (.qualify sender []) s = .next (u.reply sender 0x28 r []) :=
    congrArg Host.Outcome.next (State.command_answer 0x28 false listens own)
  have attached' : h.join.st = .attached := by simpa [h] using attached
  have may : h.mayExcurse = true ↔ free := by
    rw [State.mayExcurse_iff attached']
    simp [h, free]
  have config' : h.config = some c := by simpa [State.config, h] using config
  have table' : h.table = some tbl := by simpa [h] using table
  have due' (due : s.detachDue = none) : h.detachDue = none := by simpa [h] using due
  have claim' (claim : s.agent.current = none) : h.agent.current = none := by simpa [h] using claim
  have room' (room : s.line.m1.length < 8) : h.line.m1.length < 8 := by simpa [h] using room
  have read' (read : s.head.idRead = none) : h.head.idRead = none := by simpa [h] using read
  have free' (isFree : free) : h.run.st = .none ∧ h.arm.st = .still ∧ h.run.stack = [] := by simpa [h] using isFree
  have begins (isFree : free) (known : s.probe id ≠ none) :
      exec change s = .next ((h.pushChange id false).finish.reply sender 0x27 .ok []) :=
    changes (by simp [State.takeChange, may.mpr isFree, known, h])
  have unslotted (isFree : free) (known : s.probe id ≠ none) (due : s.detachDue = none) (read : s.head.idRead = none)
      (claim : s.agent.current = none) (room : s.line.m1.length < 8) {detail : Byte}
      (chosen : (h.changing id).chooseSlots (ChangeRecord.new h.chg.begun id true) =
        (h.changing id).faultStill (report .noSlot detail.toNat 0)) : noSlot detail := by
    obtain ⟨idle, still, stack⟩ := free' isFree
    obtain ⟨fault, records, change, slot⟩ := State.pushChange_noSlot (due' due) still idle stack (read' read) (claim' claim)
      (room' room) chosen
    refine ⟨_, begins isFree known, fault, records, change, fun mask length => ?_⟩
    obtain ⟨slot, place, pending⟩ := slot (by simpa [h] using mask) (by simpa [h] using length)
    exact ⟨slot, place, by simpa [h, report, State.positions] using pending⟩
  refine ⟨fun busy => ?_, fun isFree unknown => ?_, fun isFree known due read claim room => ⟨fun other => ⟨fun pick picks => ?_,
    fun unpicked => ?_⟩, fun mounted => ⟨fun enough parked => ?_, fun r auto real probe unqualified missing => ?_⟩⟩,
    ?_⟩
  · have not : h.mayExcurse = false := Bool.eq_false_iff.mpr (mt may.mp busy)
    exact ⟨changes (by simp [State.takeChange, not]), qualifies (by simp [State.takeQualify, not])⟩
  · exact changes (by simp [State.takeChange, may.mpr isFree, unknown, h])
  · obtain ⟨idle, still, stack⟩ := free' isFree
    have claimed (drop : Option (Fin 8)) (lacks : s.missing (zoneItems c.rackCorridor ||| slotItem pick ||| slotItems drop |||
        zoneItems s.keep) ≠ 0) (chosen : (h.changing id).chooseSlots (ChangeRecord.new h.chg.begun id true) =
          (h.changing id).claimSlots pick drop) :=
      have lacks' : h.missing (zoneItems c.rackCorridor ||| slotItem pick ||| slotItems drop ||| zoneItems h.keep) ≠ 0 := by
        simpa [h] using lacks
      State.pushChange_claims config' (due' due) still idle stack (read' read) attached' (claim' claim) (room' room) chosen lacks'
    have other' : h.mounted ≠ .resolved id := by simpa [h] using other
    have picked := State.chooseSlots_pick table' other'
    simp only [picks] at picked
    have settles (drop : Option (Fin 8)) (chosen : (h.changing id).chooseSlots (ChangeRecord.new h.chg.begun id true) =
        (h.changing id).claimSlots pick drop) : claims pick drop := by
      dsimp only [claims]
      intro lacks
      obtain ⟨st, records, change, current, m1⟩ := claimed drop lacks chosen
      refine ⟨_, begins isFree known, st, ?_, change, ?_, ?_⟩
      · simp [records, State.returnRecord, h, State.positions]
      · simpa [h] using current
      · simpa [h] using m1
    have unfit {k : Fin 8} (taken : ¬ fits k) : tbl.slotFree k.val = false :=
      Bool.eq_false_iff.mpr (mt Table.slotFree_iff.mp taken)
    have home' : h.mountedRecord.bind (·.homeSlot) = home := by simp [h, home]
    refine ⟨fun empty => settles none ?_, fun full => ⟨fun drop ⟨dropFits, lowest⟩ => settles (some drop) ?_, fun noneFits => ?_⟩⟩
    · rw [picked]
      simp [h, empty]
    · have dropSlot : tbl.dropSlot home = some drop :=
        Table.dropSlot_eq_some (Table.slotFree_iff.mpr dropFits)
          (lowest.imp_right fun ⟨away, below⟩ => ⟨fun k is => unfit (away k is), fun k lt => unfit (below k lt)⟩)
      rw [picked, home', dropSlot]
      simp [h, full]
    · rw [home', Table.dropSlot_eq_none home (fun k => unfit (noneFits k)), if_neg (by simpa [h] using full)] at picked
      exact unslotted isFree known due read claim room picked
  · refine unslotted isFree known due read claim room ?_
    have picked := State.chooseSlots_pick table' (id := id) (by simpa [h] using other)
    rwa [unpicked] at picked
  · obtain ⟨idle, still, stack⟩ := free' isFree
    obtain ⟨r, probe⟩ := Option.ne_none_iff_exists'.mp known
    have mounted' : h.mounted = .resolved id := by simpa [h] using mounted
    have settled : (c.autoQualify && !h.arm.shadow && r.qual != .qualified) = false := by
      obtain manual | shadow | ⟨r', probe', qualified⟩ := enough
      · simp [manual]
      · simp [h, shadow]
      · obtain rfl := Option.some.inj (probe.symm.trans probe')
        simp [qualified]
    obtain ⟨records, change, st, standing, axes, events⟩ := State.pushChange_noneNeeded config' (due' due) still idle stack
      (read' read) (room' room) mounted' (by simpa [h] using probe) (by simpa [h] using parked) settled
    refine ⟨_, begins isFree known, records, change, by simpa [h] using st, by simpa [h] using standing, by simpa [h] using axes,
      fun mask length => ?_⟩
    rw [events]
    exact State.noneNeeded_slot mounted' (by simpa [h] using mask) (by simpa [h] using length)
  · obtain ⟨idle, still, stack⟩ := free' isFree
    obtain ⟨st, change, records⟩ := State.pushChange_qualifies config' (due' due) still idle stack (read' read) attached'
      (claim' claim) (room' room) (by simpa [h] using mounted) (r := r) (by simpa [h] using probe)
      (by simp [auto, h, real, unqualified]) (by simpa [h] using missing)
    exact ⟨_, begins isFree known, st, change, records⟩
  · intro isFree due claim room missing lacks
    obtain ⟨idle, still, stack⟩ := free' isFree
    obtain ⟨t, claimed, stops, dueT, st, records, -, current, m1⟩ := State.pushOut_qualify_advance config' (due' due) still idle
      (by simp [stack]) attached' (claim' claim) (room' room) (by simpa [h] using lacks)
    refine ⟨t, ?_, st, ?_, by simpa [h] using current, by simpa [h] using m1⟩
    · rw [← State.finish_of_advance claimed stops dueT]
      exact qualifies (by simp [State.takeQualify, may.mpr isFree])
    · rw [records, stack]
      simp [State.returnRecord, h, State.positions]

end Sys2Proof.Machine
end

section
/-! PROOF. The share table's content: applications commute with it, snapshots carry it (R62, R84, R87). -/

namespace Sys2Proof.Machine

open Sys2Proof

/-! ## Content -/

/-- A list entry without the clock value noted beside it. -/
def bare (e : ClaimEntry) : ClaimEntry := { e with noted := 0 }

theorem Table.content_eq (t : Table) : t.content = { t with claims := t.claims.map bare, answering := none } := rfl

@[simp] theorem bare_station (e : ClaimEntry) : (bare e).station = e.station ∧ (bare e).items = e.items := ⟨rfl, rfl⟩

@[simp] theorem Table.content_leaves (t : Table) :
    t.content.seq = t.seq ∧ t.content.roster = t.roster ∧ t.content.holders = t.holders ∧ t.content.slots = t.slots ∧
    t.content.claims = t.claims.map bare ∧ t.content.answering = none := ⟨rfl, rfl, rfl, rfl, rfl, rfl⟩

theorem Table.content_content (t : Table) : t.content.content = t.content := by
  simp [Table.content_eq, Function.comp_def, bare]

@[simp] theorem Table.content_entry (t : Table) (n : Station) : t.content.entry n = t.entry n := rfl

@[simp] theorem Table.content_heldBy (t : Table) (n : Station) : t.content.heldBy n = t.heldBy n := rfl

theorem Table.content_claim (p : Station) (items : ItemSet) (now : Clock) (t : Table) :
    (t.claim p items now).content = t.content.claim p items 0 := by
  have named : t.content.claims.any (fun e => e.station == p) = t.claims.any (fun e => e.station == p) := by
    simp [List.any_map, Function.comp_def]
  have count : t.content.claims.length = t.claims.length := by simp
  unfold Table.claim
  rw [named, count, Table.content_entry, Table.content_heldBy]
  split
  · rfl
  · split
    · simp only [Table.content_eq, List.map_map]
      congr 1
      refine List.map_congr_left fun e _ => ?_
      by_cases own : e.station = p <;> simp [bare, own]
    · split
      · rfl
      · split
        · simp [Table.content_eq, bare]
        · rfl

theorem Table.content_change (p : Station) (f : ShareFrame) (now : Clock) (t : Table) :
    (t.change p f now).content = t.content.change p f 0 := by
  cases f with
  | claim items => exact t.content_claim p items now
  | withdraw => simp [Table.change, Table.withdraw, Table.content_eq, List.filter_map, Function.comp_def]
  | lost stations => rfl
  | join fields => rfl
  | attach =>
    simp only [Table.change, Table.attach, Table.content_entry]
    exact apply_ite Table.content _ _ _
  | leave =>
    simp only [Table.change, Table.leave, Table.content_entry]
    exact apply_ite Table.content _ _ _
  | release items => rfl
  | clear item =>
    simp only [Table.change, Table.clear, Table.isPlanner, Table.content_entry]
    exact apply_ite Table.content _ _ _
  | slotSet slot code =>
    simp only [Table.change, Table.slotSet, Table.isPlanner, Table.content_entry]
    exact apply_ite Table.content _ _ _
  | slotSense presences =>
    simp only [Table.change, Table.slotSense, Table.content_entry]
    exact apply_ite Table.content _ _ _

theorem Table.content_dropLeavers (before t : Table) : (t.dropLeavers before).content = t.content.dropLeavers before.content := by
  simp only [Table.dropLeavers, Table.content_eq, List.filter_map]
  rfl

theorem Table.content_grantable (before : List ClaimEntry) (e : ClaimEntry) (t : Table) :
    t.content.grantable (before.map bare) (bare e) = t.grantable before e := by
  have items : claimedItems (before.map bare) = claimedItems before := by
    induction before with
    | nil => rfl
    | cons a l ih => simp [claimedItems, ih]
  simp only [Table.grantable, items]
  rfl

theorem Table.content_walk (rest kept : List ClaimEntry) (t : Table) :
    (Table.walk kept rest t).1.content = (Table.walk (kept.map bare) (rest.map bare) t.content).1 := by
  induction rest generalizing kept t with
  | nil => rfl
  | cons e rest ih =>
    simp only [Table.walk, List.map_cons, Table.content_grantable]
    split
    · exact ih kept (t.grant e)
    · simpa using ih (kept ++ [e]) t

theorem Table.content_serve (p : Station) (f : ShareFrame) (t : Table) : (t.serve p f).1.content = t.content := by
  obtain ⟨seq, roster, holders, slots, claims⟩ := t.serve_frame p f
  simp only [Table.content_eq, seq, roster, holders, slots, claims]

/-- An application depends on the contents alone: it commutes with leaving the clock values and the answering station out. -/
theorem Table.content_apply (p : Station) (f : ShareFrame) (now : Clock) (t : Table) :
    (t.apply p f now).table.content = (t.content.apply p f 0).table.content := by
  have changed (u : Table) (now : Clock) : ((({ u with seq := u.seq + 1 } : Table).change p f now).dropLeavers u).content =
      (({ u.content with seq := u.seq + 1 } : Table).change p f 0).dropLeavers u.content := by
    rw [Table.content_dropLeavers, Table.content_change]
    rfl
  simp only [Table.apply, Table.content_serve, Table.grantWalk, Table.content_walk]
  have claims (u : Table) : u.claims.map bare = u.content.claims := rfl
  rw [claims, claims, changed t now, changed t.content 0, Table.content_content]
  rfl

/-- Settles O48. -/
theorem applicationIsTheSameAtEveryStation : Obligations.ApplicationIsTheSameAtEveryStation := by
  unfold Obligations.ApplicationIsTheSameAtEveryStation
  intro t u p f now then_ same
  rw [Table.content_apply, same, ← Table.content_apply]

/-! ## Snapshots -/

/-- The parts of an image are all kept, in their order. -/
theorem Table.image_collected (t : Table) (cause : CaptureCause) : (t.image cause).foldl collectPart [] = t.image cause := by
  simp [Table.image, collectPart, SnapshotPart.number, List.filter_cons]

/-- Settles O49. -/
theorem snapshotCarriesTheTable : Obligations.SnapshotCarriesTheTable := by
  unfold Obligations.SnapshotCarriesTheTable
  intro t cause now ⟨_, holders, _⟩
  have whole : t.holders.take 8 ++ (t.holders.drop 8).take 8 ++ t.holders.drop 16 = t.holders := by
    rw [List.append_assoc, ← List.drop_drop (i := 8) (j := 8), List.take_append_drop, List.take_append_drop]
  rw [Table.image_collected]
  simp only [tableOfParts, partNumbered, Table.image, SnapshotPart.number, List.find?]
  refine ⟨_, rfl, ?_, ?_, rfl⟩
  · simp [Table.content, whole, Function.comp_def]
  · simp

end Sys2Proof.Machine
end

section
/-! PROOF. THERMAL frames and the peer table (R153, R154). -/

namespace Sys2Proof.Machine

open Sys2Proof

@[simp] theorem PeerEntry.take_names (now : Clock) (cadence : BitVec 16) (state : Nat) (v : Temp) (e : PeerEntry) :
    (e.take now cadence state v).station = e.station ∧ (e.take now cadence state v).channel = e.channel := by
  unfold PeerEntry.take
  dsimp only
  (repeat' split) <;> exact ⟨rfl, rfl⟩

/-- The peer table after one carried channel with a state code (R154). -/
def takeOne (now : Clock) (p : Station) (cadence : BitVec 16) (x : Nat × Nat × Temp) (peers : List PeerEntry) : List PeerEntry :=
  if x.2.1 ≤ 2 then peers.map (fun e =>
    if e.station.toNat == p.val && e.channel.toNat == x.1 then e.take now cadence x.2.1 x.2.2 else e)
  else peers

theorem takeChannels_cons (now : Clock) (p : Station) (cadence : BitVec 16) (a hi lo : Byte) (rest : List Byte)
    (peers : List PeerEntry) :
    takeChannels now p cadence (a :: hi :: lo :: rest) peers =
      takeChannels now p cadence rest (takeOne now p cadence (a.toNat / 16, a.toNat % 16, wordAt [hi, lo] 0) peers) := by
  rfl

@[simp] theorem takeOne_length (now : Clock) (p : Station) (cadence : BitVec 16) (x : Nat × Nat × Temp) (peers : List PeerEntry) :
    (takeOne now p cadence x peers).length = peers.length := by
  unfold takeOne
  split <;> simp

@[simp] theorem takeChannels_length (now : Clock) (p : Station) (cadence : BitVec 16) (bytes : List Byte) (peers : List PeerEntry) :
    (takeChannels now p cadence bytes peers).length = peers.length := by
  fun_induction takeChannels now p cadence bytes peers with
  | case1 a hi lo rest peers state v taken ih => exact ih.trans (takeOne_length now p cadence (_, _, v) peers)
  | case2 => rfl

/-- Entries of one length each make a text of their count times it. -/
theorem length_flatMap_of_const {α β : Type} {f : α → List β} {k : Nat} (same : ∀ a, (f a).length = k) (l : List α) :
    (l.flatMap f).length = k * l.length := by
  induction l with
  | nil => rfl
  | cons a l ih => rw [List.flatMap_cons, List.length_append, ih, same, List.length_cons, Nat.mul_succ, Nat.add_comm]

/-- A channel that is not an entry's own, or comes without a state code, leaves the entry (R154). -/
theorem takeOne_leaves {now : Clock} {p : Station} {cadence : BitVec 16} {x : Nat × Nat × Temp} {peers : List PeerEntry} {n : Nat}
    {e : PeerEntry} (entry : peers[n]? = some e) (other : e.station.toNat = p.val → x.1 = e.channel.toNat → 2 < x.2.1) :
    (takeOne now p cadence x peers)[n]? = some e := by
  unfold takeOne
  split
  next code =>
    have skipped : (e.station.toNat == p.val && e.channel.toNat == x.1) = false := by
      refine Bool.eq_false_iff.mpr fun own => ?_
      simp only [Bool.and_eq_true, beq_iff_eq] at own
      obtain ⟨station, channel⟩ := own
      exact absurd (other station channel.symm) (by omega)
    simp only [List.getElem?_map, entry, Option.map_some, skipped]
    rfl
  · exact entry

theorem takeChannels_station {now : Clock} {p : Station} {cadence : BitVec 16} {bytes : List Byte} {peers : List PeerEntry} {n : Nat}
    {e : PeerEntry} (entry : peers[n]? = some e) (other : e.station.toNat ≠ p.val) :
    (takeChannels now p cadence bytes peers)[n]? = some e := by
  fun_induction takeChannels now p cadence bytes peers with
  | case1 a hi lo rest peers state v taken ih =>
    exact ih (takeOne_leaves (x := (_, _, v)) (cadence := cadence) entry (absurd · other))
  | case2 => exact entry

/-- A carried channel as its three bytes (R152). -/
def channelBytes (x : Nat × Nat × Temp) : List Byte := bytesOf 1 (16 * x.1 + x.2.1) ++ bytesOf 2 x.2.2.toNat

theorem channelBytes_eq (x : Nat × Nat × Temp) : channelBytes x =
    [BitVec.ofNat 8 (16 * x.1 + x.2.1), BitVec.ofNat 8 (x.2.2.toNat / 256), BitVec.ofNat 8 x.2.2.toNat] := rfl

/-- The channels of a payload are taken one after another (R154). -/
theorem takeChannels_carried (now : Clock) (p : Station) (cadence : BitVec 16) (carried : List (Nat × Nat × Temp))
    (peers : List PeerEntry) (codes : ∀ x ∈ carried, x.1 < 12 ∧ x.2.1 < 16) :
    takeChannels now p cadence (carried.flatMap channelBytes) peers =
      carried.foldl (fun peers x => takeOne now p cadence x peers) peers := by
  induction carried generalizing peers with
  | nil => rfl
  | cons x rest ih =>
    obtain ⟨channel, code⟩ := codes x List.mem_cons_self
    have byte : (BitVec.ofNat 8 (16 * x.1 + x.2.1)).toNat = 16 * x.1 + x.2.1 := by
      rw [BitVec.toNat_ofNat]
      omega
    have word : wordAt [BitVec.ofNat 8 (x.2.2.toNat / 256), BitVec.ofNat 8 x.2.2.toNat] 0 = x.2.2 := wordAt_bytesOf x.2.2
    have parts : ((16 * x.1 + x.2.1) / 16, (16 * x.1 + x.2.1) % 16, x.2.2) = x := by
      rw [show (16 * x.1 + x.2.1) / 16 = x.1 by omega, show (16 * x.1 + x.2.1) % 16 = x.2.1 by omega]
    rw [List.flatMap_cons, channelBytes_eq]
    refine (takeChannels_cons ..).trans ?_
    rw [byte, word, parts]
    exact ih _ fun y mem => codes y (List.mem_cons_of_mem _ mem)

theorem foldl_takeOne_leaves {now : Clock} {p : Station} {cadence : BitVec 16} {carried : List (Nat × Nat × Temp)}
    {peers : List PeerEntry} {n : Nat} {e : PeerEntry} (entry : peers[n]? = some e)
    (others : ∀ x ∈ carried, x.1 = e.channel.toNat → 2 < x.2.1) :
    (carried.foldl (fun peers x => takeOne now p cadence x peers) peers)[n]? = some e := by
  induction carried generalizing peers with
  | nil => exact entry
  | cons x rest ih =>
    exact ih (takeOne_leaves entry fun _ => others x List.mem_cons_self) fun y mem => others y (List.mem_cons_of_mem _ mem)

/-- An entry's own channel is taken (R154). -/
theorem takeOne_takes {now : Clock} {p : Station} {cadence : BitVec 16} {state : Nat} {v : Temp} {peers : List PeerEntry} {n : Nat}
    {e : PeerEntry} (entry : peers[n]? = some e) (own : e.station.toNat = p.val) (code : state < 3) :
    (takeOne now p cadence (e.channel.toNat, state, v) peers)[n]? = some (e.take now cadence state v) := by
  simp [takeOne, entry, own, show state ≤ 2 by omega]

/-- What an entry has after it was taken (R154). -/
theorem PeerEntry.take_shows (now : Clock) (cadence : BitVec 16) {state : Nat} (v : Temp) (e : PeerEntry) (code : state < 3) :
    let t := e.take now cadence state v
    t.updated = some now ∧ t.cadence = some cadence ∧
    t.st = (if state = 0 then .fresh else if state = 1 then .subst else .unavailable) ∧
    t.value = (if state = 2 then e.value else some v) := by
  have cadenced (e : PeerEntry) : ∃ history rate, (if e.cadence == some cadence then e else
      { e with cadence := some cadence, history := [], rate := none }) =
        { e with cadence := some cadence, history := history, rate := rate } := by
    split
    next same => exact ⟨e.history, e.rate, by rw [← (by simpa using same : e.cadence = some cadence)]⟩
    · exact ⟨[], none, rfl⟩
  obtain ⟨history, rate, taken⟩ := cadenced { e with updated := some now }
  simp only [PeerEntry.take, taken]
  obtain rfl | rfl | rfl : state = 0 ∨ state = 1 ∨ state = 2 := by omega
  · cases st : e.st <;> simp
  · cases st : e.st <;> simp
  · simp

theorem State.heard_thermal (p : Station) (w : Bool) (s : State) : ({ s.heard p w with thermal := s.thermal } : State) = s.heard p w := by
  unfold State.heard
  split <;> rfl

theorem fieldAt_bytesOf {n : Nat} (rest : List Byte) (lt : n < 65536) : fieldAt (bytesOf 2 n ++ rest) 0 2 = n := by
  have word : 256 * (n / 256 % 256) + n % 256 = n := by omega
  simp [fieldAt, bytesOf, bigEndian, word]

/-- Settles O51. -/
theorem thermalUpdatesTheWatchedEntries : Obligations.ThermalUpdatesTheWatchedEntries := by
  unfold Obligations.ThermalUpdatesTheWatchedEntries
  intro p payload s receives h
  have taken (tbl : Table) (table : s.table = some tbl) (inCell : (tbl.entry p).state.inCell = true) :
      exec (.thermal p payload) s =
        .next { h with thermal := { s.thermal with peers := takeThermal s.clock p payload s.thermal.peers } } := by
    simp [exec, execThermal, receives, table, inCell, h]
  refine ⟨fun outside => ?_, fun misformed => ?_, fun tbl table inCell => ⟨_, taken tbl table inCell, ?_, fun n e entry other => ?_,
    fun cadence carried low high codes bytes n e entry own => ?_⟩⟩
  · cases table : s.table with
    | none => simp [exec, execThermal, receives, table, h]
    | some tbl => simp [exec, execThermal, receives, table, outside tbl table, h]
  · have same : takeThermal s.clock p payload s.thermal.peers = s.thermal.peers := by
      have form : ¬ (2 ≤ payload.length && (payload.length - 2) % 3 == 0 && within 100 10000 (fieldAt payload 0 2)) = true := by
        simp [within]
        omega
      simp only [takeThermal, if_neg form]
    cases table : s.table with
    | none => simp [exec, execThermal, receives, table, h]
    | some tbl =>
      cases inCell : (tbl.entry p).state.inCell with
      | false => simp [exec, execThermal, receives, table, inCell, h]
      | true =>
        rw [taken tbl table inCell, same]
        exact congrArg Host.Outcome.next (State.heard_thermal p true s)
  · unfold takeThermal
    split <;> simp
  · unfold takeThermal
    split
    · exact takeChannels_station entry other
    · exact entry
  · have form : within 100 10000 (fieldAt payload 0 2) = true ∧ wordAt payload 0 = cadence ∧
        payload.drop 2 = carried.flatMap channelBytes ∧ payload.length = 2 + 3 * carried.length := by
      subst bytes
      refine ⟨?_, ?_, rfl, ?_⟩
      · rw [fieldAt_bytesOf _ cadence.isLt]
        simp [within, low, high]
      · exact wordAt_bytesOf cadence
      · have entries : (carried.flatMap channelBytes).length = 3 * carried.length :=
          length_flatMap_of_const (f := channelBytes) (fun _ => rfl) carried
        exact List.length_append.trans (congrArg (2 + ·) entries)
    obtain ⟨limits, word, rest, length⟩ := form
    have carries : takeThermal s.clock p payload s.thermal.peers =
        carried.foldl (fun peers x => takeOne s.clock p cadence x peers) s.thermal.peers := by
      have shape : (2 ≤ payload.length && (payload.length - 2) % 3 == 0 && within 100 10000 (fieldAt payload 0 2)) = true := by
        simp [limits, length]
      rw [takeThermal, if_pos shape, word, rest, takeChannels_carried _ _ _ _ _ codes]
    rw [carries]
    refine ⟨fun none => foldl_takeOne_leaves entry none, fun before after state v split code first last => ?_⟩
    obtain ⟨updated, cadence', st, value⟩ := PeerEntry.take_shows s.clock cadence v e code
    refine ⟨e.take s.clock cadence state v, ?_, (e.take_names ..).1, (e.take_names ..).2, updated, cadence', st, value⟩
    rw [split, List.foldl_append, List.foldl_cons]
    exact foldl_takeOne_leaves (takeOne_takes (foldl_takeOne_leaves entry first) own code) (by simpa using last)

end Sys2Proof.Machine
end

section
/-! PROOF. Stops at their standstill (R22, R32, R33, R103). -/

namespace Sys2Proof.Machine

open Sys2Proof

/-- A path's end after `more` further, as a stop leaves it (R32). -/
def Motion.goneAfter (m : Motion) (target : Vec3 Lu) (more : Nat) : Nat :=
  if pathSquare m.startedAt target ≤ m.gone * m.gone then m.gone else m.gone + more

@[simp] theorem State.moveSetpoints_setpoints (v : Vec3 Lu) (s : State) : (s.moveSetpoints v).setpoints = v :=
  vec3_ext fun a => by simp [State.setpoints]

theorem State.moveAlong_target {m : Motion} {target : Vec3 Lu} (more : Nat) (s : State) (straight : ∀ a, m.act ≠ .seek a)
    (goal : m.target = some target) :
    s.moveAlong m more =
      let s' := s.moveSetpoints (placeOnPath m.startedAt target (m.goneAfter target more))
      { s' with arm := { s'.arm with motion := some { m with gone := m.goneAfter target more } } } := by
  unfold State.moveAlong
  split
  · exact absurd ‹m.act = _› (straight _)
  · simp_all [Motion.goneAfter]
  · simp_all

theorem State.moveAlong_still {m : Motion} (more : Nat) (s : State) (straight : ∀ a, m.act ≠ .seek a) (goal : m.target = none) :
    s.moveAlong m more = s := by
  unfold State.moveAlong
  split
  · exact absurd ‹m.act = _› (straight _)
  · simp_all
  · rfl

/-- The back-off of a contact at standstill is formed and started (R103). -/
theorem State.beginBackOff_moves {s : State} {c : Image} {m : Motion} (held : Bool) (config : s.config = some c)
    (motion : s.arm.motion = some m) {back : Vec3 Lu}
    (target : backOffTarget s.freeCount c.retract m.startedAt (m.target.getD m.startedAt) s.positions = back)
    (free : s.limitCheck back = none) :
    let u := s.beginBackOff held
    u.axes = s.axes ∧ u.run = s.run ∧ u.cap = s.cap ∧ u.arm.st = .moving ∧ u.arm.stopping = none ∧
    u.arm.motion.map (fun b => (b.act, b.origin, b.target, b.thenHeld)) = some (.backOff, .backOff, some back, held) := by
  have free' : ({ s with freeCount := s.freeCount + 1 } : State).standStill.limitCheck back = none := by
    simpa [State.limitCheck, State.config] using free
  simp only [State.beginBackOff, config, motion, target, State.startBackOff, free']
  simp [State.formMotion, straightMotion]

theorem State.endRun_slot_any {reason : RunEndReason} (b : Byte) {s : State} (running : s.run.st ≠ .none)
    (mask : s.events.mask.getLsbD 1 = true) (length : s.events.slots.length = 12) :
    ∃ slot, (s.endRun reason b).events.slots[1]? = some slot ∧ slot.pending =
      some (if (s.endRun reason b).detachDue = none then .runEnd reason b else .runEnd .detached 0) := by
  by_cases own : reason = .detached
  · have ended : s.endRun reason b =
        ((({ s.clearStarts with run := Run.cold } : State)).emit (s.runEndEvent reason b)).drainRing := by
      simp [State.endRun, running, own, State.runEndEvent]
    obtain ⟨slot, place, pending⟩ := State.emit_slot (s.runEndEvent reason b) ({ s.clearStarts with run := Run.cold } : State)
      (by simpa using mask) (by simpa using length)
    have event : s.runEndEvent reason b = if s.detachDue = none then .runEnd reason b else .runEnd .detached 0 := by
      cases due : s.detachDue <;> simp [State.runEndEvent, due]
    rw [State.runEndEvent_kind] at place
    rw [ended]
    exact ⟨slot, by simpa using place, by simpa [event] using pending⟩
  · exact State.endRun_slot b running own mask length

theorem State.heldAtStandstill_eq (held : Bool) (s : State) :
    s.heldAtStandstill held =
      { s with run := { s.run with st := if held = true ∧ s.run.st ≠ .none then .held else s.run.st } } := by
  by_cases holds : held = true ∧ s.run.st ≠ .none <;> simp [State.heldAtStandstill, holds]

/-- Settles O55. -/
theorem stopsEndAtTheirStandstill : Obligations.StopsEndAtTheirStandstill := by
  unfold Obligations.StopsEndAtTheirStandstill
  intro further st m s stopping motion straight rest
  generalize moved_eq : s.moveAlong m further.toNat = moved
  have ends : exec (.controlledStopEnd further) s = .next (moved.stopEnded st m).finish := by
    simp [exec, execControlledStopEnd, stopping, motion, moved_eq]
  have places : moved.setpoints = rest := by
    cases goal : m.target with
    | none => simp [← moved_eq, State.moveAlong_still _ _ straight goal, rest, goal]
    | some target =>
      rw [← moved_eq, State.moveAlong_target _ _ straight goal]
      simp only [rest, goal]
      exact State.moveSetpoints_setpoints _ s
  have same : moved.run = s.run ∧ moved.events = s.events ∧ moved.arm.energized = s.arm.energized := by
    simp [← moved_eq]
  obtain ⟨run, events, energized⟩ := same
  refine ⟨fun after => ⟨_, ends, ?_⟩, fun reason b after => ⟨_, ends, ?_⟩, fun after => ⟨_, ends, ?_⟩,
    fun c after fresh config target goal => ?_⟩
  · simp only [State.stopEnded, after]
    simp [State.heldAtStandstill_eq, ← places, ← run, State.setpoints]
  · simp only [State.stopEnded, after]
    refine ⟨by simp [← places, State.setpoints], by simp, by simp, by simp, fun running mask length => ?_⟩
    exact State.endRun_slot_any b (by simpa [run] using running) (by simpa [events] using mask) (by simpa [events] using length)
  · simp only [State.stopEnded, after]
    simp [State.heldAtStandstill_eq, ← places, ← run, State.setpoints, ← energized]
  · intro stood back free
    have formed : moved = { s.moveSetpoints rest with
        arm := { s.arm with motion := some { m with gone := m.goneAfter target further.toNat } } } := by
      rw [← moved_eq, State.moveAlong_target _ _ straight goal]
      simp only [rest, goal]
      rfl
    have axes : moved.axes = stood.axes := by
      rw [formed]
      rfl
    have free' : moved.limitCheck back = none := by
      simpa [State.limitCheck, State.config, formed, stood, State.moveSetpoints] using free
    have config' : moved.config = some c := by simpa [formed, State.config] using config
    obtain ⟨axes', -, -, st', stopping', motion'⟩ := State.beginBackOff_moves (m := { m with gone := m.goneAfter target further.toNat })
      st.afterBackOff config' (by simp [formed]) (back := back) (by simp [formed, back, goal, stood, State.positions, State.moveSetpoints]) free'
    refine ⟨_, ends, ?_⟩
    simp only [State.stopEnded, after, fresh]
    exact ⟨by simpa [State.setpoints, axes'] using places, stopping', st', motion'⟩

end Sys2Proof.Machine
end

section
/-! PROOF. The completion of a segment (R30, R31, R103, R104). -/

namespace Sys2Proof.Machine

open Sys2Proof

/-! ## Two RELEASEs queued one after the other -/

/-- A RELEASE that is queued behind another one which it covers leaves M1 as if it were queued alone (R53). -/
theorem State.releases_trans {a b : ItemSet} {s t v w : State} (covers : a ||| b = b) (first : s.releases a t)
    (second : v.releases b w) (m1 : v.line.m1 = t.line.m1) (online : v.m1OnLine = s.m1OnLine) (room : s.line.m1.length < 8)
    (behind : s.m1OnLine = true → s.line.m1 ≠ []) : s.releases b w := by
  obtain ⟨nothing, something⟩ := first
  by_cases a0 : a = 0
  · exact State.releases_congr second (by rw [m1, nothing a0]) online.symm rfl
  have b0 : b ≠ 0 := by
    rintro rfl
    exact a0 (by simpa using covers)
  obtain ⟨merged, appended⟩ := something a0
  obtain ⟨merges, -⟩ := second.2 b0
  have tail (front : List M1Entry) (waiting : ItemSet) (shape : v.line.m1 = front ++ [.release waiting])
      (free : front ≠ [] ∨ s.m1OnLine = false) : w.line.m1 = front ++ [.release (waiting ||| b)] :=
    merges front waiting ⟨shape, online ▸ free⟩
  refine ⟨fun none => absurd none b0, fun _ => ⟨fun front waiting shape => ?_, fun unmerged _ => ?_⟩⟩
  · rw [tail front (waiting ||| a) (by rw [m1, merged front waiting shape]) shape.2, BitVec.or_assoc, covers]
  · rw [tail s.line.m1 a (by rw [m1, appended unmerged room]) ?_, covers]
    by_cases online : s.m1OnLine = true
    · exact .inl (behind online)
    · exact .inr (by simpa using online)

/-- What is held outside a larger set of zones is held outside a smaller one too. -/
theorem State.heldOutside_covers (zones more : ZoneSet) (s : State) :
    s.heldOutside (zones ||| more) ||| s.heldOutside zones = s.heldOutside zones := by
  unfold State.heldOutside zoneItems
  ext i lt
  simp
  grind

/-! ## The completion -/

/-- What the completion of a segment leaves (R30): the standing set, no motion, the RELEASE, the run, SEG_DONE. -/
def State.completed (seg : Segment) (o : SegOutcome) (endSet : ZoneSet) (held : Bool) (s u : State) : Prop :=
  let rehearsed : ZoneSet := if s.arm.shadow then s.arm.phys else 0
  u.arm.standing = endSet ∧ u.arm.motion = none ∧ u.run.current = none ∧
  u.arm.st = (if s.arm.energized then .still else .off) ∧
  (seg.last = true → u.run = Run.cold ∧
    (s.agent.current = none → (s.m1OnLine = true → s.line.m1 ≠ []) → s.releases (s.heldOutside (endSet ||| rehearsed)) u)) ∧
  (seg.last = false → s.releases (s.heldOutside (endSet ||| rehearsed ||| s.headNeed)) u ∧ u.run.queue = s.run.queue ∧
    u.run.owner = s.run.owner ∧ u.run.st = (if held then .held else if s.run.queue = [] then .starved else .active)) ∧
  (s.events.mask.getLsbD 4 = true → s.events.slots.length = 12 →
    ∃ slot, u.events.slots[4]? = some slot ∧ slot.pending = some (.segDone seg.tag o))

/-- The state in which a segment has been completed, before its RELEASE and what becomes of the run. -/
def State.segmentEnded (endSet : ZoneSet) (s : State) : State :=
  let t := (s.arriveIn endSet).standStill
  { t with run := { t.run with current := none } }

theorem State.segmentEnded_leaves (endSet : ZoneSet) (s : State) :
    let t := s.segmentEnded endSet
    t.arm.standing = endSet ∧ t.arm.motion = none ∧ t.arm.st = (if s.arm.energized then .still else .off) ∧
    t.run = { s.run with current := none } ∧ t.line = s.line ∧ t.agent = s.agent ∧ t.events = s.events ∧
    t.detachDue = s.detachDue ∧ (∀ zones, t.heldOutside zones = s.heldOutside zones) ∧ t.headNeed = s.headNeed ∧
    t.keep = endSet ||| (if s.arm.shadow then s.arm.phys else 0) := by
  refine ⟨rfl, rfl, rfl, rfl, rfl, rfl, rfl, rfl, fun _ => rfl, rfl, ?_⟩
  cases shadow : s.arm.shadow <;> simp [State.segmentEnded, State.keep, shadow]

/-- The state with the RELEASE and the SEG_DONE of a completed segment. -/
def State.segmentDone (seg : Segment) (o : SegOutcome) (endSet : ZoneSet) (s : State) : State :=
  let t := s.segmentEnded endSet
  (t.releaseOutside (t.keep ||| t.headNeed)).emit (.segDone seg.tag o)

theorem State.segmentDone_leaves (seg : Segment) (o : SegOutcome) (endSet : ZoneSet) (s : State) :
    let t := s.segmentDone seg o endSet
    t.arm = (s.segmentEnded endSet).arm ∧ t.run = { s.run with current := none } ∧ t.agent = s.agent ∧
    t.m1OnLine = s.m1OnLine ∧ (∀ zones, t.heldOutside zones = s.heldOutside zones) ∧
    t.keep = endSet ||| (if s.arm.shadow then s.arm.phys else 0) ∧
    s.releases (s.heldOutside (endSet ||| (if s.arm.shadow then s.arm.phys else 0) ||| s.headNeed)) t ∧
    (s.events.mask.getLsbD 4 = true → s.events.slots.length = 12 →
      ∃ slot, t.events.slots[4]? = some slot ∧ slot.pending = some (.segDone seg.tag o)) := by
  obtain ⟨-, -, -, run, line, agent, events, -, outside, need, keep⟩ := s.segmentEnded_leaves endSet
  have arm : (s.segmentDone seg o endSet).arm = (s.segmentEnded endSet).arm := by simp [State.segmentDone]
  refine ⟨arm, by simp [State.segmentDone, run], by simp [State.segmentDone, agent], ?_, fun zones => ?_, ?_, ?_,
    fun mask length => ?_⟩
  · simp (maxDischargeDepth := 9) [State.m1OnLine, State.segmentDone, line]
  · rw [← outside zones]
    simp [State.heldOutside, State.held, State.segmentDone, State.me]
  · rw [← keep, State.keep, State.keep, arm]
  · have releases := State.releaseOutside_releases ((s.segmentEnded endSet).keep ||| (s.segmentEnded endSet).headNeed)
      (s.segmentEnded endSet)
    rw [outside, keep, need] at releases
    exact State.releases_congr releases (by rw [line]) (by simp [State.m1OnLine, line])
      (by simp [State.segmentDone, keep, need])
  · exact State.emit_slot (.segDone seg.tag o) _ (by simpa [events, Event.kind] using mask) (by simpa [events] using length)

theorem State.segmentDone_due (seg : Segment) (o : SegOutcome) (endSet : ZoneSet) {s : State} (due : s.detachDue = none)
    (room : s.line.m1.length < 8) : (s.segmentDone seg o endSet).detachDue = none := by
  obtain ⟨-, -, -, -, line, -, -, due', -⟩ := s.segmentEnded_leaves endSet
  have room' : (s.segmentEnded endSet).takesRelease := .inl (by rwa [line])
  have kept (items : ItemSet) := (State.queueRelease_fitsIn items room').1
  simp [State.segmentDone, State.releaseOutside, kept, due', due]

/-- What becomes of the run behind a completed segment (R30). -/
theorem State.completeSegment_eq {s : State} {seg : Segment} (o : SegOutcome) (endSet : ZoneSet) (held : Bool)
    (current : s.run.current = some seg) (due : s.detachDue = none) (room : s.line.m1.length < 8) :
    s.completeSegment o endSet held =
      let t := s.segmentDone seg o endSet
      if seg.last then t.endRun .lastDone 0
      else if held then { t with run := { t.run with st := .held } }
      else if t.run.queue.isEmpty then ({ t with run := { t.run with st := .starved } } : State).emit .starved
      else t := by
  have goesOn : ¬ (s.segmentDone seg o endSet).detachDue.isSome = true := by
    simp [State.segmentDone_due seg o endSet due room]
  unfold State.completeSegment
  simp only [current]
  exact if_neg goesOn

@[simp] theorem State.drainRing_m1 (s : State) : s.drainRing.line.m1 = s.line.m1 := by
  unfold State.drainRing State.decideReport
  split <;> rfl

/-- A run end without a claim queues the RELEASE of the zones held outside the zones kept (R22). -/
theorem State.endRun_releases {s : State} {reason : RunEndReason} (b : Byte) (running : s.run.st ≠ .none) (own : reason ≠ .detached)
    (claim : s.agent.current = none) : s.releases (s.heldOutside s.keep) (s.endRun reason b) := by
  let t := ({ s.clearStarts with run := Run.cold } : State)
  have ended : s.endRun reason b = ((t.releaseOutside t.keep).emit ((t.releaseOutside t.keep).runEndEvent reason b)).drainRing := by
    simp [State.endRun, running, own, State.dropClaim_of_none claim, t]
  have releases : t.releases (s.heldOutside s.keep) (t.releaseOutside t.keep) := State.releaseOutside_releases t.keep t
  exact State.releases_congr releases rfl rfl (by simp [ended])

theorem State.endRun_otherSlots (reason : RunEndReason) (b : Byte) {n : Nat} (other : n ≠ 1) (s : State) :
    (s.endRun reason b).events.slots[n]? = s.events.slots[n]? := by
  have notRunEnd (t : State) : n ≠ (t.runEndEvent reason b).kind := by simpa using other
  unfold State.endRun
  split
  · rfl
  · dsimp only
    split <;> simp [State.emit_other _ _ n (notRunEnd _)]

theorem State.completeSegment_completes {s : State} {seg : Segment} (o : SegOutcome) (endSet : ZoneSet) (held : Bool)
    (current : s.run.current = some seg) (active : s.run.st = .active) (due : s.detachDue = none) (room : s.line.m1.length < 8) :
    s.completed seg o endSet held (s.completeSegment o endSet held) := by
  obtain ⟨standing, motion, st, -⟩ := s.segmentEnded_leaves endSet
  obtain ⟨arm, run, agent, online, outside, keep, releases, slot⟩ := s.segmentDone_leaves seg o endSet
  rw [← arm] at standing motion st
  rw [State.completeSegment_eq o endSet held current due room]
  generalize s.segmentDone seg o endSet = t at *
  cases last : seg.last with
  | true =>
    have running : t.run.st ≠ .none := by simp [run, active]
    have cold := (State.endRun_cold .lastDone 0 running).1
    simp only [if_true]
    refine ⟨by simpa using standing, by simpa using motion, by rw [cold]; rfl, by simpa using st,
      fun _ => ⟨cold, fun claim behind => ?_⟩, by simp [last], fun mask length => ?_⟩
    · have again := State.endRun_releases (reason := .lastDone) 0 running nofun (agent ▸ claim)
      rw [outside, keep] at again
      exact State.releases_trans (State.heldOutside_covers _ _ s) releases again rfl online room behind
    · rw [State.endRun_otherSlots _ _ (by decide)]
      exact slot mask length
  | false =>
    simp only [Bool.false_eq_true, if_false]
    cases held with
    | true => exact ⟨standing, motion, by simp [run], st, by simp [last], fun _ => ⟨releases, by simp [run], by simp [run], rfl⟩, slot⟩
    | false =>
      have queue : t.run.queue = s.run.queue := by simp [run]
      simp only [Bool.false_eq_true, if_false]
      cases empty : s.run.queue with
      | nil =>
        simp only [queue, empty, List.isEmpty_nil, if_true]
        refine ⟨by simpa using standing, by simpa using motion, by simp [run], by simpa using st, by simp [last],
          fun _ => ⟨State.releases_congr releases rfl rfl (by simp), by simp [run, empty], by simp [run], by simp [empty]⟩,
          fun mask length => ?_⟩
        rw [State.emit_other _ _ _ (by simp [Event.kind])]
        exact slot mask length
      | cons next rest =>
        simp only [queue, empty, List.isEmpty_cons, Bool.false_eq_true, if_false]
        exact ⟨standing, motion, by simp [run], st, by simp [last],
          fun _ => ⟨releases, queue, by simp [run], by simp [empty, run, active]⟩, slot⟩

/-- Two states stand alike for what the completion of a segment does. -/
def State.completesAlike (s t : State) : Prop :=
  t.arm.shadow = s.arm.shadow ∧ t.arm.phys = s.arm.phys ∧ t.arm.energized = s.arm.energized ∧ t.run = s.run ∧ t.line = s.line ∧
  t.agent = s.agent ∧ t.events = s.events ∧ t.table = s.table ∧ t.setup = s.setup ∧ t.detachDue = s.detachDue

theorem State.completeSegment_alike {s t : State} {seg : Segment} (o : SegOutcome) (endSet : ZoneSet) (held : Bool)
    (alike : s.completesAlike t) (current : s.run.current = some seg) (active : s.run.st = .active) (due : s.detachDue = none)
    (room : s.line.m1.length < 8) : s.completed seg o endSet held (t.completeSegment o endSet held) := by
  obtain ⟨shadow, phys, energized, run, line, agent, events, table, setup, due'⟩ := alike
  have completed := State.completeSegment_completes (s := t) o endSet held (run ▸ current) (run ▸ active) (due'.trans due)
    (line ▸ room)
  have outside (zones : ZoneSet) : t.heldOutside zones = s.heldOutside zones := by
    simp [State.heldOutside, State.held, State.me, table, setup]
  have need : t.headNeed = s.headNeed := by simp [State.headNeed, run]
  have online : t.m1OnLine = s.m1OnLine := by simp [State.m1OnLine, line]
  simpa [State.completed, State.releases, shadow, phys, energized, run, line, agent, events, outside, need, online] using completed

/-- The travel of a MOVE that is at its target completes it (R30). -/
theorem State.exec_moveComplete {s : State} {m : Motion} {seg : Segment} {spec : TravelSpec} (running : s.running = some m)
    (travels : m.act = .travel) (away : m.atTarget = false) (current : s.run.current = some seg) (body : seg.body = .move spec) :
    exec .travelComplete s = .next (s.reachTarget.completeSegment .done spec.endSet false).finish := by
  obtain ⟨tag, last, _⟩ := seg
  subst body
  simp [exec, execTravelComplete, running, away, travels, current]

theorem State.exec_probeComplete {s : State} {m : Motion} {seg : Segment} {missOk : Bool} {spec : TravelSpec}
    (running : s.running = some m) (travels : m.act = .travel) (away : m.atTarget = false) (current : s.run.current = some seg)
    (body : seg.body = .probe missOk spec) :
    exec .travelComplete s = .next (s.reachTarget.probeAtTarget m).finish := by
  obtain ⟨tag, last, _⟩ := seg
  subst body
  simp [exec, execTravelComplete, running, away, travels, current]

/-- A miss completes a PROBE with MISS_OK, and is the fault NO_CONTACT without it (R104). -/
theorem State.miss_eq {s : State} {seg : Segment} {missOk : Bool} {spec : TravelSpec} (qual : s.qual = none)
    (current : s.run.current = some seg) (body : seg.body = .probe missOk spec) :
    s.miss = if missOk then s.completeSegment .miss spec.endSet (s.arm.motion.any (·.thenHeld))
      else (s.arriveIn spec.endSet).faultStill (report .noContact 0 seg.tag.toNat) := by
  obtain ⟨tag, last, _⟩ := seg
  subst body
  simp [State.miss, qual, current]

theorem State.currentTravel_probe {s : State} {seg : Segment} {missOk : Bool} {spec : TravelSpec}
    (current : s.run.current = some seg) (body : seg.body = .probe missOk spec) : s.currentTravel = some spec := by
  obtain ⟨tag, last, _⟩ := seg
  subst body
  simp [State.currentTravel, current]

/-- The fault of a miss leaves the end set as standing set (R104). -/
theorem State.noContact_shows (endSet : ZoneSet) (detail value : Nat) (s : State) :
    let u := (s.arriveIn endSet).faultStill (report .noContact detail value)
    u.lastFault = some .noContact ∧ u.arm.standing = endSet ∧ u.run.st = .none := by
  refine ⟨by simp [report], ?_, by simp⟩
  simp [State.faultStill]

/-- Back at the other level a pending latch is a false trigger (R102). -/
theorem State.exec_falseTrigger {s : State} (armed : s.armed = true) (latch : s.trig.latch ≠ none)
    (asserted : s.assertedLevel = some s.trig.high) :
    exec .falseTrigger s = .next ({ s with trig := { s.trig with high := !s.trig.high } } : State).countFalse.finish := by
  have pends : s.trig.latch.isSome = true := by simpa [Option.isSome_iff_ne_none] using latch
  generalize turned_eq : ({ s with trig := { s.trig with high := !s.trig.high } } : State) = turned
  have facts : turned.armed = true ∧ turned.assertedLevel = some s.trig.high := by
    subst turned_eq
    exact ⟨armed, asserted⟩
  obtain ⟨armed', asserted'⟩ := facts
  simp [exec, execFalseTrigger, armed, pends, State.triggerTo, turned_eq, armed', asserted']

/-- The state after a false trigger that is not the eighth (R102). -/
def State.falselyTriggered (m : Motion) (s : State) : State :=
  { s with
    trig := { s.trig with high := !s.trig.high, latch := none }
    arm := { s.arm with motion := some { m with
      falseTriggers := if m.falseTriggers < 8 then m.falseTriggers + 1 else m.falseTriggers } } }

theorem State.countFalse_eq {s : State} {m : Motion} (motion : s.arm.motion = some m) (count : m.falseTriggers ≠ 7) :
    ({ s with trig := { s.trig with high := !s.trig.high } } : State).countFalse =
      if m.atTarget then (s.falselyTriggered m).miss else s.falselyTriggered m := by
  simp [State.countFalse, motion, count, State.falselyTriggered]

theorem State.reachTarget_eq {s : State} {m : Motion} {target : Vec3 Lu} (motion : s.arm.motion = some m)
    (goal : m.target = some target) : s.reachTarget = s.moveSetpoints target := by
  simp [State.reachTarget, motion, goal]

/-- A simulated contact builds its point (R38, R108). -/
theorem State.buildPoint_builds {s : State} {c : Image} {seg : Segment} {owner : Station} {r : ProbeRecord} {d : QualData}
    (raw : Vec3 Lu) (config : s.config = some c) (current : s.run.current = some seg) (owned : s.run.owner = some owner)
    (record : s.mountedRecord = some r) (data : r.data = some d) (room : s.cap.ring.length < 64) :
    s.buildPoint raw = ({ s with cap := { s.cap with
      ring := s.cap.ring ++ [s.pointAt c seg.tag owner r.defined.id d raw]
      counter := s.cap.counter + 1 } } : State).decideReport := by
  simp [State.buildPoint, config, current, owned, record, data, show ¬ 64 ≤ s.cap.ring.length by omega]

/-- Settles O54. -/
theorem segmentsComplete : Obligations.SegmentsComplete := by
  unfold Obligations.SegmentsComplete
  intro m seg s moving free motion current stack qual active due room rehearsed completes
  have running : s.running = some m := by simp [State.running, moving, free, motion]
  have ends {c : Instr} {o : SegOutcome} {endSet : ZoneSet} {held : Bool} {t : State} (alike : s.completesAlike t)
      (goes : exec c s = .next (t.completeSegment o endSet held).finish) : completes c o endSet held :=
    ⟨_, goes, State.completeSegment_alike o endSet held alike current active due room⟩
  have reached : s.completesAlike s.reachTarget := by
    simp [State.completesAlike]
  refine ⟨fun spec target travels away goal body => ?_, fun ms dwells body => ?_, fun missOk spec backs body => ?_,
    fun missOk spec travels away body real => ⟨?_, ?_, ?_⟩, fun missOk spec travels at_ body armed latch deflected count => ⟨?_, ?_⟩, ?_⟩
  · exact ends reached (State.exec_moveComplete running travels away current body)
  · exact ends (t := s) (by simp [State.completesAlike]) (by simp [exec, execDwellEnd, running, dwells])
  · refine ends reached ?_
    have travel := State.currentTravel_probe (s := s.reachTarget) (by simpa using current) body
    simp [exec, execBackOffEnd, running, backs, stack, travel]
  · intro pends
    have latch : s.trig.latch.isSome = true := by simpa [Option.isSome_iff_ne_none] using pends
    refine ⟨_, State.exec_probeComplete running travels away current body, ?_⟩
    simp [State.probeAtTarget, real, latch, moving]
  · intro quiet missOk
    refine ends reached ?_
    have misses := State.miss_eq (s := s.reachTarget) (by simpa using qual) (by simpa using current) body
    rw [State.exec_probeComplete running travels away current body, State.probeAtTarget]
    simp [real, quiet, misses, missOk, motion]
  · intro quiet missNot
    refine ⟨_, State.exec_probeComplete running travels away current body, ?_⟩
    have misses := State.miss_eq (s := s.reachTarget) (by simpa using qual) (by simpa using current) body
    have faults : s.reachTarget.probeAtTarget m =
        (s.reachTarget.arriveIn spec.endSet).faultStill (report .noContact 0 seg.tag.toNat) := by
      simp [State.probeAtTarget, real, quiet, misses, missNot]
    rw [faults]
    exact State.noContact_shows ..
  · intro missOk
    have misses := State.miss_eq (s := s.falselyTriggered m) qual current body
    refine ends (t := s.falselyTriggered m) ⟨rfl, rfl, rfl, rfl, rfl, rfl, rfl, rfl, rfl, rfl⟩ ?_
    rw [State.exec_falseTrigger armed latch (by simpa [State.deflected] using deflected), State.countFalse_eq motion count,
      at_, if_pos rfl, misses, missOk]
    rfl
  · intro missNot
    have misses := State.miss_eq (s := s.falselyTriggered m) qual current body
    refine ⟨_, State.exec_falseTrigger armed latch (by simpa [State.deflected] using deflected), ?_⟩
    rw [State.countFalse_eq motion count, at_, if_pos rfl, misses, missNot]
    exact State.noContact_shows ..
  · intro missOk spec target c owner r d travels away goal body shadow config owned record data room' stood back free'
    refine ⟨_, State.exec_probeComplete running travels away current body, ?_⟩
    generalize stands_eq : s.reachTarget = stands
    have arrived : stands = { s with axes := stood.axes } := by
      rw [← stands_eq, State.reachTarget_eq motion goal]
      simp [State.moveSetpoints, shadow, stood]
    have positions : stands.positions = target := vec3_ext fun a => by simp [arrived, stood, State.positions]
    have setpoints : stands.setpoints = target := vec3_ext fun a => by simp [arrived, stood, State.setpoints]
    have record' : stands.mountedRecord = some r := by rw [arrived]; exact record
    have config' : stands.config = some c := by simpa [arrived, State.config] using config
    have built : stands.recordContact target = ({ stands with cap := { stands.cap with
        ring := stands.cap.ring ++ [stands.pointAt c seg.tag owner r.defined.id d target]
        counter := stands.cap.counter + 1 } } : State).decideReport := by
      rw [← State.buildPoint_builds target config' (by simpa [arrived] using current) (by simpa [arrived] using owned) record' data
        (by simpa [arrived] using room')]
      simp [State.recordContact, arrived, qual]
    have contact : stands.probeAtTarget m = (stands.recordContact target).beginBackOff false := by
      simp [State.probeAtTarget, goal, arrived, shadow]
    rw [contact, built]
    generalize points_eq : ({ stands with cap := { stands.cap with
        ring := stands.cap.ring ++ [stands.pointAt c seg.tag owner r.defined.id d target]
        counter := stands.cap.counter + 1 } } : State).decideReport = points
    have facts : points.axes = stands.axes ∧ points.run = s.run ∧ points.arm = s.arm ∧ points.setup = s.setup ∧
        points.freeCount = s.freeCount ∧ points.cap = { s.cap with
          ring := s.cap.ring ++ [stands.pointAt c seg.tag owner r.defined.id d target], counter := s.cap.counter + 1 } := by
      simp [← points_eq, arrived]
    obtain ⟨axes, run, arm, setup, count, cap⟩ := facts
    have config'' : points.config = some c := by simpa [State.config, setup] using config
    have target' : backOffTarget points.freeCount c.retract m.startedAt (m.target.getD m.startedAt) points.positions = back := by
      rw [count, State.positions, axes, ← State.positions, positions, goal]
      rfl
    have limits : points.limitCheck back = none := by
      rw [← free', arrived] at *
      simp [State.limitCheck, State.config, setup, arm, axes, stood]
    obtain ⟨axes', run', cap', st, stopping, motion'⟩ := State.beginBackOff_moves false config'' (by rw [arm, motion]) target' limits
    refine ⟨run'.trans run, st, stopping, ?_, ?_, ?_, ?_, _, by rw [cap', cap], ?_⟩
    · rw [← setpoints, State.setpoints, State.setpoints, axes', axes]
    · rw [← positions, State.positions, State.positions, axes', axes]
    · obtain ⟨formed, is, fields⟩ := Option.map_eq_some_iff.1 motion'
      simp_all
    · rw [cap', cap]
    · simp [State.pointAt, arrived, shadow, correctionFlags]

end Sys2Proof.Machine
end

section
/-! PROOF. The trigger qualifier (R101 to R107). -/

namespace Sys2Proof.Machine

open Sys2Proof

/-- The state in which an accepted contact is judged (R102). -/
def State.contactTaken (s : State) : State := { s with trig := { s.trig with latch := none, blocked := true } }

theorem State.exec_contactAccepted {s : State} {l : Latch} (armed : s.armed = true) (latch : s.trig.latch = some l) :
    exec .contactAccepted s = .next (s.acceptContact l.position).finish := by
  simp [exec, execContactAccepted, latch, armed]

theorem State.acceptContact_probing {s : State} (position : Vec3 Lu) (probing : s.probing = true) :
    s.acceptContact position = s.contactTaken.probingContact position := by
  have probing' : s.contactTaken.probing = true := probing
  simp only [State.contactTaken] at probing'
  simp [State.acceptContact, probing', State.contactTaken]

/-- A contact in a probing travel that goes on is recorded, and stops the travel fast toward the back-off (R103). -/
theorem State.probingContact_ends {s : State} {m : Motion} {held : Bool} (position : Vec3 Lu) (motion : s.arm.motion = some m)
    (straight : m.resting = false)
    (goesOn : (s.arm.st = .moving ∧ s.arm.stopping = none ∧ held = m.thenHeld) ∨
      (s.arm.st = .decelerating ∧ ∃ p, s.arm.stopping = some p ∧ p.after = .resume ∧ held = p.held)) :
    s.probingContact position =
      (s.recordContact position).stopFast { fast := true, after := .backOff, held := false, afterBackOff := held } := by
  have travels (executing : s.executing = true) : (s.recordContact position).travelling = true := by
    simpa [State.travelling, State.executing, motion, straight] using executing
  obtain ⟨moving, free, rfl⟩ | ⟨slowing, p, stopping, resume, rfl⟩ := goesOn
  · simp [State.probingContact, free, State.contactEnds, motion, travels (by simp [State.executing, moving])]
  · simp [State.probingContact, stopping, resume, State.contactEnds, travels (by simp [State.executing, slowing])]

/-- The state in which the trigger input has come to a level. -/
def State.atLevel (high : Bool) (s : State) : State := { s with trig := { s.trig with high := high } }

/-- What an edge does (R101, R102): the qualifier judges it by what the station was before it. -/
theorem State.triggerTo_eq {s : State} {high : Bool} (edge : s.trig.high ≠ high) :
    s.triggerTo high =
      let t := s.atLevel high
      if !s.armed then { t with trig := { t.trig with latch := none, blocked := false } }
      else if s.assertedLevel == some high then
        if s.trig.latch.isSome || s.trig.blocked then t
        else
          match s.mountedRecord with
          | some r =>
            if r.defined.width == 0 then t.acceptContact s.positions
            else { t with trig := { t.trig with latch := some { position := s.positions, width := r.defined.width } } }
          | none => t
      else if s.trig.latch.isSome then t.countFalse
      else { t with trig := { t.trig with blocked := false } } :=
  if_neg (by simpa using edge)

/-- A fault with a fast stop leaves the drives and the axes, and takes no latch (R32). -/
theorem State.faultFast_shows (r : FaultReport) (position : Vec3 Lu) (s : State) :
    let u := s.faultFast r position
    u.lastFault = some r.code ∧ u.axes = s.axes ∧ u.arm.energized = s.arm.energized ∧ (s.trig.latch = none → u.trig.latch = none) := by
  refine ⟨?_, by simp, ?_, ?_⟩
  all_goals
    unfold State.faultFast
    dsimp only
    (repeat' split) <;> simp (maxDischargeDepth := 9) +contextual [State.raiseAt, State.stopFast, State.endMotion, State.standStill]

/-- The eighth false trigger is PROBE_NOISY (R102). -/
theorem State.countFalse_noisy {s : State} {m : Motion} (motion : s.arm.motion = some m) (noisy : m.falseTriggers = 7) :
    ({ s with trig := { s.trig with high := !s.trig.high } } : State).countFalse =
      (s.falselyTriggered m).faultFast (report .probeNoisy m.origin.code 0) s.positions := by
  simp [State.countFalse, motion, noisy, State.falselyTriggered]
  rfl

/-- Settles O52. -/
theorem triggerEdgesAreJudged : Obligations.TriggerEdgesAreJudged := by
  unfold Obligations.TriggerEdgesAreJudged
  intro high s goesOn
  have turns (edge : s.trig.high ≠ high) : exec (.triggerEdge high) s = .next (s.triggerTo high).finish := by
    simp [exec, execTriggerEdge, edge]
  refine ⟨fun stands => ?_, fun edge => ?_, fun edge disarmed => ?_, fun r edge armed record asserted quiet free => ⟨fun wide => ?_,
    fun narrow => ?_⟩, fun edge armed back quiet => ?_, fun l m armed latch asserted motion => ⟨fun count away => ?_, fun noisy => ?_⟩,
    fun l armed latch other => ?_, ?_, ?_, ?_⟩
  · simp [exec, execTriggerEdge, execTriggerReturnUnasserted, stands]
  · rfl
  · rw [turns edge, State.triggerTo_eq edge]
    simp [disarmed, State.atLevel]
  · have wide' : ¬ r.defined.width = 0#16 := wide
    rw [turns edge, State.triggerTo_eq edge]
    simp [armed, asserted, record, quiet, free, wide', State.atLevel]
  · rw [turns edge, State.triggerTo_eq edge]
    simp [armed, asserted, record, quiet, free, narrow, State.atLevel]
  · rw [turns edge, State.triggerTo_eq edge]
    simp [armed, back, quiet, State.atLevel]
  · rw [State.exec_falseTrigger armed (by simp [latch]) asserted, State.countFalse_eq motion (by omega)]
    simp [away, State.falselyTriggered, show m.falseTriggers < 8 by omega]
  · refine ⟨_, State.exec_falseTrigger armed (by simp [latch]) asserted, ?_⟩
    rw [State.countFalse_noisy motion noisy]
    obtain ⟨fault, axes, energized, quiet⟩ := (s.falselyTriggered m).faultFast_shows (report .probeNoisy m.origin.code 0) s.positions
    exact ⟨fault, axes, energized, quiet rfl⟩
  · refine ⟨_, State.exec_contactAccepted armed latch, ?_⟩
    have collides : s.acceptContact l.position = s.contactTaken.faultFast (report .collision s.originCode 0) l.position := by
      have other' : s.contactTaken.probing = false := other
      simp only [State.contactTaken] at other'
      simp [State.acceptContact, other', State.contactTaken, State.originCode]
    obtain ⟨fault, axes, -⟩ := s.contactTaken.faultFast_shows (report .collision s.originCode 0) l.position
    rw [collides]
    exact ⟨fault, axes⟩
  · intro l m c seg missOk spec owner r d held armed latch motion travels probing away on qual config current body owned record data room
    have straight : m.resting = false := by simp [Motion.resting, travels, away]
    refine ⟨_, State.exec_contactAccepted armed latch, ?_⟩
    rw [State.acceptContact_probing _ (by simp [State.probing, motion, probing]),
      State.probingContact_ends _ (s := s.contactTaken) motion straight on]
    have built : s.contactTaken.recordContact l.position = ({ s.contactTaken with cap := { s.cap with
        ring := s.cap.ring ++ [s.contactTaken.pointAt c seg.tag owner r.defined.id d l.position]
        counter := s.cap.counter + 1 } } : State).decideReport := by
      have builds := State.buildPoint_builds (s := s.contactTaken) l.position config current owned record data room
      simpa [State.recordContact, State.contactTaken, qual] using builds
    rw [built]
    refine ⟨?_, ?_, ?_, ?_, ?_, ?_, s.contactTaken.pointAt c seg.tag owner r.defined.id d l.position, ?_, rfl, rfl, rfl, rfl, rfl,
      rfl, rfl, rfl, rfl, rfl⟩
    all_goals simp [State.stopFast, State.contactTaken]
  · intro l m q held armed latch motion touches probing away on qual
    have straight : m.resting = false := by simp [Motion.resting, touches, away]
    refine ⟨_, State.exec_contactAccepted armed latch, ?_⟩
    rw [State.acceptContact_probing _ (by simp [State.probing, motion, probing]),
      State.probingContact_ends _ (s := s.contactTaken) motion straight on]
    simp [State.recordContact, State.contactTaken, qual, motion, touches, State.stopFast]
  · intro l m p armed latch motion probing stopping ends
    refine ⟨_, State.exec_contactAccepted armed latch, ?_⟩
    rw [State.acceptContact_probing _ (by simp [State.probing, motion, probing])]
    have stops : s.contactTaken.probingContact l.position = s.contactTaken.stopFast p := by
      obtain ⟨why, b, after⟩ | after := ends <;> simp [State.probingContact, State.contactTaken, stopping, after]
    rw [stops]
    simp [State.stopFast, State.contactTaken]

end Sys2Proof.Machine
end

section
/-! PROOF. The head, its reader, the lock pulses and the rack (R98 to R100, R117, R126 to R129, R132). -/

namespace Sys2Proof.Machine

open Sys2Proof

/-! ## The windows that close, and the mounted-probe record -/

/-- The judgement of a window's end keeps the head's outputs, and finds an empty head without a probe (R129). -/
theorem State.judgeHead_head (outcome : ChangeOutcome) (s : State) :
    (s.judgeHead outcome).head.seated = s.head.seated ∧ (s.judgeHead outcome).head.pulse = s.head.pulse ∧
    (s.judgeHead outcome).head.waiting = s.head.waiting ∧
    (s.judgeHead outcome).mounted = if s.head.seated then s.mounted else .none := by
  unfold State.judgeHead
  split
  next empty => simp_all [State.changeEnded]
  next seated => split <;> simp_all [State.changeEnded, State.requestRead]

theorem State.judgeHeads_head (ws : List (Nat × ChangeOutcome)) (s : State) :
    let u := ws.foldl (fun s w => s.judgeHead w.2) s
    u.head.seated = s.head.seated ∧ u.head.pulse = s.head.pulse ∧ u.head.waiting = s.head.waiting ∧
    u.mounted = if s.head.seated ∨ ws = [] then s.mounted else .none := by
  induction ws generalizing s with
  | nil => simp
  | cons w ws ih =>
    obtain ⟨seated, pulse, waiting, mounted⟩ := s.judgeHead_head w.2
    obtain ⟨seated', pulse', waiting', mounted'⟩ := ih (s.judgeHead w.2)
    refine ⟨seated'.trans seated, pulse'.trans pulse, waiting'.trans waiting, mounted'.trans ?_⟩
    rw [seated, mounted]
    cases s.head.seated <;> simp

/-- The windows whose change has no pulse left close, and they alone judge the head (R129). -/
theorem State.closeWindows_head (s : State) :
    s.closeWindows.head.seated = s.head.seated ∧ s.closeWindows.head.pulse = s.head.pulse ∧
    s.closeWindows.head.waiting = s.head.waiting ∧
    s.closeWindows.mounted =
      if s.head.seated ∨ s.chg.closing.filter (fun w => !s.head.hasPulseOf w.1) = [] then s.mounted else .none :=
  State.judgeHeads_head _ _

/-- The mounted-probe record behind a change that ends (R129): only a window that closes over an empty head changes it. -/
theorem State.endChange_head (outcome : ChangeOutcome) (r : ChangeRecord) (s : State) :
    (s.endChange outcome r).head.seated = s.head.seated ∧
    (s.endChange outcome r).mounted =
      if r.window = false ∨ s.head.seated = true ∨
        (s.chg.closing ++ [(r.serial, outcome)]).filter (fun w => !s.head.hasPulseOf w.1) = [] then s.mounted else .none := by
  unfold State.endChange
  dsimp only
  split
  next window =>
    obtain ⟨seated, -, -, mounted⟩ := State.closeWindows_head ({ s.dropChange with
      head := { s.head with idRead := s.head.idRead.map (fun (q : IdRead) => { q with forChange := false }) }
      chg := { s.dropChange.chg with closing := s.chg.closing ++ [(r.serial, outcome)] } } : State)
    refine ⟨seated, mounted.trans ?_⟩
    simp only [window, Bool.true_eq_false, false_or]
    rfl
  next shut => simp_all [State.changeEnded, State.dropChange]

theorem State.failChange_head (s : State) :
    s.failChange.head.seated = s.head.seated ∧ (s.mounted = .none → s.failChange.mounted = .none) := by
  unfold State.failChange
  split
  · exact ⟨rfl, id⟩
  next r change =>
    split
    · exact ⟨by simp, by simp⟩
    · obtain ⟨-, mounted⟩ := (s.queueRelease (s.changeSlots r ||| zoneItems (itemZones s.held &&& ~~~ s.keep))).endChange_head
        .failed r
      refine ⟨by simp, fun none => mounted.trans ?_⟩
      simp [none]

theorem State.failAll_head (s : State) :
    s.failAll.head.seated = s.head.seated ∧ s.failAll.mounted = s.failChange.mounted := by
  unfold State.failAll
  simp

/-- A fault with a fast stop finds no probe where none was (R12, R129). -/
theorem State.faultFast_head (r : FaultReport) (position : Vec3 Lu) (s : State) :
    (s.faultFast r position).head.seated = s.head.seated ∧ (s.mounted = .none → (s.faultFast r position).mounted = .none) := by
  obtain ⟨-, mounted⟩ := (s.raiseAt r position).failAll_head
  obtain ⟨-, unmounted⟩ := (s.raiseAt r position).failChange_head
  refine ⟨by simp, fun none => ?_⟩
  have none' : (s.raiseAt r position).failAll.mounted = .none := mounted.trans (unmounted (by simpa using none))
  unfold State.faultFast
  dsimp only
  (repeat' split) <;> simp [none', State.stopFast, State.flush]

/-! ## The steps of a change at the dock points -/

theorem State.closeWindows_of_none {s : State} (closed : s.chg.closing = []) : s.closeWindows = s := by
  have same : ({ s.chg with closing := [] } : Changer) = s.chg := by rw [← closed]
  simp [State.closeWindows, closed, same]

/-- The drop slot of the record that a probe has afterwards (R126). -/
theorem State.probe_updateProbe {s : State} {id : ProbeId} {p : ProbeRecord} (f : ProbeRecord → ProbeRecord)
    (keeps : ∀ q, (f q).defined.id = q.defined.id) (probe : s.probe id = some p) : (s.updateProbe id f).probe id = some (f p) := by
  have own : p.defined.id = id := by simpa using List.find?_some probe
  unfold State.probe State.updateProbe
  dsimp only
  rw [List.find?_map]
  have same : ((fun p => p.defined.id == id) ∘ fun p : ProbeRecord => if (p.defined.id == id) = true then f p else p) =
      fun p : ProbeRecord => p.defined.id == id := by
    funext q
    by_cases q_id : q.defined.id = id <;> simp [q_id, keeps]
  rw [same, show s.probes.find? (fun p => p.defined.id == id) = some p from probe]
  simp [own]

/-- The head that empties in CH_UNLOCK (R126). -/
theorem State.headEmptied_real {s : State} {r : ChangeRecord} {drop : Fin 8} {id : ProbeId} (real : s.arm.shadow = false)
    (change : s.chg.change = some r) (slot : r.drop = some drop) (mounted : s.mounted = .resolved id)
    (room : s.line.m1.length < 8) :
    let u := s.headEmptied r
    u.chg = { s.chg with change := some { r with step := .leaveDrop, wait := .none, dropped := some (.id id) } } ∧
    u.mounted = .none ∧ u.head = s.head ∧ u.line.m1 = s.line.m1 ++ [.slotSet drop (.probe id)] ∧
    u.arm.todo = some (.changeMove .leaveDrop) ∧
    (∀ p, s.probe id = some p → u.probe id = some { p with homeSlot := some drop }) := by
  have probe (p : ProbeRecord) (known : s.probe id = some p) :=
    State.probe_updateProbe (fun q => { q with homeSlot := some drop }) (fun _ => rfl) known
  simp [State.headEmptied, State.updateChange, real, change, slot, mounted, Mounted.result, Mounted.id, State.queueSlotSet,
    State.pushM1_room, room, State.leaveDock, ReadResult.contents, State.setTodo]
  exact probe

/-- In shadow mode the records stay (R132). -/
theorem State.headEmptied_shadow {s : State} {r : ChangeRecord} (shadow : s.arm.shadow = true) (change : s.chg.change = some r) :
    let u := s.headEmptied r
    u.chg = { s.chg with change := some { r with step := .leaveDrop, wait := .none, dropped := s.mounted.result } } ∧
    u.mounted = s.mounted ∧ u.head = s.head ∧ u.line = s.line ∧ u.arm.todo = some (.changeMove .leaveDrop) := by
  simp [State.headEmptied, State.updateChange, shadow, change, State.leaveDock, State.setTodo]

/-- The head that seats in CH_LOCK (R127). -/
theorem State.headSeated_real {s : State} {r : ChangeRecord} (real : s.arm.shadow = false) (change : s.chg.change = some r) :
    let u := s.headSeated r
    u.chg = { s.chg with change := some { r with step := .ident, wait := .read } } ∧ u.mounted = s.mounted ∧ u.arm = s.arm ∧
    u.head = { s.head with idRead := some { s.head.idRead.getD IdRead.started with forChange := true } } := by
  simp [State.headSeated, State.updateChange, real, change, State.requestRead]

theorem State.headSeated_shadow {s : State} {r : ChangeRecord} (shadow : s.arm.shadow = true) (change : s.chg.change = some r) :
    let u := s.headSeated r
    u.chg = { s.chg with change := some { r with step := .leavePick, wait := .none, read := some (.id r.target) } } ∧
    u.mounted = s.mounted ∧ u.head = s.head ∧ u.line = s.line ∧ u.arm.todo = some (.changeMove .leavePick) := by
  simp [State.headSeated, State.updateChange, shadow, change, State.leaveDock, State.setTodo]

/-- The move back is next once the slot's contents are queued (R127). -/
theorem State.identified_seated {s : State} {r : ChangeRecord} {pick : Fin 8} (result : ReadResult) (seated : s.head.seated = true)
    (real : s.arm.shadow = false) (change : s.chg.change = some r) (slot : r.pick = some pick) (room : s.line.m1.length < 8) :
    let u := s.identified r result
    u.mounted = .unresolved result ∧
    u.chg.change = some { r with step := .leavePick, wait := .none, read := some result, window := false } ∧
    u.line.m1 = s.line.m1 ++ [.slotSet pick .empty] ∧ u.arm.todo = some (.changeMove .leavePick) := by
  simp [State.identified, seated, State.updateChange, real, change, slot, State.queueSlotSet, State.pushM1_room, room,
    State.leaveDock, State.setTodo]

theorem State.lockEmpty_fails {s : State} {r : ChangeRecord} {pick : Fin 8} (real : s.arm.shadow = false)
    (change : s.chg.change = some r) (slot : r.pick = some pick) (room : s.line.m1.length < 8) :
    let u := s.lockEmpty r
    u.chg.change = some { r with wait := .none, failing := some .changeEmpty } ∧
    u.line.m1 = s.line.m1 ++ [.slotSet pick .unknown] ∧ u.arm.todo = some (.changeMove .leavePick) := by
  simp [State.lockEmpty, State.updateChange, real, change, slot, State.queueSlotSet, State.pushM1_room, room,
    State.leaveDock, State.setTodo]

theorem State.keepLatchWhileArmed_eq (s : State) :
    s.keepLatchWhileArmed = { s with trig := { s.trig with latch := if s.armed then s.trig.latch else none } } := by
  unfold State.keepLatchWhileArmed
  split <;> simp_all [State.dropLatch]

/-- The state in which the head's level has been taken (R98, R99). -/
def State.headAt (seated : Bool) (s : State) : State :=
  ({ s with head := { s.head with seated := seated, idRead := s.head.idRead.map (IdRead.see seated) } } : State).keepLatchWhileArmed

theorem State.exec_headFilterEnd {s : State} {seated : Bool} (active : s.line.active = true) (changes : s.head.seated ≠ seated) :
    exec (.headFilterEnd seated) s = .next
      (if s.inWindow then (s.headAt seated).headInWindow seated else (s.headAt seated).headOutside seated).finish := by
  have window : (s.headAt seated).inWindow = s.inWindow := by
    simp [State.headAt, State.keepLatchWhileArmed_eq, State.inWindow]
  have passes : ¬ (!s.line.active || s.head.seated == seated) = true := by simp [active, changes]
  rw [← window]
  exact if_neg passes

theorem State.headAt_leaves (seated : Bool) (s : State) :
    let u := s.headAt seated
    u.head = { s.head with seated := seated, idRead := s.head.idRead.map (IdRead.see seated) } ∧
    { u with head := s.head, trig := s.trig } = s ∧ (seated = false → u.trig.latch = none) := by
  refine ⟨by simp [State.headAt, State.keepLatchWhileArmed_eq], by simp [State.headAt, State.keepLatchWhileArmed_eq], ?_⟩
  rintro rfl
  simp [State.headAt, State.keepLatchWhileArmed_eq, State.armed]

@[simp] theorem State.headAt_same (seated : Bool) (s : State) :
    (s.headAt seated).arm = s.arm ∧ (s.headAt seated).chg = s.chg ∧ (s.headAt seated).line = s.line ∧
    (s.headAt seated).mounted = s.mounted ∧ (s.headAt seated).probes = s.probes := by
  simp [State.headAt, State.keepLatchWhileArmed_eq]

/-- The pulse output behind the end of a pulse (R100). -/
theorem State.exec_lockPulseEnd {s : State} {pulse : Pulse} {r : ChangeRecord} (flies : s.head.pulse = some pulse)
    (change : s.chg.change = some r) (serial : r.serial = pulse.change) (closed : s.nextPulse.pulseEnded.chg.closing = []) :
    exec .lockPulseEnd s = .next s.nextPulse.pulseEnded.finish := by
  have own : s.chg.change.any (fun q => q.serial == pulse.change) = true := by simp [change, serial]
  have same : s.nextPulse.pulseEnded.closeWindows = s.nextPulse.pulseEnded := State.closeWindows_of_none closed
  simp [exec, execLockPulseEnd, flies, own, same]

theorem State.readForHead_leaves (result : ReadResult) (s : State) :
    (s.readForHead result).head = s.head ∧ (s.readForHead result).chg = s.chg ∧
    (s.readForHead result).mounted = if s.head.seated then .unresolved result else s.mounted := by
  unfold State.readForHead
  split <;> simp_all

theorem State.changesEnded_leaves (outcomes : List ChangeOutcome) (s : State) :
    let u := outcomes.foldl (fun s outcome => s.changeEnded outcome) s
    u.head = s.head ∧ u.chg = s.chg ∧ u.mounted = s.mounted := by
  induction outcomes generalizing s with
  | nil => exact ⟨rfl, rfl, rfl⟩
  | cons o outcomes ih => simpa using ih (s.changeEnded o)

theorem State.readForJudge_leaves (result : ReadResult) (s : State) :
    (s.readForJudge result).head = s.head ∧ (s.readForJudge result).chg.change = s.chg.change ∧
    (s.readForJudge result).mounted = if s.head.seated then .unresolved result else s.mounted := by
  obtain ⟨head, chg, mounted⟩ := s.readForHead_leaves result
  obtain ⟨head', chg', mounted'⟩ := State.changesEnded_leaves (s.readForHead result).chg.judging
    { s.readForHead result with chg := { (s.readForHead result).chg with judging := [] } }
  refine ⟨head'.trans head, (congrArg (fun c : Changer => c.change) chg').trans ?_, mounted'.trans mounted⟩
  change (s.readForHead result).chg.change = s.chg.change
  rw [chg]

/-- The head's record, where the read was asked for it, and the windows' judgements (R98, R129). -/
def State.readKept (lines : Option (BitVec 16)) (r : IdRead) (s : State) : State :=
  let result := readResult r.emptied lines
  let t := { s with head := { s.head with idRead := none, lastRead := some result } }
  let t := if r.forHead then t.readForHead result else t
  if r.forJudge then t.readForJudge result else t

theorem State.readKept_leaves (lines : Option (BitVec 16)) (r : IdRead) (s : State) :
    let u := s.readKept lines r
    u.head = { s.head with idRead := none, lastRead := some (readResult r.emptied lines) } ∧ u.chg.change = s.chg.change ∧
    u.mounted = if (r.forHead || r.forJudge) && s.head.seated then .unresolved (readResult r.emptied lines) else s.mounted := by
  generalize read_eq : ({ s with head := { s.head with
    idRead := none, lastRead := some (readResult r.emptied lines) } } : State) = read
  have facts : read.head = { s.head with idRead := none, lastRead := some (readResult r.emptied lines) } ∧ read.chg = s.chg ∧
      read.mounted = s.mounted := by
    subst read_eq
    exact ⟨rfl, rfl, rfl⟩
  obtain ⟨head, chg, mounted⟩ := facts
  obtain ⟨head', chg', mounted'⟩ := read.readForHead_leaves (readResult r.emptied lines)
  have kept : s.readKept lines r = (let t := if r.forHead then read.readForHead (readResult r.emptied lines) else read
      if r.forJudge then t.readForJudge (readResult r.emptied lines) else t) := by
    subst read_eq
    rfl
  rw [kept]
  cases forHead : r.forHead <;> cases forJudge : r.forJudge
  · simp [head, chg, mounted]
  · simp [(read.readForJudge_leaves _), head, chg, mounted]
  · simp [head', chg', mounted', head, chg, mounted]
  · obtain ⟨head'', chg'', mounted''⟩ := (read.readForHead (readResult r.emptied lines)).readForJudge_leaves (readResult r.emptied lines)
    simp [head'', chg'', mounted'', head', chg', mounted', head, chg, mounted]
    cases s.head.seated <;> simp

/-- Settles O53. -/
theorem headAndRackAreSensed : Obligations.HeadAndRackAreSensed := by
  unfold Obligations.HeadAndRackAreSensed
  intro s
  refine ⟨fun active outside empty => ?_, fun active outside seated => ?_, fun seated stands => ?_,
    fun r since drop id active inside seated real change step wait slot mounted room => ?_,
    fun r since active inside empty real change step wait => ?_, fun lines r read idle => ?_,
    fun lines q r pick read forChange notHead notJudge change step wait slot seated real room => ?_,
    fun pulse flies idle closed => ?_, fun pulse r flies change serial closed => ?_, fun kind none => ?_,
    fun pulse kind flies => ?_, fun kind id none => ?_, fun c r since config change step wait => ?_,
    fun c r since pick config change step wait slot real room => ?_, fun slot present active host changes => ⟨fun out => ?_,
    fun attached empty => ?_⟩⟩
  · obtain ⟨head, rest, -⟩ := s.headAt_leaves true
    refine ⟨_, State.exec_headFilterEnd active (by simp [empty]), ?_⟩
    rw [outside]
    refine ⟨?_, rest⟩
    simp [State.headOutside, State.requestRead, head]
  · obtain ⟨head, rest, quiet⟩ := s.headAt_leaves false
    refine ⟨_, State.exec_headFilterEnd active (by simp [seated]), ?_⟩
    rw [outside]
    simp only [Bool.false_eq_true, if_false, State.headOutside]
    split
    next moving =>
      obtain ⟨fault, -, -, latch⟩ := ({ s.headAt false with mounted := .none } : State).faultFast_shows (report .noProbe 3 0)
        (s.headAt false).positions
      obtain ⟨seated', mounted⟩ := ({ s.headAt false with mounted := .none } : State).faultFast_head (report .noProbe 3 0)
        (s.headAt false).positions
      exact ⟨seated'.trans (by simp [head]), mounted rfl, latch (quiet rfl), fun _ _ _ => fault⟩
    next rests =>
      refine ⟨by simp [head], rfl, quiet rfl, fun executing energized real => absurd ?_ rests⟩
      simpa [State.executing, energized, real] using executing
  · simp [exec, execHeadFilterEnd, stands]
  · obtain ⟨head, rest, -⟩ := s.headAt_leaves false
    obtain ⟨chg, none, head', m1, todo, homes⟩ := State.headEmptied_real (s := s.headAt false) (r := r) (drop := drop) (id := id)
      (by simpa using real) (by simpa using change) slot (by simpa using mounted) (by simpa using room)
    have empties : (s.headAt false).headInWindow false = (s.headAt false).headEmptied r := by
      simp [State.headInWindow, change, step, wait]
    refine ⟨_, State.exec_headFilterEnd active (by simp [seated]), ?_⟩
    rw [inside, if_pos rfl, empties]
    refine ⟨by rw [head', head], none, by rw [chg], by simpa using m1, todo, fun p known => homes p ?_⟩
    simpa [State.probe] using known
  · obtain ⟨head, rest, -⟩ := s.headAt_leaves true
    obtain ⟨chg, mounted, -, head'⟩ := State.headSeated_real (s := s.headAt true) (r := r) (by simpa using real)
      (by simpa using change)
    refine ⟨_, State.exec_headFilterEnd active (by simp [empty]), ?_⟩
    have seats : (s.headAt true).headInWindow true = (s.headAt true).headSeated r := by
      simp [State.headInWindow, change, step, wait]
    rw [inside, if_pos rfl, seats]
    exact ⟨by rw [head', head], by rw [chg], by rw [head']; rfl, by simpa using mounted⟩
  · obtain ⟨head, change, mounted⟩ := s.readKept_leaves lines r
    have ends : exec (.idReadEnd lines) s = .next (s.readKept lines r).keepLatchWhileArmed.finish := by
      have same : (s.readKept lines r).readForChange (readResult r.emptied lines) r.forChange = s.readKept lines r := by
        simp [State.readForChange, change, idle]
      rw [← same]
      simp only [exec, execIdReadEnd, read]
      rfl
    refine ⟨_, ends, ?_⟩
    simp only [State.keepLatchWhileArmed_eq, head, mounted]
    exact ⟨trivial, trivial, fun forHead seated => by simp [forHead, seated], fun notHead notJudge => by simp [notHead, notJudge]⟩
  · have kept : s.readKept lines q =
        { s with head := { s.head with idRead := none, lastRead := some (readResult q.emptied lines) } } := by
      simp [State.readKept, notHead, notJudge]
    have ends : exec (.idReadEnd lines) s = .next
        ((s.readKept lines q).identified r (readResult q.emptied lines)).keepLatchWhileArmed.finish := by
      have same : (s.readKept lines q).readForChange (readResult q.emptied lines) q.forChange =
          (s.readKept lines q).identified r (readResult q.emptied lines) := by
        simp [State.readForChange, kept, change, step, wait, forChange]
      rw [← same]
      simp only [exec, execIdReadEnd, read]
      rfl
    obtain ⟨mounted, change', m1, todo⟩ := State.identified_seated (s := s.readKept lines q) (r := r) (readResult q.emptied lines)
      (by rw [kept]; exact seated) (by rw [kept]; exact real) (by rw [kept]; exact change) slot (by rw [kept]; exact room)
    refine ⟨_, ends, ?_⟩
    simp only [State.keepLatchWhileArmed_eq]
    exact ⟨mounted, change', by rw [m1, kept], todo⟩
  · have closed' : s.nextPulse.closeWindows = s.nextPulse := State.closeWindows_of_none closed
    simp [exec, execLockPulseEnd, flies, idle, closed']
    rfl
  · intro ends
    let t := s.nextPulse
    have goes {r' : ChangeRecord} {more : State → Prop} (closed : t.pulseEnded.chg.closing = [])
        (becomes : t.pulseEnded.chg.change = some r') (head : t.pulseEnded.head.pulse = t.head.pulse ∧
          t.pulseEnded.head.waiting = t.head.waiting) (holds : more t.pulseEnded) : ends r' more :=
      ⟨_, State.exec_lockPulseEnd flies change serial closed, becomes, head.1, head.2, holds⟩
    refine ⟨fun step wait => ?_, fun real => ⟨fun step wait => ⟨fun seated => ?_, fun drop id empty slot mounted room => ?_⟩,
      fun step wait => ⟨fun seated => ?_, fun empty => ?_⟩⟩, fun shadow => ⟨fun step wait => ?_, fun step wait => ?_⟩⟩
    · have ended : t.pulseEnded = (t.updateChange (fun q => { q with wait := .none })).leaveDock .leaveDrop := by
        simp [t, State.pulseEnded, State.nextPulse, change, step, wait]
      refine goes ?_ ?_ ?_ ?_ <;> rw [ended] <;> simp [State.leaveDock, State.updateChange, State.setTodo, t, State.nextPulse, change, closed]
    · have ended : t.pulseEnded = t.updateChange (fun q => { q with wait := .release s.clock }) := by
        simp [t, State.pulseEnded, State.nextPulse, change, step, wait, State.unlockEnded, real, seated]
      refine goes ?_ ?_ ?_ ?_ <;> rw [ended] <;> simp [State.updateChange, t, State.nextPulse, change, closed]
    · have ended : t.pulseEnded = t.headEmptied r := by
        simp [t, State.pulseEnded, State.nextPulse, change, step, wait, State.unlockEnded, real, empty]
      obtain ⟨chg, none, head, m1, todo, homes⟩ := State.headEmptied_real (s := t) (r := r) (drop := drop) (id := id) real change slot
        mounted room
      rw [← ended] at chg none head m1 todo homes
      exact goes (by rw [chg]; exact closed) (by rw [chg]) (by simp [head]) ⟨none, m1, todo, homes⟩
    · have ended : t.pulseEnded = t.headSeated r := by
        simp [t, State.pulseEnded, State.nextPulse, change, step, wait, State.lockEnded, real, seated]
      obtain ⟨chg, mounted, arm, head⟩ := State.headSeated_real (s := t) (r := r) real change
      rw [← ended] at chg mounted arm head
      exact goes (by rw [chg]; exact closed) (by rw [chg]) (by simp [head]) ⟨by simp [head], mounted, arm⟩
    · have ended : t.pulseEnded = t.updateChange (fun q => { q with wait := .seat s.clock }) := by
        simp [t, State.pulseEnded, State.nextPulse, change, step, wait, State.lockEnded, real, empty]
      refine goes ?_ ?_ ?_ ?_ <;> rw [ended] <;> simp [State.updateChange, t, State.nextPulse, change, closed]
    · have ended : t.pulseEnded = t.headEmptied r := by
        simp [t, State.pulseEnded, State.nextPulse, change, step, wait, State.unlockEnded, shadow]
      obtain ⟨chg, mounted, head, line, todo⟩ := State.headEmptied_shadow (s := t) (r := r) shadow change
      rw [← ended] at chg mounted head line todo
      exact goes (by rw [chg]; exact closed) (by rw [chg]; rfl) (by simp [head]) ⟨mounted, by rw [line]; rfl, todo⟩
    · have ended : t.pulseEnded = t.headSeated r := by
        simp [t, State.pulseEnded, State.nextPulse, change, step, wait, State.lockEnded, shadow]
      obtain ⟨chg, mounted, head, line, todo⟩ := State.headSeated_shadow (s := t) (r := r) shadow change
      rw [← ended] at chg mounted head line todo
      exact goes (by rw [chg]; exact closed) (by rw [chg]) (by simp [head]) ⟨mounted, by rw [line]; rfl, todo⟩
  · simp [State.pulseOutput, none]
  · simp [State.pulseOutput, flies]
  · simp [State.pulseOutput, State.requestPulse, none]
  · refine ⟨_, by simp only [exec, execReleaseTimeExpiry, config, change, step, wait]; rfl, ?_⟩
    refine ⟨by simp [State.unlockStuck, State.askPulse, State.updateChange, change], fun none => ?_⟩
    simp [State.unlockStuck, State.askPulse, State.closeWindows_head, State.requestPulse, State.updateChange, none]
  · have change' : (s.reach since c.seatTime.toNat).chg.change = some r := by simpa using change
    refine ⟨_, by simp only [exec, execSeatTimeExpiry, config, change, step, wait]; rfl, ?_⟩
    obtain ⟨change', m1, todo⟩ := State.lockEmpty_fails (by simpa using real) change' slot (by simpa using room)
    exact ⟨change', by simpa using m1, todo⟩
  · have changes' : ¬ s.rack[slot.val] = present := by simpa using changes
    simp [exec, execSlotFilterEnd, active, host, changes', out]
  · have changes' : ¬ s.rack[slot.val] = present := by simpa using changes
    simp [exec, execSlotFilterEnd, active, host, changes', attached, State.queueSlotSense, State.waitsInM1, empty, State.pushM1]

end Sys2Proof.Machine
end

section
/-! PROOF. Scans of the temperature channels (R148 to R155, R141). -/

namespace Sys2Proof.Machine

open Sys2Proof

theorem State.reach_thermal (since : Clock) (limit : Nat) (s : State) : (s.reach since limit).thermal = s.thermal := by simp

/-- The judgement of a conversion, in whole numbers (R149). -/
theorem ChannelConf.judge_eq (conf : ChannelConf) (v : Temp) :
    conf.judge v = if conf.openAt.toInt ≤ v.toInt ∨ v.toInt ≤ conf.shortAt.toInt then .bad else .good v := by
  simp only [ChannelConf.judge, BitVec.sle_iff_toInt_le]
  by_cases hot : conf.openAt.toInt ≤ v.toInt <;> simp [hot]

theorem limitRate_eq (r : Int) : limitRate r = BitVec.ofInt 16 (max (-32767) (min 32767 r)) := by
  unfold limitRate
  split
  · rw [show max (-32767 : Int) (min 32767 r) = -32767 by omega]
  · split
    · rw [show max (-32767 : Int) (min 32767 r) = 32767 by omega]
    · rw [show max (-32767 : Int) (min 32767 r) = r by omega]

/-- From the eighth value on a new one gives a rate (R150). -/
theorem rateOf_eighth {cadence : Nat} {history : List Temp} {oldest new : Temp} (full : history.length = 8)
    (first : history.head? = some oldest) :
    rateOf cadence history new =
      some (BitVec.ofInt 16 (max (-32767) (min 32767 (roundDiv ((new.toInt - oldest.toInt) * 60000) (8 * cadence))))) := by
  cases history with
  | nil => simp at full
  | cons a rest =>
    obtain rfl : a = oldest := by simpa using first
    simp [rateOf, show rest.length = 7 by simpa using full, limitRate_eq]

/-! ## One channel at a scan completion (R150, R151) -/

/-- A channel after the scan: its own result is taken, then its age is judged. -/
def Channel.scanned (now : Clock) (c : Image) (results : List (Nat × Judged)) (n : Nat) (ch : Channel) : Channel :=
  ((results.find? (fun r => r.1 == n)).elim ch (fun r =>
    ch.update now c.cadence.toNat ((c.channels.getD n ⟨false, false, 0, 0, 0⟩).shift) r.2)).ageTo now (1000 * c.ageLimit.toNat)

section
variable {now : Clock} {c : Image} {results : List (Nat × Judged)} {n : Nat} {ch : Channel}

theorem Channel.scanned_seeds {v : Temp} (good : results.find? (fun r => r.1 == n) = some (n, .good v))
    (st : ch.st = .subst ∨ ch.st = .unavailable) : ch.scanned now c results n = ch.seeded v := by
  have seeded : ch.update now c.cadence.toNat ((c.channels.getD n ⟨false, false, 0, 0, 0⟩).shift) (.good v) = ch.seeded v := by
    unfold Channel.update
    obtain st | st := st <;> rw [st]
  simp only [Channel.scanned, good, Option.elim_some, seeded]
  exact Channel.ageTo_of_ne_subst _ _ _ (by simp [Channel.seeded])

theorem Channel.scanned_filters {v f : Temp} {conf : ChannelConf} (good : results.find? (fun r => r.1 == n) = some (n, .good v))
    (known : c.channels[n]? = some conf) (fresh : ch.st = .fresh) (filtered : ch.filtered = some f) :
    ch.scanned now c results n = { ch with
      filtered := some (filterStep conf.shift f v)
      rate := rateOf c.cadence.toNat ch.history (filterStep conf.shift f v)
      history := remember ch.history (filterStep conf.shift f v) } := by
  have shift : (c.channels.getD n ⟨false, false, 0, 0, 0⟩).shift = conf.shift := by simp [known]
  have updated : ch.update now c.cadence.toNat conf.shift (.good v) = { ch with
      filtered := some (filterStep conf.shift f v)
      rate := rateOf c.cadence.toNat ch.history (filterStep conf.shift f v)
      history := remember ch.history (filterStep conf.shift f v) } := by
    unfold Channel.update
    rw [fresh, filtered]
  simp only [Channel.scanned, good, Option.elim_some, shift, updated]
  rw [Channel.ageTo_of_ne_subst _ _ _ (by simp [fresh])]

theorem Channel.scanned_standsIn (bad : results.find? (fun r => r.1 == n) = some (n, .bad)) (fresh : ch.st = .fresh)
    (limit : 0 < c.ageLimit.toNat) : ch.scanned now c results n = { ch with st := .subst, since := some now } := by
  have young : ¬ 1000 * c.ageLimit.toNat ≤ (now - now).toNat := by simp; omega
  have updated (cadence : Nat) (shift : Byte) : ch.update now cadence shift .bad = { ch with st := .subst, since := some now } := by
    unfold Channel.update
    rw [fresh]
  simp only [Channel.scanned, bad, Option.elim_some, updated]
  rw [Channel.ageTo_subst _ now _ _ rfl rfl, if_neg young]

/-- Without a good reading a channel that is not FRESH only ages. -/
theorem Channel.scanned_unread
    (unread : results.find? (fun r => r.1 == n) = some (n, .bad) ∧ ch.st ≠ .fresh ∨ results.find? (fun r => r.1 == n) = none) :
    ch.scanned now c results n = ch.ageTo now (1000 * c.ageLimit.toNat) := by
  obtain ⟨bad, st⟩ | unread := unread
  · have same (cadence : Nat) (shift : Byte) : ch.update now cadence shift .bad = ch := by
      unfold Channel.update
      cases is : ch.st with
      | fresh => exact absurd is st
      | _ => rfl
    simp only [Channel.scanned, bad, Option.elim_some, same]
  · simp only [Channel.scanned, unread, Option.elim_none]

end

/-! ## The scan -/

/-- The settle monitor leaves the channels, the peer entries, the roles and the scan (R163). -/
theorem evaluateSettle_leaves (now : Clock) (c : Image) (t : Thermal) :
    let u := evaluateSettle now c t
    u.channels = t.channels ∧ u.peers = t.peers ∧ u.roles = t.roles ∧ u.scan = t.scan := by
  unfold evaluateSettle
  (repeat' split) <;> exact ⟨rfl, rfl, rfl, rfl⟩

/-- A resolution looks at the channels and the peer entries alone (R158). -/
theorem resolveRoles_congr (c : Image) {t u : Thermal} (channels : u.channels = t.channels) (peers : u.peers = t.peers) :
    resolveRoles c u = resolveRoles c t := by
  have reading : sourceReading u = sourceReading t := by
    funext source
    cases source <;> simp [sourceReading, channels, peers]
  simp [resolveRoles, resolveRole, reading]

/-- The state in which a scan completion has taken its effect (R152). -/
def State.scanned (c : Image) (results : List (Nat × Judged)) (s : State) : State :=
  ((s.measure c results).endSoak).afterSettle c

theorem State.endSoak_leaves (s : State) : s.endSoak.thermal = s.thermal ∧ s.endSoak.line = s.line := by
  unfold State.endSoak
  split <;> simp

theorem State.fillThermal_line {content : ThermalContent} {s t : State} (line : s.line = t.line) :
    (s.fillThermal content).line = (t.fillThermal content).line := by
  unfold State.fillThermal
  split <;> simp [line]

/-- What a scan completion leaves of the thermal unit (R150 to R152, R155, R159). -/
theorem State.scanned_thermal (c : Image) (results : List (Nat × Judged)) (s : State) :
    let u := s.scanned c results
    u.thermal.channels = scanChannels s.clock c results s.thermal.channels ∧
    u.thermal.peers = s.thermal.peers.map (PeerEntry.age s.clock (1000 * c.ageLimit.toNat)) ∧
    u.thermal.scan = none ∧ u.thermal.roles = resolveRoles c u.thermal ∧
    u.line = (s.fillThermal (thermalContent c (scanChannels s.clock c results s.thermal.channels))).line := by
  generalize measured_eq : evaluateSettle s.clock c { s.thermal with
    channels := scanChannels s.clock c results s.thermal.channels
    peers := s.thermal.peers.map (PeerEntry.age s.clock (1000 * c.ageLimit.toNat))
    scan := none
    roles := resolveRoles c { s.thermal with
      channels := scanChannels s.clock c results s.thermal.channels
      peers := s.thermal.peers.map (PeerEntry.age s.clock (1000 * c.ageLimit.toNat))
      scan := none } } = measured
  obtain ⟨channels, peers, roles, scan⟩ := evaluateSettle_leaves s.clock c { s.thermal with
    channels := scanChannels s.clock c results s.thermal.channels
    peers := s.thermal.peers.map (PeerEntry.age s.clock (1000 * c.ageLimit.toNat))
    scan := none
    roles := resolveRoles c { s.thermal with
      channels := scanChannels s.clock c results s.thermal.channels
      peers := s.thermal.peers.map (PeerEntry.age s.clock (1000 * c.ageLimit.toNat))
      scan := none } }
  simp only [measured_eq] at channels peers roles scan
  have thermal : (s.measure c results).thermal = measured := by
    simp only [State.measure, measured_eq]
    split <;> simp
  obtain ⟨soakT, soakL⟩ := (s.measure c results).endSoak_leaves
  have kept : (s.scanned c results).thermal = measured := by
    simp [State.scanned, State.afterSettle, soakT, thermal]
  refine ⟨by rw [kept, channels], by rw [kept, peers], by rw [kept, scan], ?_, ?_⟩
  · rw [kept, roles]
    exact (resolveRoles_congr c channels peers).symm
  · rw [State.scanned, State.afterSettle, State.fillThermal_line (t := s) (by simp [soakL]), soakT, thermal, channels]

@[simp] theorem State.faultStill_soak (r : FaultReport) (s : State) : (s.faultStill r).soak = none := by
  simp [State.faultStill, State.failAll]

/-- Settles O50. -/
theorem scansMeasureTheChannels : Obligations.ScansMeasureTheChannels := by
  unfold Obligations.ScansMeasureTheChannels
  intro since c s config
  refine ⟨fun cadence => ⟨fun flies => ?_, fun idle some_ => ?_, fun idle none => ?_⟩,
    fun reading n left results conf ch scan known channel => ?_, fun results scan => ?_, fun start soak limit => ?_⟩
  · have flies' : s.thermal.scan.isSome = true := by simpa [Option.isSome_iff_ne_none] using flies
    simp [exec, execCadenceTimerExpiry, config, cadence, flies']
  · obtain ⟨first, rest, channels⟩ := List.exists_cons_of_ne_nil some_
    simp [exec, execCadenceTimerExpiry, config, cadence, idle, channels]
  · simp [exec, execCadenceTimerExpiry, config, cadence, idle, none]
  · have ends : exec (.conversionEnd reading) s = .next { s with thermal := { s.thermal with
        channels := updateAt (fun ch => { ch with raw := some reading }) n s.thermal.channels
        scan := some { left := left, results := results ++ [(n, conf.judge reading)] } } } := by
      simp [exec, execConversionEnd, config, scan, known]
    exact ⟨_, ends, by simp [updateAt_getElem?, channel], by rw [conf.judge_eq], rfl, rfl⟩
  · have ends : exec .scanCompletion s = .next (s.scanned c results).finish := by
      simp [exec, execScanCompletion, scan, State.completeScan, config, State.scanned]
    obtain ⟨channels, peers, idle, roles, line⟩ := s.scanned_thermal c results
    have found (n : Nat) (ch : Channel) (known : s.thermal.channels[n]? = some ch) :
        (s.scanned c results).thermal.channels[n]? = some (ch.scanned s.clock c results n) := by
      rw [channels]
      exact scanChannels_get s.clock c results s.thermal.channels n ch known
    refine ⟨_, ends, idle, roles, ⟨fun none => ?_, fun n carries => ?_⟩, by simp [channels], by simp [peers],
      fun n conf ch v good known channel st => ?_, fun n conf ch v f good known channel fresh filtered => ?_,
      fun n ch bad channel fresh limit => ?_, fun n ch since bad channel st begun => ?_, fun n ch bad channel st => ?_,
      fun n ch unread channel st => ?_, fun n e entry => ⟨fun cadence updated fresh own at_ => ?_, fun since st begun => ?_,
        fun st => ?_⟩⟩
    · have nothing : (thermalContent c (scanChannels s.clock c results s.thermal.channels)).carried = [] := by
        rw [List.eq_nil_iff_forall_not_mem]
        rintro ⟨n, st, v⟩ mem
        obtain ⟨⟨lt, present, shared⟩, -⟩ := (thermalContent_mem ..).1 mem
        exact none n ⟨lt, by simpa using present, shared⟩
      rw [line, State.fillThermal_empty _ _ nothing]
      exact ⟨rfl, rfl⟩
    · have carriedAt (k : Nat) (st : ChannelState) (v : Temp) :=
        thermalContent_mem c (scanChannels s.clock c results s.thermal.channels) k st v
      obtain ⟨lt, present, shared⟩ := carries
      have some_ : (thermalContent c (scanChannels s.clock c results s.thermal.channels)).carried ≠ [] := by
        obtain ⟨ch, place⟩ : ∃ ch, (scanChannels s.clock c results s.thermal.channels)[n]? = some ch :=
          ⟨_, List.getElem?_eq_getElem (by simpa using present)⟩
        exact List.ne_nil_of_mem ((carriedAt n ch.st (ch.filtered.getD 0)).2
          ⟨⟨lt, by simpa using present, shared⟩, ch, place, rfl, rfl⟩)
      refine ⟨thermalContent c (scanChannels s.clock c results s.thermal.channels), ?_, rfl, thermalContent_ascends _ _,
        fun k st v => ?_, ?_⟩
      · rw [line, State.fillThermal_filled _ _ some_]
      · rw [channels]
        simpa using carriedAt k st v
      · rw [line, State.fillThermal_filled _ _ some_]
    · rw [found n ch channel, Channel.scanned_seeds good st]
      rfl
    · refine ⟨rateOf c.cadence.toNat ch.history (filterStep conf.shift f v), ?_, rateOf_short _ _ _, fun oldest full first =>
        rateOf_eighth full first⟩
      rw [found n ch channel, Channel.scanned_filters good known fresh filtered]
      rfl
    · rw [found n ch channel, Channel.scanned_standsIn bad fresh limit]
    · rw [found n ch channel, Channel.scanned_unread (bad.imp_left fun b => ⟨b, by simp [st]⟩),
        Channel.ageTo_subst _ since _ _ st begun]
    · rw [found n ch channel, Channel.scanned_unread (bad.imp_left fun b => ⟨b, by simp [st]⟩),
        Channel.ageTo_of_ne_subst _ _ _ (by simp [st])]
    · rw [found n ch channel, Channel.scanned_unread (.inr unread), Channel.ageTo_of_ne_subst _ _ _ st]
    · rw [peers, List.getElem?_map, entry, Option.map_some, PeerEntry.age_fresh _ updated _ cadence e fresh own at_]
      rfl
    · rw [peers, List.getElem?_map, entry, Option.map_some, PeerEntry.age_subst _ since _ e st begun]
    · rw [peers, List.getElem?_map, entry, Option.map_some]
      simp [PeerEntry.age, st]
  · have timed : ¬ c.soakLimit = 0#16 := limit
    refine ⟨(s.reach start (1000 * c.soakLimit.toNat)).faultStill (report .soakTimeout 0 c.soakLimit.toNat), ?_, ?_⟩
    · simp [exec, execSoakLimitExpiry, config, soak, timed]
    · simp [report, State.faultStill_soak]

end Sys2Proof.Machine
end

section
/-! PROOF. Loads, RESTART and the end of the LEAVE wait (R93, R170, R177 to R180). -/

namespace Sys2Proof.Machine

open Sys2Proof

/-! ## The end of a load -/

/-- The four judgements of a load (R177). -/
theorem imageOf_eq_none (memory : List Byte) :
    imageOf memory = none ↔
      let m := readMemory 706 memory
      wordAt m 0 ≠ 0x5201 ∨ wordAt m 2 ≠ 706 ∨ crc32 (m.take 702) ≠ longAt m 702 ∨ imageFields m = none := by
  rw [imageOf]
  generalize readMemory 706 memory = m
  rw [imageIntact]
  dsimp only
  simp only [ite_eq_right_iff, Bool.and_eq_true, beq_iff_eq]
  grind

/-- The line controller and the head as the first load finds them (R98, R178). -/
def State.loadTaken (image : Option Image) (format : BitVec 16) (head : Bool) (slots : SlotSet) (s : State) : State :=
  let t := { s with setup := { s.setup with
    load := if image.isSome then .loaded else .fault, image := image, format := format } }
  let t := if t.line.active then t else t.startSensing head slots
  { t with line := { t.line with active := true, presenceTimer := some t.clock } }

theorem State.loadTaken_leaves (image : Option Image) (format : BitVec 16) (head : Bool) (slots : SlotSet) (s : State) :
    let t := s.loadTaken image format head slots
    t.setup = { s.setup with load := if image.isSome then .loaded else .fault, image := image, format := format } ∧
    t.line.active = true ∧ t.line.presenceTimer = some s.clock ∧ t.clock = s.clock ∧ t.join = s.join ∧
    (s.line.active = false → t.head.seated = head ∧ t.mounted = .none ∧ t.head.idRead.isSome = (head || s.head.idRead.isSome)) := by
  cases active : s.line.active <;> cases head <;>
    simp [State.loadTaken, active, State.startSensing, State.requestRead]

/-- A load that ends (R177). -/
theorem exec_configLoadEnd (memory : List Byte) (head : Bool) (slots : SlotSet) {s : State} (reading : s.setup.load = .reading) :
    exec (.configLoadEnd memory head slots) s =
      .next (s.loadEnded (imageOf memory) (wordAt (readMemory 2 memory) 0) head slots) := by
  show execConfigLoadEnd memory head slots s = _
  rw [execConfigLoadEnd, if_pos (by simp [reading])]

theorem State.loadEnded_some (c : Image) (format : BitVec 16) (head : Bool) (slots : SlotSet) (s : State) :
    s.loadEnded (some c) format head slots = (s.loadTaken (some c) format head slots).takeImage c := rfl

theorem State.loadEnded_none (format : BitVec 16) (head : Bool) (slots : SlotSet) (s : State) :
    s.loadEnded none format head slots = (s.loadTaken none format head slots).takeNoImage := rfl

/-- What O7 says of the end of a load, of what it judged and as what. -/
theorem State.loadEnded_ends (image : Option Image) (format : BitVec 16) (head : Bool) (slots : SlotSet) (s : State) :
    let t := s.loadEnded image format head slots
    t.line.active = true ∧
      t.line.presenceTimer = some s.clock ∧ t.setup.straps = s.setup.straps ∧ t.setup.image = image ∧
      (s.line.active = false → t.head.seated = head ∧ t.mounted = .none ∧ t.head.idRead.isSome = (head || s.head.idRead.isSome)) ∧
      (∀ c, image = some c →
        t.setup.load = .loaded ∧ t.arm.standing = c.powerOnStanding ∧ t.events.mask = c.eventMask ∧
        t.cap.level = c.reportLevel ∧ t.cap.timeout = c.reportTimeout ∧
        t.probes.map (·.defined) = c.probeDefs ∧ (∀ r ∈ t.probes, r.qual = .unqualified ∧ r.data = none) ∧
        t.thermal.cadence = some s.clock ∧ (s.join.st = .listening → t.join.window = some s.clock)) ∧
      (image = none →
        t.setup.load = .fault ∧ t.arm.standing = 0 ∧ t.probes = [] ∧ t.thermal.cadence = none ∧
        (∀ c ∈ t.thermal.channels, c.st = .off) ∧ t.join.window = none) := by
  obtain ⟨setup, active, timer, clock, join, sensed⟩ := s.loadTaken_leaves image format head slots
  cases image with
  | some c =>
    dsimp only
    rw [State.loadEnded_some]
    generalize s.loadTaken (some c) format head slots = t at *
    have fields : (t.takeImage c).setup = t.setup := rfl
    rw [fields, setup]
    refine ⟨active, timer, rfl, rfl, sensed, fun c' is => ?_, fun is => absurd is (by simp)⟩
    obtain rfl := Option.some.inj is
    simp +contextual [State.takeImage, setup, clock, join, Thermal.ofImage, ProbeDef.record, Function.comp_def]
  | none =>
    dsimp only
    rw [State.loadEnded_none]
    generalize s.loadTaken none format head slots = t at *
    have fields : t.takeNoImage.setup = t.setup := rfl
    rw [fields, setup]
    refine ⟨active, timer, rfl, rfl, sensed, fun c is => absurd is (by simp), fun _ => ?_⟩
    simp [State.takeNoImage, setup, Thermal.cold, Channel.off]

/-- Settles O7. -/
theorem loadEndsAsTheImageIsJudged : Obligations.LoadEndsAsTheImageIsJudged := by
  unfold Obligations.LoadEndsAsTheImageIsJudged
  intro memory head slots s reading
  obtain ⟨active, timer, straps, image, sensed, good, bad⟩ :=
    s.loadEnded_ends (imageOf memory) (wordAt (readMemory 2 memory) 0) head slots
  exact ⟨_, exec_configLoadEnd memory head slots reading, active, timer, straps, image, sensed, good, bad,
    (imageOf_eq_none memory).symm⟩

end Sys2Proof.Machine
end

section
/-! PROOF. RESTART and the end of the LEAVE wait (R93, R170, R180). -/

namespace Sys2Proof.Machine

open Sys2Proof

/-! ## The blocks at their RESTART values -/

theorem State.restartBlocks_axis (a : AxisName) (s : State) :
    let p := if s.arm.shadow then (vget s.axes a).scale else (vget s.axes a).pos
    vget s.restartBlocks.axes a = { vget s.axes a with pos := p, setpoint := p } := by
  cases shadow : s.arm.shadow <;> simp [State.restartBlocks, shadow, State.restartCapture, State.leaveShadow_axes]

theorem State.restartBlocks_still (s : State) :
    let t := s.restartBlocks
    t.arm.st = .off ∧ t.arm.energized = false ∧ t.arm.motion = none ∧ t.arm.shadow = false ∧ t.setpoints = t.positions := by
  obtain ⟨off, cut, motion, -⟩ := s.restartBlocks_arm
  refine ⟨off, cut, motion, ?_, ?_⟩
  · cases shadow : s.arm.shadow <;> simp [State.restartBlocks, shadow, State.restartCapture]
  · refine vec3_ext fun a => ?_
    simp [State.setpoints, State.positions, s.restartBlocks_axis a]

/-- What the RESTART tables set anew (R93, R170). -/
theorem State.restartBlocks_empties (s : State) :
    let t := s.restartBlocks
    t.run = Run.cold ∧ t.table = none ∧ t.agent.current = none ∧ t.agent.retired = none ∧ t.qual = none ∧ t.soak = none ∧
    t.chg.change = none ∧ t.lastFault = none ∧ t.cap.ring = [] ∧ t.cap.counter = s.cap.counter ∧
    t.line = { s.line.emptied with presenceTimer := some s.clock } ∧
    (∀ e ∈ t.events.slots, e.pending = none) ∧ t.events.address = none ∧
    (∀ c, s.config = some c → t.events.mask = c.eventMask ∧ t.cap.level = c.reportLevel) := by
  cases shadow : s.arm.shadow <;>
    simp +contextual [State.restartBlocks, shadow, State.restartCapture, EventSet.cold, State.config]

/-- What the RESTART tables leave alone (R93, R170). -/
theorem State.restartBlocks_leaves (s : State) :
    let t := s.restartBlocks
    t.setup = s.setup ∧ t.clock = s.clock ∧ t.join = s.join ∧ t.part = s.part ∧ t.probes = s.probes ∧ t.thermal = s.thermal ∧
    t.rack = s.rack ∧ t.head = s.head := by
  cases shadow : s.arm.shadow <;> simp [State.restartBlocks, shadow, State.restartCapture]

/-- The join unit behind the LEAVE wait (R93): LISTENING with a fresh window, but for a QUIET station. -/
def State.joinAfterWait (s : State) : Join :=
  if s.join.st = .quiet then { s.join with leaveWait := none }
  else { Join.cold with window := if s.setup.load = .loaded then some s.clock else none }

theorem State.endLeaveWait_eq (s : State) : s.endLeaveWait = { s.restartBlocks with join := s.joinAfterWait } := by
  obtain ⟨setup, clock, join, -⟩ := s.restartBlocks_leaves
  by_cases quiet : s.join.st = .quiet
  · simp [State.endLeaveWait, State.joinAfterWait, quiet, join]
  · simp [State.endLeaveWait, State.joinAfterWait, State.enterListening, quiet, join, Join.cold]

/-- Settles O9. -/
theorem leaveWaitEndResetsTheBlocks : Obligations.LeaveWaitEndResetsTheBlocks := by
  unfold Obligations.LeaveWaitEndResetsTheBlocks
  intro since s waits gone
  have ends : exec .leaveWaitEnd s = .next (if s.leaveAccepted then s else s.reach since 50).endLeaveWait := by
    simp [exec, execLeaveWaitEnd, waits, gone]
  generalize before_eq : (if s.leaveAccepted then s else s.reach since 50) = before at ends
  have facts : before.join = s.join ∧ before.setup = s.setup ∧ before.axes = s.axes ∧ before.cap = s.cap ∧ before.part = s.part ∧
      before.probes = s.probes ∧ before.thermal = s.thermal := by
    subst before_eq
    split <;> simp
  obtain ⟨same_join, same_setup, same_axes, same_cap, same_part, same_probes, same_thermal⟩ := facts
  obtain ⟨off, cut, motion, shadow, level⟩ := before.restartBlocks_still
  obtain ⟨run, table, current, retired, qual, soak, change, fault, ring, counter, line, pending, address, mask⟩ :=
    before.restartBlocks_empties
  obtain ⟨-, clock, -, part, probes, thermal, -⟩ := before.restartBlocks_leaves
  have loaded : ∀ c, s.config = some c → before.config = some c := by simp [State.config, same_setup]
  rw [State.endLeaveWait_eq] at ends
  refine ⟨_, ends, ?_, ?_, ?_, off, cut, motion, shadow, level, run, table, current, retired, qual, soak, change, fault, ?_, ?_, ?_, ?_,
    ring, counter.trans (by rw [same_cap]), part.trans same_part, probes.trans same_probes, thermal.trans same_thermal, pending, address,
    fun c config => mask c (loaded c config), fun a => ?_⟩
  · by_cases quiet : s.join.st = .quiet <;> simp [State.joinAfterWait, same_join, quiet, Join.cold]
  · intro quiet
    simp [State.joinAfterWait, same_join, quiet]
  · intro loud
    simp +contextual [State.joinAfterWait, same_join, loud, same_setup, Join.cold]
  · simp [line, Line.emptied, Line.detached]
  · simp [line, Line.emptied, Line.detached]
  · simp [line, Line.emptied]
  · simp [line, Line.emptied, Line.detached]
  · simp [before.restartBlocks_axis a, same_axes]

/-! ## RESTART -/

/-- A command that CONFIG_FAULT lets through, from whom it may be (R184). -/
theorem State.command_inFault {s : State} {sender : Station} (kind : Nat) (own : State → Taken) (receives : s.receives sender = true)
    (free : s.line.m3 = none) (fault : s.setup.load = .fault) (silent : (own (s.heard sender true)).2 = none) :
    s.command sender kind true true own = (own (s.heard sender true)).1 := by
  simp [State.command, receives, free, State.commandTest, fault, silent]

theorem exec_restart_listens {sender : Station} {s : State} (listens : s.listensTo sender = true)
    (allowed : (s.heard sender true).restartAllowed = true) :
    exec (.restart sender []) s = .next (s.heard sender true).leaveCell.finish := by
  have loaded : s.setup.load = .loaded := by simp_all [State.listensTo]
  show execRestart sender [] s = _
  simp [execRestart, State.command_listens _ _ _ listens, State.takeRestart, loaded, allowed]

/-- The state behind a waiting pulse that is discarded (R100): only what the windows of a change judge moves. -/
theorem State.discardWaiting_leaves (s : State) :
    let d := s.discardWaiting
    d.line = s.line ∧ d.join = s.join ∧ d.run = s.run ∧ d.arm = s.arm ∧ d.clock = s.clock ∧ d.head.waiting = none ∧
    d.head.pulse = s.head.pulse ∧ (s.chg.closing = [] → d = { s with head := { s.head with waiting := none } }) := by
  obtain ⟨-, pulse, waiting, -⟩ := State.closeWindows_head ({ s with head := { s.head with waiting := none } } : State)
  refine ⟨by simp [State.discardWaiting], by simp [State.discardWaiting], by simp [State.discardWaiting], by simp [State.discardWaiting],
    by simp [State.discardWaiting], waiting, pulse, fun none => ?_⟩
  exact State.closeWindows_of_none none

/-- RESTART leaves the cell without an excursion (R93). -/
theorem State.leaveCell_idle {s : State} (idle : s.run.stack = []) (room : s.line.m1.length < 8) :
    s.leaveCell = { s.discardWaiting with
      line := { s.discardWaiting.line with m1 := s.line.m1 ++ [.leave] }
      join := { s.discardWaiting.join with leaveWait := some s.clock } } := by
  have line := s.discardWaiting_leaves.1
  have room' : s.discardWaiting.line.m1.length < 8 := by simpa [line] using room
  simp [State.leaveCell, idle, State.pushM1_room room']

/-- A stop without a run leaves none, and no soak probing (R32). -/
theorem State.stopAll_idle (why : RunEndReason) (b : Byte) {s : State} (idle : s.run.st = .none) (free : s.stopGoverns = false) :
    (s.stopAll why b).run.st = .none ∧ (s.stopAll why b).soak = none := by
  have soak : s.abortAll.soak = none := by simp [State.abortAll, State.discardExcursions]
  simp [State.stopAll, free, idle, State.flushUnrun, soak]

/-- A lock pulse that waited no longer says what a stop finds. -/
theorem State.discardWaiting_stopGoverns (s : State) : s.discardWaiting.stopGoverns = s.stopGoverns := by
  simp [State.discardWaiting, State.stopGoverns]

/-- What joins M1 is its tail, unless it finds it full (R60). -/
theorem State.pushM1_last (e : M1Entry) (s : State) :
    (s.pushM1 e).detachDue = none → (s.pushM1 e).line.m1.getLast? = some e := by
  unfold State.pushM1
  split <;> simp

/-- RESTART leaves the cell and first aborts a stand-alone excursion, as STOP does (R93). -/
theorem State.leaveCell_excursion {s : State} (idle : s.run.st = .none) (away : s.run.stack ≠ []) (free : s.stopGoverns = false) :
    let u := s.leaveCell
    u.run.stack = [] ∧ u.run.st = .none ∧ u.chg.change = none ∧ u.qual = none ∧ u.soak = none ∧
      u.join.leaveWait = some s.clock ∧ u.line.m3 = s.line.m3 ∧ (u.detachDue = none → u.line.m1.getLast? = some .leave) := by
  obtain ⟨-, -, run, -, -, -⟩ := s.discardWaiting_leaves
  have leaves : s.leaveCell = { (s.discardWaiting.stopAll .stopped 0).pushM1 .leave with
      join := { s.discardWaiting.join with leaveWait := some s.clock } } := by
    simp [State.leaveCell, away]
  have idle' : s.discardWaiting.run.st = .none := by rw [run, idle]
  have free' : s.discardWaiting.stopGoverns = false := s.discardWaiting_stopGoverns.trans free
  obtain ⟨-, stack, -, change, qual, -⟩ := State.stopAll_ends .stopped 0 free' (by decide)
  obtain ⟨none, soak⟩ := State.stopAll_idle .stopped 0 idle' free'
  rw [leaves]
  exact ⟨by simpa using stack, by simpa using none, by simpa using change, by simpa using qual, by simpa using soak, rfl,
    by simp, State.pushM1_last _ _⟩

/-- A RESTART that finds a run, or the arm in a referencing, is answered STATE (R170). -/
theorem State.restartAllowed_eq_false {s : State}
    (busy : s.run.st ≠ .none ∨ (s.run.stack = [] ∧ s.arm.st ≠ .off ∧ s.arm.st ≠ .still)) : s.restartAllowed = false := by
  obtain run | ⟨base, off, still⟩ := busy
  · simp [State.restartAllowed, run]
  · simp [State.restartAllowed, base, off, still]

/-- What a RESTART in CONFIG_FAULT leaves (R180). -/
theorem State.reload_leaves (s : State) :
    let t := s.reload
    t.setup = { s.setup with load := .reading, image := none } ∧
      t.line = { s.line.emptied with presenceTimer := none } ∧ (∀ e ∈ t.events.slots, e.pending = none) ∧ t.run = Run.cold ∧
      t.arm.st = .off ∧ t.table = none ∧ t.join = { s.join with window := none } ∧ t.rack = s.rack ∧ t.head = s.head ∧
      (∀ a, (vget t.axes a).count = (vget s.axes a).count) := by
  obtain ⟨off, -⟩ := s.restartBlocks_still
  obtain ⟨run, table, -, -, -, -, -, -, -, -, line, pending, -⟩ := s.restartBlocks_empties
  obtain ⟨setup, -, join, -, -, -, rack, head⟩ := s.restartBlocks_leaves
  refine ⟨?_, ?_, pending, run, off, table, ?_, rack, head, fun a => ?_⟩
  · simp [State.reload]
  · simp [State.reload, line]
  · simp [State.reload, join]
  · simp [State.reload, s.restartBlocks_axis a]

theorem exec_restart_inFault {sender : Station} {s : State} (receives : s.receives sender = true) (free : s.line.m3 = none)
    (fault : s.setup.load = .fault) : exec (.restart sender []) s = .next (s.heard sender true).reload := by
  have taken : (s.heard sender true).takeRestart = ((s.heard sender true).reload, none) := by simp [State.takeRestart, fault]
  have outcome := State.command_inFault (own := State.takeRestart) 0x2F receives free fault (by rw [taken])
  exact congrArg _ (outcome.trans (by rw [taken]))

/-- Settles O8. -/
theorem restartQueuesTheLeave : Obligations.RestartQueuesTheLeave := by
  unfold Obligations.RestartQueuesTheLeave
  refine ⟨fun sender s listens => ⟨fun idle still base room => ?_, fun idle away free => ?_, fun busy => ?_⟩,
    fun sender s receives free fault => ?_⟩
  · obtain ⟨line, -, -, -, -, waiting, pulse, shut⟩ := (s.heard sender true).discardWaiting_leaves
    refine ⟨?_, waiting, by simpa using pulse, line, by simpa using shut⟩
    rw [exec_restart_listens listens (by simpa [State.restartAllowed, idle] using Or.inl still)]
    rw [State.leaveCell_idle (by simpa using base) (by simpa using room)]
    simp
  · refine ⟨_, exec_restart_listens listens (by simp [State.restartAllowed, idle, away]), ?_⟩
    have free' : (s.heard sender true).stopGoverns = false := by simpa using free
    have facts := State.leaveCell_excursion (s := s.heard sender true) (by simpa using idle) (by simpa using away) free'
    have none : s.line.m3 = none := by simp_all [State.listensTo]
    simpa [none] using facts
  · have refused : (s.heard sender true).restartAllowed = false := State.restartAllowed_eq_false (by simpa using busy)
    have loaded : s.setup.load = .loaded := by simp_all [State.listensTo]
    exact congrArg _ (State.command_answer 0x2F true listens (by simp [State.takeRestart, refused, loaded]))
  · obtain ⟨setup, line, pending, run, off, table, join, rack, head, counts⟩ := (s.heard sender true).reload_leaves
    have active : s.line.active = true := by simp_all [State.receives]
    refine ⟨_, exec_restart_inFault receives free fault, by simpa using setup, ?_⟩
    simp [line, Line.emptied, Line.detached, active, run, off, table, join, head, counts]
    exact pending

end Sys2Proof.Machine
end

section
/-! PROOF. Founding and attaching (R81, R89, R90). -/

namespace Sys2Proof.Machine

open Sys2Proof

/-! ## Entering ATTACHED -/

@[simp] theorem State.checkMounted_frame (s : State) :
    s.checkMounted.setup = s.setup ∧ s.checkMounted.clock = s.clock ∧ s.checkMounted.detachDue = s.detachDue ∧
    s.checkMounted.axes = s.axes ∧ s.checkMounted.arm = s.arm ∧ s.checkMounted.run = s.run ∧ s.checkMounted.chg = s.chg ∧
    s.checkMounted.qual = s.qual ∧ s.checkMounted.soak = s.soak ∧ s.checkMounted.line = s.line ∧ s.checkMounted.join = s.join ∧
    s.checkMounted.table = s.table ∧ s.checkMounted.agent = s.agent ∧ s.checkMounted.head = s.head ∧
    s.checkMounted.trig = s.trig ∧ s.checkMounted.cap = s.cap ∧ s.checkMounted.part = s.part ∧
    s.checkMounted.thermal = s.thermal ∧ s.checkMounted.events = s.events ∧ s.checkMounted.rack = s.rack := by
  unfold State.checkMounted
  split <;> simp

/-- The rack host's comparison moves M1 alone, or finds it full (R117). -/
@[simp] theorem State.reportRack_frame (s : State) :
    s.reportRack.setup = s.setup ∧ s.reportRack.clock = s.clock ∧
    s.reportRack.axes = s.axes ∧ s.reportRack.arm = s.arm ∧ s.reportRack.run = s.run ∧ s.reportRack.chg = s.chg ∧
    s.reportRack.qual = s.qual ∧ s.reportRack.soak = s.soak ∧ s.reportRack.join = s.join ∧
    s.reportRack.table = s.table ∧ s.reportRack.agent = s.agent ∧ s.reportRack.head = s.head ∧
    s.reportRack.trig = s.trig ∧ s.reportRack.cap = s.cap ∧ s.reportRack.part = s.part ∧
    s.reportRack.thermal = s.thermal ∧ s.reportRack.events = s.events ∧ s.reportRack.rack = s.rack := by
  unfold State.reportRack State.queueSlotSense
  (repeat' split) <;> simp

@[simp] theorem State.reportRack_sameLine (s : State) : sameLine s s.reportRack := by
  unfold State.reportRack State.queueSlotSense
  (repeat' split) <;> simp [State.rewriteM1, sameLine]

/-- The rack host's presences join an empty M1 when they differ from the table (R117). -/
theorem State.reportRack_alone {t : Table} {s : State} (table : s.table = some t) (differs : t.differsFrom s.rack = true)
    (empty : s.line.m1 = []) :
    s.reportRack.line.m1 = if s.setup.straps.rackHost then [.slotSense s.rack] else [] := by
  cases host : s.setup.straps.rackHost <;>
    simp [State.reportRack, table, host, differs, State.queueSlotSense, State.waitsInM1, State.pushM1, empty]

/-- The station as it stands ATTACHED, before it acts on its conflict set (R89, R117). -/
def State.attaching (t : Table) (s : State) : State :=
  ((({ s with join := { Join.cold with st := .attached, leaveWait := s.join.leaveWait } } : State).startTiming t).emit
    .attach).checkMounted.reportRack

theorem State.becomeAttached_eq (t : Table) (s : State) :
    s.becomeAttached t =
      if (t.entry s.me).conflict = 0 then s.attaching t
      else ((s.attaching t).deenergize.request .conflict (zoneItems (t.entry s.me).conflict)).1 := by
  have me : (s.attaching t).me = s.me := by simp [State.attaching, State.me, State.startTiming]
  rw [← me]
  simp only [State.becomeAttached, beq_iff_eq]
  rfl

theorem State.attaching_leaves (t : Table) (s : State) :
    let u := s.attaching t
    u.setup = s.setup ∧ u.clock = s.clock ∧ u.axes = s.axes ∧ u.arm = s.arm ∧ u.run = s.run ∧ u.cap = s.cap ∧ u.agent = s.agent ∧
    u.table = s.table ∧ u.part = s.part ∧ u.thermal = s.thermal ∧ u.rack = s.rack ∧
    u.join = { Join.cold with st := .attached, leaveWait := s.join.leaveWait } ∧ u.line.heardAny = some s.clock ∧
    u.line.awaiting = s.line.awaiting ∧ u.line.m2 = s.line.m2 := by
  simp [State.attaching, State.startTiming]

theorem State.attaching_shows (t : Table) {s : State} (mask : s.events.mask.getLsbD 10 = true)
    (length : s.events.slots.length = 12) :
    ∃ slot, (s.attaching t).events.slots[10]? = some slot ∧ slot.pending = some .attach := by
  obtain ⟨slot, place, pending⟩ := State.emit_slot .attach (State.startTiming t
    { s with join := { Join.cold with st := .attached, leaveWait := s.join.leaveWait } }) mask length
  have same : (s.attaching t).events = (State.emit .attach (State.startTiming t
      { s with join := { Join.cold with st := .attached, leaveWait := s.join.leaveWait } })).events := by simp [State.attaching]
  exact ⟨slot, by rw [same]; exact place, pending⟩

/-! ## The founder's table -/

theorem Table.found_entry (p n : Station) (f : JoinFields) :
    (Table.found p f).entry n = if n = p then f.entry .attached 0 else RosterEntry.initial := by
  have inside : n.val < 8 := n.isLt
  simp only [Table.entry, Table.found, Table.initial, List.getD_eq_getElem?_getD, updateAt_getElem?, Fin.val_inj]
  split <;> simp [inside, -List.reduceReplicate]

theorem Table.found_holder (p : Station) (f : JoinFields) {i : Nat} (small : i < 24) :
    (Table.found p f).holder i = if i < 16 ∧ f.standing.getLsbD i = true then .station p else .free := by
  have zones : (zoneItems f.standing).getLsbD i = decide (i < 16 ∧ f.standing.getLsbD i = true) := by
    simp only [zoneItems, BitVec.getLsbD_setWidth, small, decide_true, Bool.true_and]
    by_cases bit : f.standing.getLsbD i = true
    · simp [bit, BitVec.lt_of_getLsbD bit]
    · simp [bit]
  simp only [Table.holder, Table.found, Table.initial, List.getD_eq_getElem?_getD, mapFrom_getElem?, Nat.zero_add, zones]
  simp [small, -List.reduceReplicate]

theorem Table.found_differs (p : Station) (f : JoinFields) (presences : SlotSet) :
    (Table.found p f).differsFrom presences = true := by
  simp only [Table.differsFrom, Table.found, Table.initial, List.replicate, mapFrom]
  cases presences.getLsbD 0 <;> simp

theorem exec_foundingJoin {fields : JoinFields} {s : State} (awaits : s.line.awaiting = some (.join fields))
    (founding : fields.founding = true) (bare : s.table = none) (loud : s.join.st ≠ .quiet) :
    exec .foundingJoin s = .next (({ s with line := { s.line with awaiting := none } } : State).found fields).finish := by
  simp [exec, execFoundingJoin, State.ownFounding, awaits, foundingFields, founding, State.share, State.ownReady, State.applyOwn, bare,
    loud]

/-- Settles O41. -/
theorem foundingJoinBuildsTheTable : Obligations.FoundingJoinBuildsTheTable := by
  unfold Obligations.FoundingJoinBuildsTheTable
  intro fields s awaits founding bare listening
  let table := Table.found s.me fields
  have ends := exec_foundingJoin awaits founding bare (by simp [listening])
  generalize before_eq : ({ s with line := { s.line with awaiting := none }, table := some table } : State) = before
  have found : ({ s with line := { s.line with awaiting := none } } : State).found fields = before.attaching table := by
    have me : before.me = s.me := by subst before_eq; rfl
    have peaceful : (table.entry before.me).conflict = 0 := by simp [me, table, Table.found_entry, JoinFields.entry]
    rw [← if_pos (t := before.attaching table) peaceful, ← State.becomeAttached_eq]
    subst before_eq
    rfl
  rw [found] at ends
  have facts : before.setup = s.setup ∧ before.clock = s.clock ∧ before.axes = s.axes ∧ before.arm = s.arm ∧ before.run = s.run ∧
      before.cap = s.cap ∧ before.agent = s.agent ∧ before.table = some table ∧ before.rack = s.rack ∧
      before.line = { s.line with awaiting := none } ∧ before.events = s.events := by
    subst before_eq
    simp
  obtain ⟨same_setup, same_clock, same_axes, same_arm, same_run, same_cap, same_agent, tabled, same_rack, line, same_events⟩ := facts
  obtain ⟨setup, clock, axes, arm, run, cap, agent, same_table, -, -, -, join, heard, awaiting, -⟩ := before.attaching_leaves table
  refine ⟨_, table, ends, same_table.trans tabled, by simp [join], rfl, rfl, rfl, ?_, fun n other => ?_, fun i small => ?_,
    by rw [heard, same_clock], by rw [awaiting, line], arm.trans same_arm, run.trans same_run, axes.trans same_axes,
    setup.trans same_setup, cap.trans same_cap, agent.trans same_agent, fun empty => ?_, fun mask length => ?_⟩
  · simp [table, Table.found_entry, JoinFields.entry]
  · simp [table, Table.found_entry, other, RosterEntry.initial]
  · exact Table.found_holder _ _ small
  · rw [← same_setup, ← same_rack]
    refine Eq.trans (State.reportRack_alone (t := table) ?_ ?_ ?_) ?_
    · simp [State.startTiming, tabled]
    · exact Table.found_differs _ _ _
    · simp [State.startTiming, line, empty]
    · simp [State.startTiming]
  · exact State.attaching_shows table (by simpa [same_events] using mask) (by simpa [same_events] using length)

end Sys2Proof.Machine
end

section
/-! PROOF. Snapshot parts and PRESENCE frames (R63, R80, R86 to R88). -/

namespace Sys2Proof.Machine

open Sys2Proof

/-! ## Snapshot parts -/

theorem collectPart_of_same {held : List SnapshotPart} {part : SnapshotPart} (same : ∀ q ∈ held, q.seq = part.seq) :
    collectPart held part = held.filter (fun q => q.number != part.number) ++ [part] := by
  have all : held.all (fun q => q.seq == part.seq) = true := by simpa using same
  rw [collectPart, if_pos all]

theorem collectPart_of_other {held : List SnapshotPart} {part : SnapshotPart} (other : ∃ q ∈ held, q.seq ≠ part.seq) :
    collectPart held part = [part] := by
  have mixed : ¬ held.all (fun q => q.seq == part.seq) = true := by simpa using other
  rw [collectPart, if_neg mixed]

/-- What a station hears of a frame changes nothing that the join unit looks at. -/
@[simp] theorem State.heard_join (p : Station) (w : Bool) (s : State) :
    (s.heard p w).join.logging = s.join.logging ∧ (s.heard p w).join.parts = s.join.parts ∧
    (s.heard p w).m1OnLine = s.m1OnLine ∧ (s.heard p w).holdsJoin = s.holdsJoin := by
  refine ⟨?_, ?_, by simp [State.m1OnLine], by simp [State.holdsJoin]⟩ <;> unfold State.heard <;> split <;> rfl

/-- The state behind an adoption (R82, R87). -/
theorem State.adopt_ends (t : Table) {s : State} (room : s.line.m1.length < 8) :
    let u := s.adopt t
    u.join = { Join.cold with st := .joining, leaveWait := s.join.leaveWait } ∧ u.table = some t ∧
      u.line.m1 = s.line.m1 ++ [.attach] := by
  simp [State.adopt, State.pushM1_room, room]

theorem exec_snapshot {p : Station} {part : SnapshotPart} {s : State} (active : s.line.active = true) (other : p ≠ s.me) :
    exec (.snapshot p part) s = .next
      (if s.join.st = .joining ∧ s.table = none ∧ s.join.logging = true then ((s.heard p true).collect part).finish
       else s.heard p true) := by
  show execSnapshot p part s = _
  simp only [execSnapshot, State.receives, active, bne_iff_ne.mpr other]
  by_cases collects : s.join.st = .joining ∧ s.table = none ∧ s.join.logging = true
  · obtain ⟨joining, bare, logs⟩ := collects
    simp [joining, bare, logs]
  · rw [if_neg collects]
    simp only [Classical.not_and_iff_not_or_not] at collects
    rcases collects with h | h | h <;> simp [h]

/-- Settles O42. -/
theorem snapshotPartsAreCollectedAndAdopted : Obligations.SnapshotPartsAreCollectedAndAdopted := by
  unfold Obligations.SnapshotPartsAreCollectedAndAdopted
  refine ⟨fun held part => ⟨collectPart_of_other, fun same => ?_⟩, fun p part s active other => ⟨fun apart => ?_,
    fun joining logs bare => ?_⟩⟩
  · rw [collectPart_of_same same]
    refine ⟨by simp [List.filter_filter], fun n ne => ?_⟩
    have apart : (part.number == n) = false := by simpa using Ne.symm ne
    rw [List.filter_append, List.filter_filter, List.filter_cons_of_neg (by simp [apart]), List.filter_nil, List.append_nil]
    refine List.filter_congr fun q _ => ?_
    by_cases own : q.number = n <;> simp [own, ne]
  · rw [exec_snapshot active other, if_neg (by rcases apart with h | h | h <;> simp [h])]
  · have goes : exec (.snapshot p part) s = .next ((s.heard p true).collect part).finish := by
      rw [exec_snapshot active other, if_pos ⟨joining, bare, logs⟩]
    refine ⟨fun spells => ?_, fun tbl cause spells place => ?_, fun tbl cause place spells found room => ?_⟩
    · rw [goes, State.collect]
      simp [spells]
    · rw [goes, State.collect]
      simp [spells, place]
    · have adopts : (s.heard p true).collect part = ((s.heard p true).substituteReadings (leavers s.clock s.join.presences place
          (s.join.log.drop place) tbl)).adopt (replay s.clock s.join.presences place (s.join.log.drop place) tbl) := by
        simp [State.collect, spells, found]
      obtain ⟨join, table, m1⟩ := State.adopt_ends (replay s.clock s.join.presences place (s.join.log.drop place) tbl)
        (s := (s.heard p true).substituteReadings (leavers s.clock s.join.presences place (s.join.log.drop place) tbl))
        (by simpa [State.substituteReadings] using room)
      rw [← adopts] at join table m1
      exact ⟨_, goes, by simp [join], by simp [join, Join.cold], by simp [join, Join.cold], by simp [join, Join.cold],
        by simp [join, Join.cold], table, by simpa [State.substituteReadings] using m1⟩

/-! ## PRESENCE -/

theorem Table.updateEntry_same {t : Table} {p : Station} (f : RosterEntry → RosterEntry) (inside : p.val < t.roster.length) :
    (t.updateEntry p f).entry p = f (t.entry p) := by
  simp only [Table.updateEntry, Table.entry, List.getD_eq_getElem?_getD, updateAt_getElem?]
  simp [inside]

theorem Table.updateEntry_other {t : Table} {p n : Station} (f : RosterEntry → RosterEntry) (other : n ≠ p) :
    (t.updateEntry p f).entry n = t.entry n := by
  simp [Table.updateEntry, Table.entry, updateAt_getElem?, Fin.val_inj, other]

theorem Table.publish_of_inCell {t : Table} {p : Station} (z : ZoneSet)
    (inCell : (t.entry p).state = .joining ∨ (t.entry p).state = .attached) (inside : p.val < t.roster.length) :
    ((t.publish p z).entry p).published = z ∧ ∀ n : Station, n ≠ p → (t.publish p z).entry n = t.entry n := by
  have shown : (t.entry p).state.inCell = true := by rcases inCell with inCell | inCell <;> simp [inCell, RosterState.inCell]
  have writes : t.publish p z = t.updateEntry p (fun r => { r with published := z }) := if_pos shown
  rw [writes]
  exact ⟨by rw [Table.updateEntry_same _ inside], fun n other => Table.updateEntry_other _ other⟩

theorem Table.publish_of_gone {t : Table} {p : Station} (z : ZoneSet)
    (gone : (t.entry p).state = .absent ∨ (t.entry p).state = .lost) : t.publish p z = t := by
  rcases gone with gone | gone <;> simp [Table.publish, gone, RosterState.inCell]

theorem State.heard_window (p : Station) (w : Bool) {s : State} (listening : s.join.st = .listening) (loaded : s.setup.load = .loaded) :
    (s.heard p w).join.window = if w then some s.clock else s.join.window := by
  simp [State.heard, listening, loaded]

theorem exec_presence {p : Station} {fields : PresenceFields} {s : State} (active : s.line.active = true) (other : p ≠ s.me) :
    exec (.presence p fields) s =
      .next ((s.heard p (fields.join != .listening)).presenceRecorded p fields.standing fields.join).finish := by
  simp [exec, execPresence, State.receives, active, other]

/-- A PRESENCE that shows a cell to a LISTENING station whose M1 holds no JOIN, or one JOIN that waits (R80). -/
theorem State.heardCell_alone {s : State} (loaded : s.setup.load = .loaded)
    (m1 : s.line.m1 = [] ∨ ∃ mark, s.line.m1 = [.join mark] ∧ s.m1OnLine = false) :
    s.heardCell = { s with line := { s.line with m1 := [.join false] } } := by
  rcases m1 with empty | ⟨mark, waits, idle⟩
  · simp [State.heardCell, loaded, State.holdsJoin, empty, State.pushM1]
  · simp [State.heardCell, loaded, State.holdsJoin, waits, State.rewriteM1, idle, rewriteFirst, M1Entry.isJoin]

theorem State.presenceRecorded_alone {shown : JoinShown} {s : State} (n : Station) (z : ZoneSet)
    (shows : shown = .joining ∨ shown = .attached ∨ shown = .joinConflict) (loaded : s.setup.load = .loaded)
    (bare : s.table = none) (listening : s.join.st = .listening)
    (m1 : s.line.m1 = [] ∨ ∃ mark, s.line.m1 = [.join mark] ∧ s.m1OnLine = false) :
    s.presenceRecorded n z shown = { s with
      join := { s.join with image := s.join.image.map (fun t => t.publish n z) }, line := { s.line with m1 := [.join false] } } := by
  have cell : JoinShown.showsCell shown = true := by rcases shows with h | h | h <;> simp [h, JoinShown.showsCell]
  simp only [State.presenceRecorded, bare, listening, State.listenPresence, cell, if_true]
  exact State.heardCell_alone loaded m1

theorem State.presenceRecorded_hidden {shown : JoinShown} {s : State} (n : Station) (z : ZoneSet)
    (hides : shown = .listening ∨ shown = .quiet) (bare : s.table = none) (listening : s.join.st = .listening) :
    s.presenceRecorded n z shown = { s with join := { s.join with image := s.join.image.map (fun t => t.publish n z) } } := by
  have silent : JoinShown.showsCell shown = false := by rcases hides with h | h <;> simp [h, JoinShown.showsCell]
  simp [State.presenceRecorded, bare, listening, State.listenPresence, silent]

/-- Settles O43. -/
theorem presenceWritesThePublishedSet : Obligations.PresenceWritesThePublishedSet := by
  unfold Obligations.PresenceWritesThePublishedSet
  intro p fields s active other
  have ends := exec_presence (fields := fields) active other
  have heard (shows : fields.join = .joining ∨ fields.join = .attached ∨ fields.join = .joinConflict)
      (m1 : s.line.m1 = [] ∨ ∃ mark, s.line.m1 = [.join mark] ∧ s.m1OnLine = false) (bare : s.table = none)
      (listening : s.join.st = .listening) (loaded : s.setup.load = .loaded) :=
    ends.trans (congrArg _ (congrArg _ (State.presenceRecorded_alone p fields.standing shows
      (s := s.heard p (fields.join != .listening)) (by simpa using loaded) (by simpa using bare) (by simpa using listening) (by simpa using m1))))
  refine ⟨fun tbl table => ⟨?_, Table.publish_of_inCell _, Table.publish_of_gone _⟩, fun bare joining logs room => ?_,
    fun bare joining logs full room => ?_, fun bare listening loaded => ⟨?_, fun shows =>
      ⟨fun empty => by simpa using heard shows (Or.inl empty) bare listening loaded,
        fun mark waits idle => by simpa using heard shows (Or.inr ⟨mark, waits, idle⟩) bare listening loaded⟩,
      fun hides => ?_⟩⟩
  · simp [ends, State.presenceRecorded, table]
  · simp [ends, State.presenceRecorded, bare, joining, State.recordPresence, logs, room]
  · simp [ends, State.presenceRecorded, bare, joining, State.recordPresence, logs, Nat.not_lt.mpr full, State.failJoin, State.pushM1_room, room]
  · rw [State.heard_window _ _ listening loaded]
    simp
  · have m1 : (s.heard p (fields.join != .listening)).line.m1 = s.line.m1 := by simp
    have image : (s.heard p (fields.join != .listening)).join.image = s.join.image := by simp
    dsimp only
    rw [← m1, ← image]
    exact ends.trans (congrArg _ (congrArg _ (State.presenceRecorded_hidden p fields.standing hides (by simpa using bare)
      (by simpa using listening))))

end Sys2Proof.Machine
end

section
/-! PROOF. What the application of a share frame moves (R62). -/

namespace Sys2Proof.Machine

open Sys2Proof

/-! ## The agent at an application -/

/-- M2 stands, and a detach that is due stays due. -/
abbrev keepsParts (s t : State) : Prop := t.line.m2 = s.line.m2 ∧ (s.detachDue.isSome = true → t.detachDue.isSome = true)

@[simp] theorem State.pushM1_keepsParts (e : M1Entry) (s : State) : keepsParts s (s.pushM1 e) := by
  unfold State.pushM1
  split <;> simp +contextual [keepsParts]

@[simp] theorem State.queueRelease_keepsParts (items : ItemSet) (s : State) : keepsParts s (s.queueRelease items) := by
  unfold State.queueRelease
  (repeat' split) <;> simp (implicitDefEqProofs := false) +contextual [keepsParts]

@[simp] theorem State.endFrames_keepsParts (items : ItemSet) (serial : Nat) (s : State) :
    keepsParts s (s.endFrames items serial) := by
  unfold State.endFrames
  dsimp only
  split <;> simp +contextual [keepsParts, State.removeAllM1, State.setRetired]

@[simp] theorem State.removeM1_keepsParts (q : M1Entry → Bool) (s : State) : keepsParts s (s.removeM1 q) := by
  simp +contextual [keepsParts, State.removeM1]

@[simp] theorem State.returnGrant_keepsParts (r : RetiredClaim) (granted : ItemSet) (s : State) :
    keepsParts s (s.returnGrant r granted) := by
  unfold State.returnGrant
  simp (maxDischargeDepth := 9) (implicitDefEqProofs := false) +contextual [keepsParts, State.setRetired]

@[simp] theorem State.claimHeld_keepsParts (c : CurrentClaim) (s : State) : keepsParts s (s.claimHeld c).1 := by
  unfold State.claimHeld
  dsimp only
  split <;> simp (maxDischargeDepth := 9) (implicitDefEqProofs := false) +contextual [keepsParts, State.setClaim]

@[simp] theorem State.newClaim_keepsParts (r : Requester) (wanted missing : ItemSet) (s : State) :
    keepsParts s (s.newClaim r wanted missing) := by
  unfold State.newClaim
  simp (maxDischargeDepth := 9) (implicitDefEqProofs := false) +contextual [keepsParts]

@[simp] theorem State.claimAgain_keepsParts (c : CurrentClaim) (s : State) : keepsParts s (s.claimAgain c) := by
  unfold State.claimAgain
  dsimp only
  (repeat' split) <;> simp (maxDischargeDepth := 9) (implicitDefEqProofs := false) +contextual [keepsParts, State.setClaim]

@[simp] theorem State.grantApplied_keepsParts (table : Table) (granted : List ClaimEntry) (s : State) :
    keepsParts s (s.grantApplied table granted).1 := by
  unfold State.grantApplied
  dsimp only
  (repeat' split) <;> simp (maxDischargeDepth := 9) (implicitDefEqProofs := false) +contextual [keepsParts]

/-- The application of a frame that is neither CLAIM nor WITHDRAW is to the agent only what it grants (R74, R77). -/
theorem State.agentApplied_other {f : ShareFrame} (p : Station) (table : Table) (granted : List ClaimEntry) (s : State)
    (claim : ∀ items, f ≠ .claim items) (withdraw : f ≠ .withdraw) :
    s.agentApplied p f table granted = s.grantApplied table granted := by
  cases f with
  | claim items => exact absurd rfl (claim items)
  | withdraw => exact absurd rfl withdraw
  | _ => rfl

/-- Without a claim the agent has nothing that a grant belongs to (log 56). -/
theorem State.grantApplied_free (table : Table) (granted : List ClaimEntry) {s : State} (current : s.agent.current = none)
    (retired : s.agent.retired = none) : s.grantApplied table granted = (s, none) := by
  simp [State.grantApplied, current, retired]

/-- What a requester is told leaves the drives and the motion. -/
theorem State.claimTold_arm (r : Option Requester) (s : State) :
    (s.claimTold r).arm.energized = s.arm.energized ∧ (s.claimTold r).arm.motion = s.arm.motion ∧
    (s.claimTold r).arm.stopping = s.arm.stopping := by
  unfold State.claimTold
  (repeat' split) <;> simp

theorem State.claimTold_of_noStart (r : Option Requester) {s : State} (noStart : s.arm.todo = none) : s.claimTold r = s := by
  unfold State.claimTold
  (repeat' split) <;> simp_all

/-! ## The blocks at an application -/

/-- Run control, the line controller, the snapshot mailbox, the mounted probe and the peers' readings at an application (R62). -/
def State.tableActs (p : Station) (f : ShareFrame) (gone : StationSet) (a : Applied) (s : State) : State :=
  ((((s.loseOwner gone).lineApplied p f gone).snapshotApplied a).checkMounted).substituteReadings gone

/-- Then the claim agent, and the requester that it tells. -/
def State.shareActs (p : Station) (f : ShareFrame) (gone : StationSet) (a : Applied) (s : State) : State :=
  let told := (s.tableActs p f gone a).agentApplied p f a.table a.granted
  told.1.claimTold told.2

theorem State.loseOwner_frame (gone : StationSet) (s : State) :
    (s.loseOwner gone).setup = s.setup ∧ (s.loseOwner gone).clock = s.clock ∧ (s.loseOwner gone).axes = s.axes ∧
    (s.loseOwner gone).join = s.join ∧ (s.loseOwner gone).table = s.table ∧ (s.loseOwner gone).part = s.part ∧
    (s.loseOwner gone).thermal = s.thermal := by
  unfold State.loseOwner
  (repeat' split) <;> simp

theorem State.loseOwner_kept {gone : StationSet} {s : State} (kept : gone = 0) : s.loseOwner gone = s := by
  unfold State.loseOwner
  split <;> simp [kept]

theorem State.checkMounted_eq (s : State) : ∃ mounted : Mounted, s.checkMounted = { s with mounted := mounted } := by
  unfold State.checkMounted
  split
  · exact ⟨_, rfl⟩
  · exact ⟨s.mounted, rfl⟩

/-- The snapshot mailbox takes the parts that the station captures (R84). -/
theorem State.snapshotApplied_eq (a : Applied) (s : State) :
    ∃ line : Line, s.snapshotApplied a = { s with line := line } ∧ ∀ cap, a.capture = some cap → cap.by_ = s.me →
      line.m2 = (a.table.image cap.cause).map (fun part => { dest := cap.dest, part := part }) := by
  refine ⟨(s.snapshotApplied a).line, ?_, fun cap captures own => ?_⟩
  · unfold State.snapshotApplied
    dsimp only
    (repeat' split) <;> rfl
  · unfold State.snapshotApplied
    dsimp only
    (repeat' split) <;> simp_all [State.setParts, State.me]

theorem State.tableActs_eq (p : Station) (f : ShareFrame) (gone : StationSet) (a : Applied) (s : State) :
    ∃ (line : Line) (mounted : Mounted), s.tableActs p f gone a = { s.loseOwner gone with
        line := line
        mounted := mounted
        thermal := { s.thermal with peers := substitutePeers s.clock (fun n => gone.getLsbD n.toNat) s.thermal.peers } } ∧
      ∀ cap, a.capture = some cap → cap.by_ = s.me →
        line.m2 = (a.table.image cap.cause).map (fun part => { dest := cap.dest, part := part }) := by
  obtain ⟨setup, clock, -, -, -, -, thermal⟩ := s.loseOwner_frame gone
  obtain ⟨line, snapshot, parts⟩ := State.snapshotApplied_eq a ((s.loseOwner gone).lineApplied p f gone)
  obtain ⟨mounted, checked⟩ := (((s.loseOwner gone).lineApplied p f gone).snapshotApplied a).checkMounted_eq
  have me : ((s.loseOwner gone).lineApplied p f gone).me = s.me := congrArg (·.straps.station) setup
  refine ⟨line, mounted, ?_, fun cap captures own => parts cap captures (own.trans me.symm)⟩
  rw [State.tableActs, checked, snapshot, ← thermal, ← clock]
  rfl

/-- What the table holder's blocks move at an application, up to its own ATTACH and RELEASE (R62). -/
theorem State.shareActs_frame (p : Station) (f : ShareFrame) (gone : StationSet) (a : Applied) (s : State) :
    let u := s.shareActs p f gone a
    u.setup = s.setup ∧ u.clock = s.clock ∧ u.axes = s.axes ∧ u.join = s.join ∧ u.table = s.table ∧ u.part = s.part ∧
    u.run = (s.loseOwner gone).run ∧ u.events = (s.loseOwner gone).events ∧
    u.arm.energized = (s.loseOwner gone).arm.energized ∧ u.arm.motion = (s.loseOwner gone).arm.motion ∧
    u.arm.stopping = (s.loseOwner gone).arm.stopping ∧ ((s.loseOwner gone).arm.todo = none → u.arm = (s.loseOwner gone).arm) ∧
    u.thermal = { s.thermal with peers := substitutePeers s.clock (fun n => gone.getLsbD n.toNat) s.thermal.peers } := by
  obtain ⟨setup, clock, axes, join, table, part, -⟩ := s.loseOwner_frame gone
  obtain ⟨line, mounted, acts, -⟩ := s.tableActs_eq p f gone a
  have arm := ((s.tableActs p f gone a).agentApplied p f a.table a.granted).1.claimTold_arm
    ((s.tableActs p f gone a).agentApplied p f a.table a.granted).2
  have quiet := State.claimTold_of_noStart ((s.tableActs p f gone a).agentApplied p f a.table a.granted).2
    (s := ((s.tableActs p f gone a).agentApplied p f a.table a.granted).1)
  simp only [State.shareActs, State.claimTold_frame, State.agentApplied_frame] at *
  simp only [acts] at *
  refine ⟨setup, clock, axes, join, table, part, trivial, trivial, arm.1, arm.2.1, arm.2.2, fun noStart => ?_, trivial⟩
  rw [quiet noStart]
  simp

/-- What a frame that is neither CLAIM nor WITHDRAW moves of the mailboxes. -/
theorem State.shareActs_parts {p : Station} {f : ShareFrame} (gone : StationSet) (a : Applied) (s : State)
    (claim : ∀ items, f ≠ .claim items) (withdraw : f ≠ .withdraw) :
    let u := s.shareActs p f gone a
    (∀ cap, a.capture = some cap → cap.by_ = s.me →
      u.line.m2 = (a.table.image cap.cause).map (fun part => { dest := cap.dest, part := part })) ∧
    ((s.loseOwner gone).detachDue ≠ none → u.detachDue ≠ none) := by
  obtain ⟨line, mounted, acts, parts⟩ := s.tableActs_eq p f gone a
  obtain ⟨m2, due⟩ := (s.tableActs p f gone a).grantApplied_keepsParts a.table a.granted
  simp only [State.shareActs, State.agentApplied_other p _ _ _ claim withdraw, State.claimTold_frame]
  refine ⟨fun cap captures own => ?_, fun overdue => ?_⟩
  · rw [m2, acts]
    exact parts cap captures own
  · rw [← Option.isSome_iff_ne_none] at overdue ⊢
    exact due (by rw [acts]; exact overdue)

theorem State.blocksAct_eq (p : Station) (f : ShareFrame) (gone : StationSet) (a : Applied) (s : State) :
    s.blocksAct p f gone a =
      if p = s.me then
        match f with
        | .attach => if s.join.st = .joining then (s.shareActs p f gone a).becomeAttached a.table else s.shareActs p f gone a
        | .release items => (s.shareActs p f gone a).changeReleased items
        | _ => s.shareActs p f gone a
      else s.shareActs p f gone a := by
  obtain ⟨setup, -, -, join, -⟩ := s.shareActs_frame p f gone a
  have me : (s.shareActs p f gone a).me = s.me := congrArg (·.straps.station) setup
  rw [← me, ← join]
  unfold State.blocksAct
  simp only [beq_iff_eq]
  rfl

theorem State.blocksAct_plain {p : Station} {f : ShareFrame} (gone : StationSet) (a : Applied) {s : State}
    (plain : p ≠ s.me ∨ (f ≠ .attach ∧ ∀ items, f ≠ .release items)) : s.blocksAct p f gone a = s.shareActs p f gone a := by
  rw [State.blocksAct_eq]
  obtain other | ⟨attach, release⟩ := plain
  · exact if_neg other
  · cases f <;> simp_all

end Sys2Proof.Machine
end

section
/-! PROOF. Share frames in line order (R48, R62, R80, R82, R86, R88, R89). -/

namespace Sys2Proof.Machine

open Sys2Proof

/-! ## Captures -/

/-- Only a JOIN, a LOST and a LEAVE order a capture (R84). -/
theorem Table.apply_capture {t : Table} {p : Station} {f : ShareFrame} {now : Clock} {cap : Capturing}
    (captures : (t.apply p f now).capture = some cap) :
    (∃ fields, f = .join fields) ∨ (∃ stations, f = .lost stations) ∨ f = .leave := by
  cases f <;> simp_all [Table.apply, Table.serve]

/-! ## The own ATTACH -/

theorem State.request_new {r : Requester} {wanted : ItemSet} {s : State} (attached : s.join.st = .attached)
    (missing : s.missing wanted ≠ 0) (free : s.agent.current = none) :
    (s.request r wanted).1 = s.newClaim r wanted (s.missing wanted) := by
  have wants : (s.missing wanted == 0) = false := beq_eq_false_iff_ne.mpr missing
  rw [State.request, attached]
  simp only [wants, free]
  rfl

theorem State.request_heardAny (r : Requester) (wanted : ItemSet) (s : State) :
    (s.request r wanted).1.line.heardAny = s.line.heardAny := by
  unfold State.request State.newClaim State.takeOver
  dsimp only
  (repeat' split) <;> simp [State.setClaim, State.setRetired, State.removeM1, State.rewriteLastM1]

/-- What a station that becomes ATTACHED moves (R89, R90). -/
theorem State.becomeAttached_ends (t : Table) (s : State) :
    let u := s.becomeAttached t
    u.setup = s.setup ∧ u.clock = s.clock ∧ u.table = s.table ∧ u.part = s.part ∧ u.thermal = s.thermal ∧ u.join.st = .attached ∧
    u.line.heardAny = some s.clock ∧ u.events = (s.attaching t).events ∧
    ((t.entry s.me).conflict = 0 → u.axes = s.axes ∧ u.arm = s.arm) ∧
    ((t.entry s.me).conflict ≠ 0 → u.arm.energized = false ∧ u.arm.st = .off ∧ u.arm.motion = none ∧
      u.axes = vmap (fun _ ch => { ch with setpoint := ch.pos }) s.axes) := by
  obtain ⟨setup, clock, axes, arm, -, -, -, table, part, thermal, -, join, heard, -⟩ := s.attaching_leaves t
  rw [State.becomeAttached_eq]
  by_cases peaceful : (t.entry s.me).conflict = 0
  · rw [if_pos peaceful]
    exact ⟨setup, clock, table, part, thermal, by rw [join], heard, rfl, fun _ => ⟨axes, arm⟩, fun torn => absurd peaceful torn⟩
  · rw [if_neg peaceful]
    refine ⟨?_, ?_, ?_, ?_, ?_, ?_, ?_, ?_, fun none => absurd none peaceful, fun _ => ?_⟩
    · simpa using setup
    · simpa using clock
    · simpa using table
    · simpa using part
    · simpa using thermal
    · simp [join]
    · simpa [State.request_heardAny] using heard
    · simp
    · simp [axes]

theorem zoneItems_ne_zero {z : ZoneSet} (some : z ≠ 0) : zoneItems z ≠ 0 := by
  intro none
  refine some (BitVec.eq_of_getLsbD_eq fun i small => ?_)
  have bit := congrArg (·.getLsbD i) none
  simpa [zoneItems, small, Nat.lt_trans small (by decide : 16 < 24)] using bit

theorem State.missing_of_disjoint {wanted : ItemSet} {s : State} (disjoint : s.held &&& wanted = 0) : s.missing wanted = wanted := by
  refine BitVec.eq_of_getLsbD_eq fun i _ => ?_
  have bit := congrArg (·.getLsbD i) disjoint
  simp only [BitVec.getLsbD_and] at bit
  simp only [State.missing, BitVec.getLsbD_and, BitVec.getLsbD_not]
  grind

/-- The conflict set of a station that becomes ATTACHED is claimed (R90). -/
theorem State.becomeAttached_claims {t : Table} {s : State} (torn : (t.entry s.me).conflict ≠ 0) (free : s.agent.current = none)
    (disjoint : s.held &&& zoneItems (t.entry s.me).conflict = 0) :
    (s.becomeAttached t).agent.current.map (fun k => (k.requester, k.items)) =
      some (.conflict, zoneItems (t.entry s.me).conflict) := by
  obtain ⟨setup, -, -, -, -, -, agent, table, -, -, -, join, -⟩ := s.attaching_leaves t
  have held : (s.attaching t).deenergize.held = s.held := by simp [State.held, State.me, table, setup]
  have missing := State.missing_of_disjoint (s := (s.attaching t).deenergize) (by rw [held]; exact disjoint)
  rw [State.becomeAttached_eq, if_neg torn, State.request_new (by simp [join]) (by rw [missing]; exact zoneItems_ne_zero torn)
    (by simpa [agent] using free), missing]
  rfl

/-! ## The owner gone -/

theorem State.loseOwner_owner {gone : StationSet} {o : Station} {s : State} (owner : s.run.owner = some o)
    (left : gone.getLsbD o.val = true) :
    s.loseOwner gone = if s.run.st = .none then s.flushUnrun else s.stopAll .ownerLost 0 := by
  simp only [State.loseOwner, owner, left, if_true, beq_iff_eq]

/-- What the end of its owner makes of a run (R25). -/
theorem State.shareActs_owner {p : Station} {f : ShareFrame} {gone : StationSet} (a : Applied) {o : Station} {s : State}
    (owner : s.run.owner = some o) (left : gone.getLsbD o.val = true) (claim : ∀ items, f ≠ .claim items) (withdraw : f ≠ .withdraw) :
    let u := s.shareActs p f gone a
    (s.run.st = .none → u.run = { s.run with queue := [], owner := none }) ∧
    (s.run.st ≠ .none → s.stopGoverns = true → u.run = s.run ∧ u.arm.stopping = s.arm.stopping) ∧
    (s.run.st ≠ .none → s.stopGoverns = false → s.travelling = false →
      u.run.st = .none ∧ u.run.owner = none ∧ u.run.queue = [] ∧ u.run.stack = [] ∧
      (s.events.mask.getLsbD 1 = true → s.events.slots.length = 12 → ∃ slot, u.events.slots[1]? = some slot ∧
        (slot.pending = some (.runEnd .ownerLost 0) ∨
          (u.detachDue ≠ none ∧ slot.pending = some (.runEnd .detached 0))))) ∧
    (s.run.st ≠ .none → s.stopGoverns = false → s.travelling = true →
      u.run.st = s.run.st ∧ u.run.queue = [] ∧ u.run.stack = [] ∧ u.arm.motion = s.arm.motion ∧
      u.arm.stopping.map (·.after) = some (.endRun .ownerLost 0) ∧
      (s.arm.stopping.map (·.fast) ≠ some true → u.arm.st = .decelerating)) := by
  have loses := State.loseOwner_owner owner left
  obtain ⟨-, -, -, -, -, -, run, events, -, motion, stopping, arm, -⟩ := s.shareActs_frame p f gone a
  obtain ⟨-, due⟩ := s.shareActs_parts (p := p) gone a claim withdraw
  refine ⟨fun idle => ?_, fun runs governs => ?_, fun runs free stands => ?_, fun runs free way => ?_⟩
  · rw [run, loses, if_pos idle]
    rfl
  · rw [if_neg runs, State.stopAll_governed _ _ governs, if_neg (by simpa using runs)] at loses
    exact ⟨by rw [run, loses], by rw [stopping, loses]⟩
  · rw [if_neg runs] at loses
    obtain ⟨queue, stack, -, -, -, rest, shows, -⟩ := State.stopAll_ends .ownerLost 0 free (by decide)
    obtain ⟨none, owner, -⟩ := rest stands
    rw [run, events, loses]
    refine ⟨none, owner, queue, stack, fun mask length => ?_⟩
    obtain ⟨slot, place, pending⟩ := shows stands runs mask length
    refine ⟨slot, place, ?_⟩
    by_cases overdue : (s.stopAll .ownerLost 0).detachDue = Option.none
    · exact .inl (by rw [pending, if_pos overdue])
    · exact .inr ⟨due (by rw [loses]; exact overdue), by rw [pending, if_neg overdue]⟩
  · rw [if_neg runs] at loses
    obtain ⟨queue, stack, todo, -, -, -, -, moves⟩ := State.stopAll_ends .ownerLost 0 free (by decide)
    rw [run, arm (by rw [loses]; exact todo), loses]
    obtain ⟨same, motion, after, slows⟩ := moves way runs
    exact ⟨same, queue, stack, motion, after, slows⟩

/-! ## The readings of the peers -/

theorem substitutePeers_place {gone : StationSet} {now : Clock} {peers : List PeerEntry} {n : Nat} {e : PeerEntry}
    (entry : peers[n]? = some e) :
    (substitutePeers now (fun m => gone.getLsbD m.toNat) peers)[n]? =
      some (if gone.getLsbD e.station.toNat = true ∧ e.st = .fresh then { e with st := .subst, since := some now } else e) := by
  simp [substitutePeers, entry, PeerEntry.substitute]

/-! ## Share frames at a station with a table -/

theorem State.afterChange_axes (s : State) : s.afterChange.axes = s.axes := by
  unfold State.afterChange State.pushOut State.push
  (repeat' split) <;> simp

theorem State.finishChange_axes (s : State) : s.finishChange.axes = s.axes := by
  unfold State.finishChange
  dsimp only
  split <;> simp [State.afterChange_axes]

theorem State.changeReleased_axes (items : ItemSet) (s : State) : (s.changeReleased items).axes = s.axes := by
  unfold State.changeReleased
  (repeat' split) <;> simp [State.finishChange_axes]

/-- What the blocks of a table holder leave alone at any application (R62). -/
theorem State.blocksAct_leaves (p : Station) (f : ShareFrame) (gone : StationSet) (a : Applied) (s : State) :
    let u := s.blocksAct p f gone a
    u.table = s.table ∧ u.clock = s.clock ∧ u.setup = s.setup ∧ u.part = s.part ∧
    u.thermal = { s.thermal with peers := substitutePeers s.clock (fun n => gone.getLsbD n.toNat) s.thermal.peers } ∧
    (¬ (p = s.me ∧ f = .attach ∧ s.join.st = .joining) → u.axes = s.axes ∧ u.join = s.join) := by
  obtain ⟨setup, clock, axes, join, table, part, -, -, -, -, -, -, thermal⟩ := s.shareActs_frame p f gone a
  rw [State.blocksAct_eq]
  split
  next own =>
    split
    · split
      next joining =>
        obtain ⟨setup', clock', table', part', thermal', -⟩ := (s.shareActs p .attach gone a).becomeAttached_ends a.table
        exact ⟨table'.trans table, clock'.trans clock, setup'.trans setup, part'.trans part, thermal'.trans thermal,
          fun stays => absurd ⟨own, rfl, joining⟩ stays⟩
      next => exact ⟨table, clock, setup, part, thermal, fun _ => ⟨axes, join⟩⟩
    · simp [State.changeReleased_axes, setup, clock, axes, join, table, part, thermal]
    · exact ⟨table, clock, setup, part, thermal, fun _ => ⟨axes, join⟩⟩
  next => exact ⟨table, clock, setup, part, thermal, fun _ => ⟨axes, join⟩⟩

/-- A frame that takes no station out of the cell leaves an agent without a claim without one (log 56). -/
theorem State.shareActs_free (p : Station) (gone : StationSet) (a : Applied) {s : State} (all : gone = 0)
    (free : s.agent.current = none) (retired : s.agent.retired = none) : (s.shareActs p .attach gone a).agent.current = none := by
  obtain ⟨line, mounted, acts, -⟩ := s.tableActs_eq p .attach gone a
  rw [State.loseOwner_kept all] at acts
  have told := State.grantApplied_free a.table a.granted (s := s.tableActs p .attach gone a) (by rw [acts]; exact free)
    (by rw [acts]; exact retired)
  simp only [State.shareActs, State.agentApplied_other p _ _ _ (nofun : ∀ items, ShareFrame.attach ≠ .claim items)
    (nofun : ShareFrame.attach ≠ .withdraw), told, State.claimTold_frame]
  rw [acts]
  exact free

/-- The own ATTACH of a JOINING station (R89, R90). -/
theorem State.blocksAct_attach {gone : StationSet} (a : Applied) {s : State} (joining : s.join.st = .joining) (all : gone = 0) :
    let u := s.blocksAct s.me .attach gone a
    u.join.st = .attached ∧ u.line.heardAny = some s.clock ∧
    ((a.table.entry s.me).conflict = 0 → u.axes = s.axes ∧ u.arm.energized = s.arm.energized) ∧
    ((a.table.entry s.me).conflict ≠ 0 → u.arm.energized = false ∧ u.arm.st = .off ∧ u.arm.motion = none ∧
      u.axes = vmap (fun _ ch => { ch with setpoint := ch.pos }) s.axes ∧
      (s.agent.current = none → s.agent.retired = none → s.held &&& zoneItems (a.table.entry s.me).conflict = 0 →
        u.agent.current.map (fun k => (k.requester, k.items)) = some (.conflict, zoneItems (a.table.entry s.me).conflict))) ∧
    (s.events.mask.getLsbD 10 = true → s.events.slots.length = 12 →
      ∃ slot, u.events.slots[10]? = some slot ∧ slot.pending = some .attach) := by
  obtain ⟨setup, clock, axes, join, table, part, -, events, energized, -⟩ := s.shareActs_frame s.me .attach gone a
  have acts : s.blocksAct s.me .attach gone a = (s.shareActs s.me .attach gone a).becomeAttached a.table := by
    rw [State.blocksAct_eq, if_pos rfl]
    exact if_pos joining
  have me : (s.shareActs s.me .attach gone a).me = s.me := congrArg (·.straps.station) setup
  rw [State.loseOwner_kept all] at events energized
  obtain ⟨-, -, -, -, -, attached, heard, events', calm, torn⟩ := (s.shareActs s.me .attach gone a).becomeAttached_ends a.table
  rw [acts]
  rw [me] at calm torn
  refine ⟨attached, by rw [heard, clock], fun none => ⟨(calm none).1.trans axes, by rw [(calm none).2, energized]⟩, fun some => ?_,
    fun mask length => ?_⟩
  · obtain ⟨cut, off, motion, level⟩ := torn some
    refine ⟨cut, off, motion, by rw [level, axes], fun free retired disjoint => ?_⟩
    have current := State.shareActs_free s.me gone a all free retired
    have held : (s.shareActs s.me .attach gone a).held = s.held := by rw [State.held, State.held, me, table]
    rw [← me] at some disjoint ⊢
    rw [← held] at disjoint
    exact State.becomeAttached_claims some current disjoint
  · rw [events']
    exact State.attaching_shows a.table (by rw [events]; exact mask) (by rw [events]; exact length)

end Sys2Proof.Machine
end

section
/-! PROOF. Share frames at a station with a table and at one without (R48, R62, R80, R82, R86, R88). -/

namespace Sys2Proof.Machine

open Sys2Proof

/-- What a station makes of a frame before it applies it moves the line controller and the join window alone (R48, R58, R80). -/
def State.taking (line : Line) (window : Option Clock) (s : State) : State :=
  { s with line := line, join := { s.join with window := window } }

theorem State.heard_taking (p : Station) (w : Bool) (s : State) :
    ∃ line, s.heard p w = s.taking line (s.heard p w).join.window ∧ line.m1 = s.line.m1 := by
  refine ⟨(s.heard p w).line, ?_, by simp⟩
  unfold State.heard
  split <;> rfl

theorem State.share_own {f : ShareFrame} {s : State} (q : BitVec 16) (awaits : s.line.awaiting = some f) :
    s.share s.me q f = (({ s with line := { s.line with awaiting := none } } : State).applyOwn q f).finish := by
  simp [State.share, State.ownReady, awaits]

theorem exec_share_applied {c : Instr} {p : Station} {q : BitVec 16} {f : ShareFrame} {tbl : Table} {s : State}
    (frame : c.shareFrame = some (p, q, f)) (table : s.table = some tbl)
    (takes : (p = s.me ∧ s.line.awaiting = some f) ∨
      (p ≠ s.me ∧ s.line.active = true ∧ (q = tbl.seq + 1 ∨ ∃ fields, f = .join fields))) :
    ∃ line window, exec c s = .next ((s.taking line window).applyShare tbl p f).finish := by
  rw [exec_of_shareFrame frame]
  rcases takes with ⟨own, awaits⟩ | ⟨other, active, inOrder⟩
  · refine ⟨{ s.line with awaiting := none }, s.join.window, ?_⟩
    rw [own, State.share_own q awaits]
    simp only [State.applyOwn, table]
    rfl
  · obtain ⟨line, heard, -⟩ := s.heard_taking p true
    have fits : mismatched tbl q f = false := by
      rcases inOrder with inOrder | ⟨fields, join⟩
      · cases f <;> simp [mismatched, inOrder]
      · simp [mismatched, join]
    refine ⟨line, (s.heard p true).join.window, ?_⟩
    rw [State.share_of_other q f active other, ← heard]
    simp [State.shareReceived, table, fits]

theorem State.applyShare_blocks {t : Table} {p : Station} {f : ShareFrame} {s : State}
    (stays : ∀ stations, f = .lost stations → stations.getLsbD s.me.val = false ∨ (t.entry s.me).state.inCell = false) :
    s.applyShare t p f = ({ s with table := some (t.apply p f s.clock).table } : State).blocksAct p f (t.leaving p f)
      (t.apply p f s.clock) := by
  unfold State.applyShare
  cases f with
  | lost stations =>
    have here : (t.leaving p (.lost stations)).getLsbD s.me.val = false := by
      rw [← Bool.not_eq_true, Table.leaving_getLsbD]
      have := stays stations rfl
      simp
      grind
    exact if_neg (by rw [Bool.not_eq_true]; exact here)
  | _ => rfl

theorem State.applyShare_declared {t : Table} {p : Station} {stations : StationSet} {s : State}
    (named : stations.getLsbD s.me.val = true) (inCell : (t.entry s.me).state.inCell = true) :
    s.applyShare t p (.lost stations) =
      ({ s with table := some (t.apply p (.lost stations) s.clock).table } : State).detach .declaredLost := by
  have here : (t.leaving p (.lost stations)).getLsbD s.me.val = true :=
    (Table.leaving_getLsbD t p _ s.me).mpr ⟨inCell, .inl ⟨stations, rfl, named⟩⟩
  exact if_pos here

theorem Table.leaving_plain {t : Table} {p : Station} {f : ShareFrame} {n : Station} (left : (t.leaving p f).getLsbD n.val = true) :
    f ≠ .attach ∧ (∀ items, f ≠ .release items) ∧ (∀ items, f ≠ .claim items) ∧ f ≠ .withdraw := by
  obtain ⟨-, ⟨stations, rfl, -⟩ | ⟨rfl, -⟩⟩ := (t.leaving_getLsbD p f n).mp left <;> simp

/-- What the application of a share frame that leaves the station in the cell moves (R62). -/
theorem State.applied_ends {t : Table} {p : Station} {f : ShareFrame} {s b : State}
    (same : ∃ line window, b = { s.taking line window with table := some (t.apply p f s.clock).table }) :
    let a := t.apply p f s.clock
    let attaches : Prop := p = s.me ∧ f = .attach ∧ s.join.st = .joining
    let gone := t.leaving p f
    let u := b.blocksAct p f gone a
    u.table = some a.table ∧ u.clock = s.clock ∧ u.setup = s.setup ∧ u.part = s.part ∧
      (∀ cap, a.capture = some cap → cap.by_ = s.me →
        u.line.m2 = (a.table.image cap.cause).map (fun part => { dest := cap.dest, part := part })) ∧
      (¬ attaches → u.axes = s.axes ∧ u.join.st = s.join.st) ∧
      (attaches → u.join.st = .attached ∧ u.line.heardAny = some s.clock ∧
        ((a.table.entry s.me).conflict = 0 → u.axes = s.axes ∧ u.arm.energized = s.arm.energized) ∧
        ((a.table.entry s.me).conflict ≠ 0 → u.arm.energized = false ∧ u.arm.st = .off ∧ u.arm.motion = none ∧
          u.axes = vmap (fun _ ch => { ch with setpoint := ch.pos }) s.axes ∧
          (s.agent.current = none → s.agent.retired = none →
            a.table.heldBy s.me &&& zoneItems (a.table.entry s.me).conflict = 0 →
            u.agent.current.map (fun k => (k.requester, k.items)) =
              some (.conflict, zoneItems (a.table.entry s.me).conflict))) ∧
        (s.events.mask.getLsbD 10 = true → s.events.slots.length = 12 →
          ∃ slot, u.events.slots[10]? = some slot ∧ slot.pending = some .attach)) := by
  obtain ⟨line, window, rfl⟩ := same
  dsimp only
  generalize b_eq : ({ s.taking line window with table := some (t.apply p f s.clock).table } : State) = b
  obtain ⟨table, clock, setup, part, -, still⟩ := b.blocksAct_leaves p f (t.leaving p f) (t.apply p f s.clock)
  have me : b.me = s.me := by subst b_eq; rfl
  have join : b.join.st = s.join.st := by subst b_eq; rfl
  have facts : b.table = some (t.apply p f s.clock).table ∧ b.clock = s.clock ∧ b.setup = s.setup ∧ b.part = s.part ∧
      b.axes = s.axes ∧ b.agent = s.agent ∧ b.arm = s.arm ∧ b.events = s.events := by
    subst b_eq
    exact ⟨rfl, rfl, rfl, rfl, rfl, rfl, rfl, rfl⟩
  obtain ⟨table', clock', setup', part', axes', agent', arm', events'⟩ := facts
  refine ⟨table.trans table', clock.trans clock', setup.trans setup', part.trans part', fun cap captures own => ?_, fun apart => ?_,
    fun ⟨own, attach, joining⟩ => ?_⟩
  · have frame := Table.apply_capture captures
    have plain : f ≠ .attach ∧ (∀ items, f ≠ .release items) ∧ (∀ items, f ≠ .claim items) ∧ f ≠ .withdraw := by
      rcases frame with ⟨fields, rfl⟩ | ⟨stations, rfl⟩ | rfl <;> simp
    obtain ⟨attach, release, claim, withdraw⟩ := plain
    rw [State.blocksAct_plain _ _ (.inr ⟨attach, release⟩)]
    exact (b.shareActs_parts _ _ claim withdraw).1 cap captures (own.trans me.symm)
  · rw [← me, ← join] at apart
    exact ⟨(still apart).1.trans axes', by rw [(still apart).2, join]⟩
  · subst own attach
    have ends := State.blocksAct_attach (t.apply s.me .attach s.clock) (join.trans joining)
      (show t.leaving s.me .attach = 0 by simp [Table.leaving])
    have held : b.held = (t.apply s.me .attach s.clock).table.heldBy s.me := by simp [State.held, table', me]
    rw [me, axes', arm', agent', events', clock', held] at ends
    exact ends

/-! ## Without a table -/

/-- Without a table the join unit takes an own frame as it takes another station's (log 4). -/
theorem State.applyOwn_bare {f : ShareFrame} {s : State} (q : BitVec 16) (bare : s.table = none) (plain : ∀ fields, f ≠ .join fields) :
    s.applyOwn q f = s.joinUnitTakes s.me q f := by
  by_cases quiet : s.join.st = .quiet
  · simp [State.applyOwn, bare, quiet, State.joinUnitTakes]
  · have loud : ¬ (s.join.st == .quiet) = true := by simpa using quiet
    unfold State.applyOwn
    rw [bare]
    cases f with
    | join fields => exact absurd rfl (plain fields)
    | _ => exact if_neg loud

theorem exec_share_bare {c : Instr} {p : Station} {q : BitVec 16} {f : ShareFrame} {s : State}
    (frame : c.shareFrame = some (p, q, f)) (bare : s.table = none)
    (takes : (p ≠ s.me ∧ s.line.active = true) ∨ (p = s.me ∧ s.line.awaiting = some f ∧ ∀ fields, f ≠ .join fields)) :
    ∃ line window, exec c s = .next ((s.taking line window).joinUnitTakes p q f).finish ∧ line.m1 = s.line.m1 ∧
      (s.join.st = .listening → s.setup.load = .loaded → window = if p = s.me then s.join.window else some s.clock) ∧
      (s.join.st ≠ .listening → window = s.join.window) := by
  rw [exec_of_shareFrame frame]
  rcases takes with ⟨other, active⟩ | ⟨own, awaits, plain⟩
  · obtain ⟨line, heard, m1⟩ := s.heard_taking p true
    refine ⟨line, (s.heard p true).join.window, ?_, m1, fun listening loaded => ?_, fun elsewhere => ?_⟩
    · rw [State.share_of_other q f active other, ← heard]
      simp [State.shareReceived, bare]
    · rw [State.heard_window p true listening loaded, if_pos rfl, if_neg other]
    · unfold State.heard
      split <;> simp [elsewhere]
  · refine ⟨{ s.line with awaiting := none }, s.join.window, ?_, rfl, fun _ _ => (if_pos own).symm, fun _ => rfl⟩
    rw [own, State.share_own q awaits]
    rw [State.applyOwn_bare (s := { s with line := { s.line with awaiting := none } }) q bare plain]
    rfl

/-! ## What the join unit makes of a frame -/

theorem State.joinUnitTakes_logs (p : Station) (q : BitVec 16) {f : ShareFrame} {s : State} (joining : s.join.st = .joining)
    (logs : s.join.logging = true) (unnamed : ∀ stations, f = .lost stations → stations.getLsbD s.me.val = false)
    (room : s.join.log.length < 32) :
    s.joinUnitTakes p q f =
      { s with join := { s.join with log := s.join.log ++ [{ sender := p, seq := q, frame := f }] } } := by
  simp only [State.joinUnitTakes, joining, State.logShare]
  cases f <;> simp_all

theorem State.joinUnitTakes_full (p : Station) (q : BitVec 16) {f : ShareFrame} {s : State} (joining : s.join.st = .joining)
    (logs : s.join.logging = true) (unnamed : ∀ stations, f = .lost stations → stations.getLsbD s.me.val = false)
    (full : 32 ≤ s.join.log.length) : s.joinUnitTakes p q f = s.failJoin := by
  have many : ¬ s.join.log.length < 32 := Nat.not_lt.mpr full
  simp only [State.joinUnitTakes, joining, State.logShare, logs, if_neg many]
  cases f with
  | lost stations =>
    have other := unnamed stations rfl
    simp only [other, Bool.false_eq_true, Bool.not_true, if_false]
  | _ => rfl

theorem State.joinUnitTakes_declared (p : Station) (q : BitVec 16) {stations : StationSet} {s : State} (joining : s.join.st = .joining)
    (named : stations.getLsbD s.me.val = true) : s.joinUnitTakes p q (.lost stations) = s.detach .declaredLost := by
  simp only [State.joinUnitTakes, joining, State.logShare, named, if_true]

/-- The founding image after a share frame that a LISTENING station hears (R80, R82). -/
def State.imageAfter (p : Station) (f : ShareFrame) (s : State) : Option Table :=
  match f with
  | .join fields =>
    if fields.founding && !s.join.heardShare then some (Table.found p fields)
    else s.join.image.map (fun image => (image.apply p f s.clock).table)
  | _ => s.join.image.map (fun image => (image.apply p f s.clock).table)

theorem State.imageAfter_ordinary {f : ShareFrame} {s : State} (p : Station)
    (ordinary : (∀ fields, f = .join fields → fields.founding = false) ∨ s.join.heardShare = true) :
    s.imageAfter p f = s.join.image.map (fun image => (image.apply p f s.clock).table) := by
  cases f with
  | join fields =>
    refine if_neg ?_
    rcases ordinary with ordinary | heard
    · simp [ordinary fields rfl]
    · simp [heard]
  | _ => rfl

/-- A LISTENING station whose M1 is empty hears the cell: an ordinary JOIN waits in M1 (R80, R82). -/
theorem State.joinUnitTakes_hears (p : Station) (q : BitVec 16) (f : ShareFrame) {s : State} (listening : s.join.st = .listening)
    (loaded : s.setup.load = .loaded) (empty : s.line.m1 = []) :
    s.joinUnitTakes p q f = { s with
      join := { s.join with heardShare := true, image := s.imageAfter p f }, line := { s.line with m1 := [.join false] } } := by
  have hears (image : Option Table) := State.heardCell_alone (s := { s with join := { s.join with heardShare := true, image := image } })
    loaded (.inl empty)
  have takes : s.joinUnitTakes p q f = s.listenShare p f := by simp only [State.joinUnitTakes, listening]
  rw [takes]
  unfold State.listenShare
  rw [if_neg (by simp [loaded])]
  cases f with
  | join fields =>
    cases founding : fields.founding && !s.join.heardShare
    · have ordinary : (∀ other, ShareFrame.join fields = .join other → other.founding = false) ∨ s.join.heardShare = true := by
        cases mark : fields.founding <;> simp_all
      rw [State.imageAfter_ordinary p ordinary]
      dsimp only
      rw [founding]
      exact hears _
    · have image : s.imageAfter p (.join fields) = some (Table.found p fields) := if_pos founding
      rw [image]
      dsimp only
      rw [founding]
      simp [State.keepFoundingImage, State.removeM1, State.pushM1, empty]
  | _ => exact hears _

/-- Settles O44. -/
theorem shareFramesApplyInLineOrder : Obligations.ShareFramesApplyInLineOrder := by
  unfold Obligations.ShareFramesApplyInLineOrder
  refine ⟨fun c p q f tbl s frame table takes => ?_, fun c p q f s frame bare takes => ?_⟩
  · obtain ⟨line, window, ends⟩ := exec_share_applied frame table takes
    dsimp only
    refine ⟨fun stays => ?_, Table.leaving_getLsbD tbl p f, fun stations lost named inCell cell => ?_⟩
    · rw [State.applyShare_blocks (by exact stays)] at ends
      obtain ⟨table', clock, setup, part, parts, still, attaches⟩ := State.applied_ends (t := tbl) (p := p) (f := f) (s := s)
        ⟨line, window, rfl⟩
      obtain ⟨-, -, -, -, thermal, -⟩ := ({ s.taking line window with table := some (tbl.apply p f s.clock).table } : State).blocksAct_leaves
        p f (tbl.leaving p f) (tbl.apply p f s.clock)
      refine ⟨_, ends, table', clock, setup, part, parts, still, attaches, fun o owner left => ?_, fun n e entry => ?_⟩
      · obtain ⟨attach, release, claim, withdraw⟩ := Table.leaving_plain left
        have acts := State.blocksAct_plain (p := p) (tbl.leaving p f) (tbl.apply p f s.clock) (.inr ⟨attach, release⟩)
          (s := { s.taking line window with table := some (tbl.apply p f s.clock).table })
        have owned := State.shareActs_owner (p := p) (tbl.apply p f s.clock) (owner := owner) left claim withdraw
          (s := { s.taking line window with table := some (tbl.apply p f s.clock).table })
        rw [← acts] at owned
        exact owned
      · exact (congrArg (fun unit : Thermal => unit.peers[n]?) thermal).trans (substitutePeers_place entry)
    · subst lost
      rw [State.applyShare_declared (by exact named) (by exact inCell)] at ends
      obtain ⟨bare, -, -, -, -, -, listening, shows⟩ := State.detach_discards .declaredLost
        (s := { s.taking line window with table := some (tbl.apply p (.lost stations) s.clock).table }) cell.symm
      exact ⟨_, ends, bare, listening, shows⟩
  · obtain ⟨line, window, ends, m1, opens, silent⟩ := exec_share_bare frame bare takes
    refine ⟨fun quiet => ?_, fun joining logs unnamed => ⟨fun room => ?_, fun full room => ?_⟩, fun stations joining lost named => ?_,
      fun listening loaded empty => ?_⟩
    · have same : window = s.join.window := silent (by simp [quiet])
      have takes : (s.taking line window).joinUnitTakes p q f = s.taking line window := by
        simp [State.joinUnitTakes, State.taking, quiet]
      rw [takes] at ends
      exact ⟨_, ends, bare, by rw [State.taking, same], m1, rfl⟩
    · have same : window = s.join.window := silent (by simp [joining])
      refine ⟨_, ends, ?_⟩
      rw [State.joinUnitTakes_logs p q (s := s.taking line window) joining logs unnamed room]
      exact ⟨bare, by rw [State.taking, same], rfl, rfl⟩
    · refine ⟨_, ends, ?_⟩
      rw [State.joinUnitTakes_full p q (s := s.taking line window) joining logs unnamed full,
        State.failJoin, State.pushM1_room (by exact m1 ▸ room)]
      exact ⟨rfl, rfl, rfl, congrArg (· ++ _) m1⟩
    · subst lost
      obtain ⟨-, -, -, -, -, -, listening, shows⟩ := State.detach_discards .declaredLost (s := s.taking line window) (.inr joining)
      refine ⟨_, ends, ?_⟩
      rw [State.joinUnitTakes_declared p q (s := s.taking line window) joining named]
      exact ⟨listening, shows⟩
    · refine ⟨_, ends, ?_⟩
      rw [State.joinUnitTakes_hears p q f (s := s.taking line window) listening loaded (m1.trans empty)]
      refine ⟨bare, listening, rfl, opens listening loaded, rfl, rfl, rfl, fun fields join founding first => ?_, fun ordinary => ?_⟩
      · subst join
        exact if_pos (by simp [State.taking, founding, first])
      · exact State.imageAfter_ordinary (s := s.taking line window) p ordinary

end Sys2Proof.Machine
end

section
/-! PROOF. What each share frame changes before the grant walk (R62, R67 to R72, R83, R84, R89, R118 to R120). -/

namespace Sys2Proof.Machine

open Sys2Proof

/-! ## An application: its change, the walk, the choice of the answering station -/

/-- The table with the frame counted (R62). -/
def Table.counted (t : Table) : Table := { t with seq := t.seq + 1 }

/-- The application of a frame walks over what the frame's change and the removal of the leavers' entries give (R62). -/
theorem Table.apply_changed {t r : Table} {p : Station} {f : ShareFrame} {now : Clock}
    (change : (t.counted.change p f now).dropLeavers t = r) :
    r.seq = t.seq + 1 ∧ (t.apply p f now).granted = r.grantWalk.2 ∧
      (t.apply p f now).table = { r.grantWalk.1 with answering := (t.apply p f now).table.answering } := by
  subst change
  exact ⟨t.counted.change_seq p f now, rfl, Table.serve_eq _ _ _⟩

theorem Table.apply_of_sameRoster {t r : Table} {p : Station} {f : ShareFrame} {now : Clock}
    (change : t.counted.change p f now = r) (roster : r.roster = t.roster) :
    r.seq = t.seq + 1 ∧ (t.apply p f now).granted = r.grantWalk.2 ∧
      (t.apply p f now).table = { r.grantWalk.1 with answering := (t.apply p f now).table.answering } :=
  Table.apply_changed (by rw [change, Table.dropLeavers_of_roster t r roster])

/-- The entries that go are those of the stations that were ATTACHED and are no longer (R62). -/
theorem Table.dropLeavers_claims {before t : Table} {gone : Station → Bool}
    (goes : ∀ n, ((before.entry n).state == .attached && (t.entry n).state != .attached) = gone n) :
    (t.dropLeavers before).claims = t.claims.filter (fun c => !gone c.station) := by
  simp only [Table.dropLeavers, goes]

theorem findPlace_updateAt {α : Type} {q : α → Bool} {g : α → α} (keeps : ∀ a, q (g a) = q a) (n : Nat) (l : List α) :
    findPlace q (updateAt g n l) = findPlace q l := by
  induction l generalizing n with
  | nil => cases n <;> rfl
  | cons a l ih => cases n <;> simp [updateAt, findPlace, keeps, ih]

/-- A grant empties a conflict set and moves nothing else of the roster (R66). -/
theorem Table.walk_lowest {q : RosterEntry → Bool} (keeps : ∀ r, q { r with conflict := 0 } = q r) (rest kept : List ClaimEntry)
    (t : Table) : (Table.walk kept rest t).1.lowest q = t.lowest q := by
  induction rest generalizing kept t with
  | nil => rfl
  | cons e rest ih =>
    rw [Table.walk]
    split
    · refine (ih kept (t.grant e)).trans ?_
      simp only [Table.lowest, Table.grant, findPlace_updateAt keeps]
    · exact ih _ t

theorem Table.walk_answerer (t : Table) : t.grantWalk.1.answerer = t.answerer :=
  Table.walk_lowest (fun _ => rfl) _ _ _

/-! ## JOIN -/

/-- An item is another station's, held or FENCED (R83). -/
def isOthers (p : Station) : Holder → Bool
  | .free => false
  | .station n => n != p
  | .fenced n => n != p

theorem isOthers_iff (p : Station) (h : Holder) : isOthers p h = true ↔ h ≠ .free ∧ h ≠ .station p ∧ h ≠ .fenced p := by
  cases h <;> simp [isOthers]

/-- The items that are other stations', and those that are the joiner's (R83). -/
def Table.others (p : Station) (t : Table) : ItemSet := placesMask 24 (isOthers p) 0 t.holders

def Table.owns (p : Station) (t : Table) : ItemSet :=
  placesMask 24 (fun h => h == Holder.station p || h == Holder.fenced p) 0 t.holders

theorem Table.join_eq (p : Station) (f : JoinFields) (t : Table) : t.join p f = { t with
    roster := updateAt (fun _ => f.entry .joining (itemZones (zoneItems f.standing &&& t.others p))) p.val t.roster
    holders := mapFrom (fun i h =>
      if (zoneItems f.standing).getLsbD i && !((t.others p).getLsbD i) then Holder.station p
      else if (t.owns p).getLsbD i then Holder.free
      else h) 0 t.holders
    slots := testSlots (t.owns p) t.slots } := by
  rfl

theorem Table.others_bit {t : Table} {i : Nat} (p : Station) (shape : t.wellShaped) (hi : i < 24) :
    (t.others p).getLsbD i = isOthers p (t.holder i) := by
  simp only [Table.others, placesMask_getLsbD _ _ _ _ _ hi, Nat.sub_zero, Table.holders_get_of_shape shape hi]
  simp

theorem Table.owns_bit {t : Table} {i : Nat} (p : Station) (shape : t.wellShaped) (hi : i < 24) :
    (t.owns p).getLsbD i = true ↔ t.holder i = .station p ∨ t.holder i = .fenced p := by
  simp only [Table.owns, placesMask_getLsbD _ _ _ _ _ hi, Nat.sub_zero, Table.holders_get_of_shape shape hi]
  simp

theorem zoneItems_bit {z : ZoneSet} {i : Nat} (hi : i < 24) : (zoneItems z).getLsbD i = true ↔ i < 16 ∧ z.getLsbD i = true := by
  rw [zoneItems, BitVec.getLsbD_setWidth]
  simp only [hi, decide_true, Bool.true_and]
  exact ⟨fun bit => ⟨BitVec.lt_of_getLsbD bit, bit⟩, And.right⟩

theorem Table.join_entry_other {t : Table} {p n : Station} (fields : JoinFields) (other : n ≠ p) :
    (t.join p fields).entry n = t.entry n :=
  Table.updateEntry_other _ other

theorem Table.join_entry_same {t : Table} (p : Station) (fields : JoinFields) (shape : t.wellShaped) :
    (t.join p fields).entry p = fields.entry .joining (itemZones (zoneItems fields.standing &&& t.others p)) :=
  Table.updateEntry_same (fun _ => fields.entry .joining _) (Nat.lt_of_lt_of_eq p.isLt shape.1.symm)

/-- The conflict set of a joiner: the zones of its standing set that are others' (R83). -/
theorem Table.join_conflict_bit {t : Table} {i : Nat} (p : Station) (z : ZoneSet) (shape : t.wellShaped) (hi : i < 16) :
    (itemZones (zoneItems z &&& t.others p)).getLsbD i = true ↔ z.getLsbD i = true ∧ isOthers p (t.holder i) = true := by
  rw [itemZones, BitVec.getLsbD_setWidth, BitVec.getLsbD_and, Table.others_bit p shape (by omega)]
  simp only [hi, decide_true, Bool.true_and, Bool.and_eq_true, zoneItems_bit (Nat.lt_trans hi (by decide : 16 < 24)), true_and]

theorem Table.join_holder {t : Table} {i : Nat} (p : Station) (fields : JoinFields) (shape : t.wellShaped) (hi : i < 24) :
    (t.join p fields).holder i =
      if isOthers p (t.holder i) = true then t.holder i
      else if i < 16 ∧ fields.standing.getLsbD i = true then .station p else .free := by
  apply Table.holder_of_get
  rw [Table.join_eq]
  simp only [mapFrom_getElem?, Table.holders_get_of_shape shape hi, Option.map_some, Nat.zero_add, Table.others_bit p shape hi]
  have zone := zoneItems_bit (z := fields.standing) hi
  have own := Table.owns_bit p shape hi
  by_cases named : (zoneItems fields.standing).getLsbD i = true
  · cases others : isOthers p (t.holder i)
    · simp [named, zone.mp named]
    · have apart : (t.owns p).getLsbD i = false := by
        have := (isOthers_iff p (t.holder i)).mp others
        grind
      simp [apart]
  · have unnamed : ¬ (i < 16 ∧ fields.standing.getLsbD i = true) := mt zone.mpr named
    rw [if_neg (by simp [named]), if_neg unnamed]
    by_cases mine : (t.owns p).getLsbD i = true
    · rcases own.mp mine with own | own <;> simp [mine, own, isOthers]
    · simp only [mine, if_false, Bool.false_eq_true]
      cases holder : t.holder i <;> simp_all [isOthers]

theorem Table.join_slot {t : Table} {n : Nat} (p : Station) (fields : JoinFields) (shape : t.wellShaped) (hn : n < 8) :
    (t.join p fields).slots[n]? =
      if t.holder (16 + n) = .station p ∨ t.holder (16 + n) = .fenced p then t.slots[n]?.map SlotRec.tested else t.slots[n]? := by
  have own := Table.owns_bit (i := 16 + n) p shape (by omega)
  rw [Table.join_eq]
  simp only [testSlots, mapFrom_getElem?, Nat.zero_add]
  by_cases mine : (t.owns p).getLsbD (16 + n) = true
  · simp only [mine, if_true, if_pos (own.mp mine)]
  · simp only [mine, if_neg (mt own.mpr mine), if_false, Bool.false_eq_true, Option.map_id']

end Sys2Proof.Machine
end

section
/-! PROOF. What each share frame changes before the grant walk (R62, R67 to R72, R84, R89, R118, R119). -/

namespace Sys2Proof.Machine

open Sys2Proof

/-! ## ATTACH, LOST, LEAVE -/

theorem Table.attach_frame (p : Station) (t : Table) :
    (t.attach p).holders = t.holders ∧ (t.attach p).slots = t.slots ∧ (t.attach p).claims = t.claims := by
  unfold Table.attach
  split <;> simp [Table.updateEntry]

theorem Table.attach_entry {t : Table} (p n : Station) (shape : t.wellShaped) :
    (t.attach p).entry n = if n = p ∧ (t.entry p).state = .joining then { t.entry p with state := .attached } else t.entry n := by
  have inside : p.val < t.roster.length := Nat.lt_of_lt_of_eq p.isLt shape.1.symm
  unfold Table.attach
  by_cases joining : (t.entry p).state = .joining
  · by_cases own : n = p
    · subst own
      simp [joining, Table.updateEntry_same _ inside]
    · simp [joining, own, Table.updateEntry_other _ own]
  · simp [joining]

theorem Table.lose_entry {t : Table} (stations : StationSet) (n : Station) (shape : t.wellShaped) :
    (t.lose stations).entry n = if stations.getLsbD n.val = true ∧ (t.entry n).state.inCell = true
      then { t.entry n with state := .lost, conflict := 0 } else t.entry n := by
  have inside : n.val < t.roster.length := Nat.lt_of_lt_of_eq n.isLt shape.1.symm
  have entry : t.roster[n.val]? = some (t.entry n) := by simp [Table.entry, inside]
  rw [Table.entry, Table.lose, List.getD_eq_getElem?_getD]
  simp only [mapFrom_getElem?, entry, Option.map_some, Nat.zero_add, Option.getD_some, Bool.and_eq_true]

/-- The holder of an item after a LOST (R71). -/
theorem Table.lose_holder {t : Table} {i : Nat} (stations : StationSet) (shape : t.wellShaped) (hi : i < 24) :
    (∀ n, t.holder i = .station n → (t.lose stations).holder i =
      if stations.getLsbD n.val = true ∧ (t.entry n).state.inCell = true then .fenced n else .station n) ∧
    ((∀ n, t.holder i ≠ .station n) → (t.lose stations).holder i = t.holder i) := by
  have place := Table.holders_get_of_shape shape hi
  refine ⟨fun n holder => Table.holder_of_get ?_, fun unheld => Table.holder_of_get ?_⟩
  · simp only [Table.lose, List.getElem?_map, place, Option.map_some, holder, Bool.and_eq_true]
  · simp only [Table.lose, List.getElem?_map, place, Option.map_some]

theorem Table.leave_entry {t : Table} {p : Station} (n : Station) (shape : t.wellShaped) (inCell : (t.entry p).state.inCell = true) :
    (t.leave p).entry n = if n = p then { t.entry p with state := .absent, conflict := 0, published := 0 } else t.entry n := by
  have inside : p.val < t.roster.length := Nat.lt_of_lt_of_eq p.isLt shape.1.symm
  rw [Table.leave, if_pos inCell]
  by_cases own : n = p
  · subst own
    rw [if_pos rfl]
    exact Table.updateEntry_same (fun r => { r with state := .absent, conflict := 0, published := 0 }) inside
  · rw [if_neg own]
    exact Table.updateEntry_other (fun r => { r with state := .absent, conflict := 0, published := 0 }) own

theorem Table.leave_holder {t : Table} {p : Station} {i : Nat} (shape : t.wellShaped) (inCell : (t.entry p).state.inCell = true)
    (hi : i < 24) :
    (t.leave p).holder i = if t.holder i = .station p
      then (if i < 16 ∧ (t.entry p).published.getLsbD i = true then .fenced p else .free) else t.holder i := by
  apply Table.holder_of_get
  rw [Table.leave, if_pos inCell]
  simp only [mapFrom_getElem?, Table.holders_get_of_shape shape hi, Option.map_some, Nat.zero_add, Bool.and_eq_true, decide_eq_true_eq,
    Table.heldBy_bit p (shape.2.1 ▸ hi) hi]

theorem testSlots_place {freed : ItemSet} {slots : List SlotRec} (n : Nat) :
    (testSlots freed slots)[n]? = if freed.getLsbD (16 + n) = true then slots[n]?.map SlotRec.tested else slots[n]? := by
  simp only [testSlots, mapFrom_getElem?, Nat.zero_add]
  split <;> simp [*]

theorem Table.leave_slot {t : Table} {p : Station} {n : Nat} (shape : t.wellShaped) (inCell : (t.entry p).state.inCell = true)
    (hn : n < 8) :
    (t.leave p).slots[n]? = if t.holder (16 + n) = .station p then t.slots[n]?.map SlotRec.tested else t.slots[n]? := by
  have item : 16 + n < 24 := by omega
  rw [Table.leave, if_pos inCell]
  simp only [testSlots_place, Table.heldBy_bit p (shape.2.1 ▸ item) item]

/-! ## CLAIM -/

theorem Table.claim_of_stranger {t : Table} {p : Station} (items : ItemSet) (now : Clock)
    (stranger : ¬ ((t.entry p).state = .attached ∧ (t.entry p).role = .arm)) : t.claim p items now = t := by
  have other : ((t.entry p).state == .attached && (t.entry p).role == .arm) = false :=
    Bool.eq_false_iff.mpr fun arm => stranger (by simpa only [Bool.and_eq_true, beq_iff_eq] using arm)
  unfold Table.claim
  rw [other]
  rfl

theorem Table.claim_again {t : Table} {p : Station} (items : ItemSet) (now : Clock)
    (arm : (t.entry p).state = .attached ∧ (t.entry p).role = .arm) (entered : ∃ c ∈ t.claims, c.station = p) :
    t.claim p items now =
      { t with claims := t.claims.map (fun c => if c.station == p then { c with items := items } else c) } := by
  unfold Table.claim
  rw [if_neg (by simp [arm]), if_pos (by simpa using entered)]

theorem Table.claim_first {t : Table} {p : Station} (items : ItemSet) (now : Clock)
    (arm : (t.entry p).state = .attached ∧ (t.entry p).role = .arm) (absent : ∀ c ∈ t.claims, c.station ≠ p) :
    (items &&& ~~~ t.heldBy p ≠ 0 → t.claims.length < 8 →
      t.claim p items now = { t with claims := t.claims ++ [{ station := p, items := items, noted := now }] }) ∧
    (items &&& ~~~ t.heldBy p = 0 → t.claim p items now = t) := by
  have claims : t.claim p items now = if items &&& ~~~ t.heldBy p = 0 then t
      else if t.claims.length < 8 then { t with claims := t.claims ++ [{ station := p, items := items, noted := now }] } else t := by
    unfold Table.claim
    rw [if_neg (by simp [arm]), if_neg (by simpa using absent)]
    simp only [beq_iff_eq]
  exact ⟨fun some room => by rw [claims, if_neg some, if_pos room], fun none => by rw [claims, if_pos none]⟩

/-! ## SLOT_SET and SLOT_SENSE -/

theorem Table.slotSet_eq (p : Station) (slot : Byte) (code : BitVec 16) (t : Table) :
    t.slotSet p slot code =
      if slot.toNat < 8 ∧ (t.holder (16 + slot.toNat) = .station p ∨
        (t.isPlanner p = true ∧ ∀ n, t.holder (16 + slot.toNat) ≠ .station n))
      then { t with slots := writeContents slot.toNat (contentsOfCode code) t.slots } else t := by
  unfold Table.slotSet
  cases t.holder (16 + slot.toNat) <;> simp

/-- What is left of a slot's contents when another slot is written: a probe is in one slot at most (R119). -/
def keptContents (written old : Contents) : Contents :=
  match written with
  | .probe id => if old = .probe id then .unknown else old
  | _ => old

theorem writeContents_place (slot n : Nat) (c : Contents) (slots : List SlotRec) :
    (writeContents slot c slots)[n]? =
      slots[n]?.map (fun r => { r with contents := if n = slot then c else keptContents c r.contents }) := by
  simp only [writeContents, mapFrom_getElem?, Nat.zero_add]
  refine congrArg (fun g => Option.map g slots[n]?) (funext fun r => ?_)
  by_cases own : n = slot
  · simp [own]
  · cases c with
    | probe id =>
      by_cases same : r.contents = .probe id <;> simp [own, same, keptContents]
    | _ => simp [own, keptContents]

/-- The contents of the slots after a write (R119). -/
theorem Table.contents_written {t : Table} {slot n : Nat} (c : Contents) (shape : t.wellShaped) (hn : n < 8) :
    ({ t with slots := writeContents slot c t.slots } : Table).contents n =
      if n = slot then c else keptContents c (t.contents n) := by
  have inside : n < t.slots.length := Nat.lt_of_lt_of_eq hn shape.2.2.symm
  simp only [Table.contents, List.getD_eq_getElem?_getD, writeContents_place]
  simp [inside]

theorem Table.slotSense_of_stranger {t : Table} {p : Station} (presences : SlotSet)
    (stranger : ¬ ((t.entry p).state = .attached ∧ (t.entry p).role = .arm)) : t.slotSense p presences = t := by
  unfold Table.slotSense
  rw [if_neg]
  simpa using stranger

theorem Table.slotSense_frame (p : Station) (presences : SlotSet) (t : Table) :
    (t.slotSense p presences).roster = t.roster ∧ (t.slotSense p presences).holders = t.holders ∧
    (t.slotSense p presences).claims = t.claims := by
  unfold Table.slotSense
  split <;> simp

theorem Table.slotSense_slot {t : Table} {p : Station} (presences : SlotSet) (n : Nat)
    (arm : (t.entry p).state = .attached ∧ (t.entry p).role = .arm) :
    (t.slotSense p presences).slots[n]? = t.slots[n]?.map (fun r =>
      let r' := { r with sensed := if presences.getLsbD n = true then .present else .absent }
      if t.holder (16 + n) = .free then r'.tested else r') := by
  unfold Table.slotSense
  rw [if_pos (by simp [arm])]
  simp only [mapFrom_getElem?, Nat.zero_add, beq_iff_eq]

/-! ## The answering station -/

theorem Table.change_answering (p : Station) (f : ShareFrame) (now : Clock) (t : Table) :
    (t.change p f now).answering = t.answering := by
  cases f with
  | attach => simp only [Table.change, Table.attach]; split <;> rfl
  | leave => simp only [Table.change, Table.leave]; split <;> rfl
  | claim items => simp only [Table.change, Table.claim]; (repeat' split) <;> rfl
  | clear item => exact (t.clear_frame p item).2.2.2.2
  | slotSet slot code => simp only [Table.change, Table.slotSet]; (repeat' split) <;> rfl
  | slotSense presences => simp only [Table.change, Table.slotSense]; split <;> rfl
  | _ => rfl

theorem Table.serve_idle {t : Table} {f : ShareFrame} (p : Station) (leaves : (∃ stations, f = .lost stations) ∨ f = .leave)
    (none : t.answering = none) : t.serve p f = (t, .none) := by
  obtain ⟨stations, rfl⟩ | rfl := leaves <;> simp [Table.serve, none]

theorem Table.serve_takeover {t : Table} {f : ShareFrame} {a j : Station} (p : Station)
    (leaves : (∃ stations, f = .lost stations) ∨ f = .leave) (answers : t.answering = some a) (gone : (t.entry a).state ≠ .attached)
    (joins : t.lowest (fun r => r.state == .joining) = some j) :
    t.serve p f = ({ t with answering := t.answerer },
      t.answerer.map (fun n => { by_ := n, dest := j, cause := .takeover })) := by
  obtain ⟨stations, rfl⟩ | rfl := leaves <;> simp [Table.serve, answers, gone, joins]

/-- What a LOST or a LEAVE makes of the answering station (R84). -/
theorem Table.apply_takeover {t : Table} {p : Station} {f : ShareFrame} {now : Clock}
    (leaves : (∃ stations, f = .lost stations) ∨ f = .leave) :
    let u := (t.apply p f now).table
    (t.answering = none → u.answering = none ∧ (t.apply p f now).capture = none) ∧
    (∀ a j, t.answering = some a → (u.entry a).state ≠ .attached → u.lowest (fun r => r.state == .joining) = some j →
      u.answering = u.answerer ∧
        (t.apply p f now).capture = u.answerer.map (fun n => { by_ := n, dest := j, cause := .takeover })) := by
  generalize walked_eq : ((t.counted.change p f now).dropLeavers t).grantWalk.1 = walked
  have table : (t.apply p f now).table = (walked.serve p f).1 := by subst walked_eq; rfl
  have capture : (t.apply p f now).capture = (walked.serve p f).2 := by subst walked_eq; rfl
  have answering : walked.answering = t.answering := by
    subst walked_eq
    exact (Table.walk_frame _ _ _).2.2.1.trans (t.counted.change_answering p f now)
  obtain ⟨-, roster, -⟩ := walked.serve_frame p f
  have entry (a : Station) : ((walked.serve p f).1.entry a) = walked.entry a := by simp only [Table.entry, roster]
  have lowest (q : RosterEntry → Bool) : (walked.serve p f).1.lowest q = walked.lowest q := by simp only [Table.lowest, roster]
  rw [table, capture, ← answering]
  refine ⟨fun none => ?_, fun a j answers gone joins => ?_⟩
  · rw [Table.serve_idle p leaves none]
    exact ⟨none, rfl⟩
  · rw [entry] at gone
    rw [lowest] at joins
    rw [show (walked.serve p f).1.answerer = walked.answerer from lowest _, Table.serve_takeover p leaves answers gone joins]
    exact ⟨rfl, rfl⟩

/-! ## The entries that go -/

theorem attached_and_not (z : RosterState) : (z == .attached && z != .attached) = false := by
  cases z <;> rfl

theorem Table.counted_entry (t : Table) (n : Station) : t.counted.entry n = t.entry n := rfl

theorem Table.attach_claims {t : Table} (p : Station) (shape : t.wellShaped) :
    ((t.counted.attach p).dropLeavers t).claims = t.claims := by
  have goes (n : Station) : ((t.entry n).state == .attached && ((t.counted.attach p).entry n).state != .attached) = false := by
    rw [Table.attach_entry (t := t.counted) p n shape]
    split
    next joining => simp
    next => exact attached_and_not _
  rw [Table.dropLeavers_claims goes, (t.counted.attach_frame p).2.2]
  simp [Table.counted]

theorem Table.join_claims {t : Table} (p : Station) (fields : JoinFields) (shape : t.wellShaped) :
    ((t.counted.join p fields).dropLeavers t).claims =
      t.claims.filter (fun c => !(c.station == p && (t.entry p).state == .attached)) := by
  refine Table.dropLeavers_claims (before := t) (t := t.counted.join p fields)
    (gone := fun n => n == p && (t.entry p).state == .attached) fun n => ?_
  by_cases own : n = p
  · subst own
    rw [Table.join_entry_same (t := t.counted) n fields shape]
    simp [JoinFields.entry]
  · rw [Table.join_entry_other fields own]
    exact (attached_and_not _).trans (by simp [own])

theorem Table.lose_claims {t : Table} (stations : StationSet) (shape : t.wellShaped) :
    ((t.counted.lose stations).dropLeavers t).claims =
      t.claims.filter (fun c => !(stations.getLsbD c.station.val && (t.entry c.station).state == .attached)) := by
  refine Table.dropLeavers_claims (gone := fun n => stations.getLsbD n.val && (t.entry n).state == .attached) fun n => ?_
  have entry : (t.counted.lose stations).entry n = if stations.getLsbD n.val = true ∧ (t.entry n).state.inCell = true
      then { t.entry n with state := .lost, conflict := 0 } else t.entry n := Table.lose_entry (t := t.counted) stations n shape
  rw [entry]
  by_cases named : stations.getLsbD n.val = true
  · rw [named, Bool.true_and]
    by_cases attached : (t.entry n).state = .attached
    · rw [if_pos ⟨rfl, by rw [attached]; rfl⟩, attached]
      rfl
    · have apart : ((t.entry n).state == .attached) = false := by simpa using attached
      rw [apart, Bool.false_and]
  · simp only [named, Bool.false_eq_true, false_and, if_false, attached_and_not, Bool.false_and]

theorem Table.leave_claims {t : Table} {p : Station} (shape : t.wellShaped) (inCell : (t.entry p).state.inCell = true) :
    ((t.counted.leave p).dropLeavers t).claims =
      t.claims.filter (fun c => !(c.station == p && (t.entry p).state == .attached)) := by
  have claims : (t.counted.leave p).claims = t.claims := by rw [Table.leave, if_pos (by exact inCell)]; rfl
  rw [← claims]
  refine Table.dropLeavers_claims (gone := fun n => n == p && (t.entry p).state == .attached) fun n => ?_
  rw [Table.leave_entry (t := t.counted) n shape inCell]
  simp only [Table.counted_entry]
  by_cases own : n = p
  · simp [own]
  · rw [if_neg own]
    exact (attached_and_not _).trans (by simp [own])

/-! ## Every frame -/

theorem SlotRec.tested_cases (id : ProbeId) (sense : Sensed) :
    SlotRec.tested { contents := .probe id, sensed := .absent } = { contents := .unknown, sensed := .absent } ∧
    SlotRec.tested { contents := .empty, sensed := .present } = { contents := .unknown, sensed := .present } ∧
    SlotRec.tested { contents := .unknown, sensed := sense } = { contents := .unknown, sensed := sense } ∧
    (sense ≠ .absent → SlotRec.tested { contents := .probe id, sensed := sense } = { contents := .probe id, sensed := sense }) ∧
    (sense ≠ .present → SlotRec.tested { contents := .empty, sensed := sense } = { contents := .empty, sensed := sense }) := by
  cases sense <;> simp [SlotRec.tested, SlotRec.disagrees]

/-- Settles O46. -/
theorem shareFramesChangeWhatTheirRulesSay : Obligations.ShareFramesChangeWhatTheirRulesSay := by
  unfold Obligations.ShareFramesChangeWhatTheirRulesSay
  refine ⟨SlotRec.tested_cases, fun t p now shape => ?_⟩
  dsimp only
  have shape' : t.counted.wellShaped := shape
  refine ⟨fun fields => ?_, ?_, fun stations => ?_, fun outside => ?_, fun inCell => ?_, fun items => ⟨fun stranger => ?_,
    fun arm entered => ?_, fun arm absent => ⟨fun some room => ?_, fun none => ?_⟩⟩, fun slot code => ⟨fun inert => ?_, fun applied => ?_⟩,
    fun presences => ⟨fun stranger => ?_, fun arm => ?_⟩, fun f leaves => Table.apply_takeover leaves⟩
  · have entry := Table.join_entry_same (t := t.counted) p fields shape'
    have others (i : Nat) := isOthers_iff p (t.holder i)
    refine ⟨(t.counted.join p fields).dropLeavers t, Table.apply_changed rfl, fun n other => Table.join_entry_other fields other, ?_, ?_, ?_,
      ?_, fun i hi => ?_, fun i hi => ⟨fun stays => ?_, fun own => ?_⟩, fun n hn => Table.join_slot p fields shape' hn,
      Table.join_claims p fields shape, Table.walk_answerer _, congrArg (Option.map fun n => ({ by_ := n, dest := p, cause := .join } : Capturing)) (Table.walk_answerer _)⟩
    · exact congrArg (·.state) entry
    · exact congrArg (·.role) entry
    · exact congrArg (·.serves) entry
    · exact congrArg (·.published) entry
    · refine (Bool.eq_iff_iff.mp (congrArg (fun e : RosterEntry => e.conflict.getLsbD i) entry)).trans ?_
      rw [← others]
      exact Table.join_conflict_bit p fields.standing shape' hi
    · exact (Table.join_holder p fields shape' hi).trans (if_pos ((others i).mpr stays))
    · exact (Table.join_holder p fields shape' hi).trans (if_neg (mt (others i).mp own))
  · obtain ⟨holders, slots, -⟩ := t.counted.attach_frame p
    exact ⟨_, Table.apply_changed rfl, holders, slots, Table.attach_claims p shape, fun n => Table.attach_entry p n shape'⟩
  · exact ⟨_, Table.apply_changed rfl, rfl, fun n => Table.lose_entry stations n shape', fun i hi => Table.lose_holder stations shape' hi,
      Table.lose_claims stations shape⟩
  · exact Table.apply_of_sameRoster (t := t) (f := .leave) (if_neg (by rw [Bool.not_eq_true]; exact outside)) rfl
  · exact ⟨_, Table.apply_changed rfl, fun n => Table.leave_entry n shape' inCell, fun i hi => Table.leave_holder shape' inCell hi,
      fun n hn => Table.leave_slot shape' inCell hn, Table.leave_claims shape inCell⟩
  · exact Table.apply_of_sameRoster (t := t) (f := .claim items) (Table.claim_of_stranger (t := t.counted) items now stranger) rfl
  · exact Table.apply_of_sameRoster (t := t) (f := .claim items) (Table.claim_again (t := t.counted) items now arm entered) rfl
  · exact Table.apply_of_sameRoster (t := t) (f := .claim items) ((Table.claim_first (t := t.counted) items now arm absent).1 some room) rfl
  · exact Table.apply_of_sameRoster (t := t) (f := .claim items) ((Table.claim_first (t := t.counted) items now arm absent).2 none) rfl
  · exact Table.apply_of_sameRoster (t := t) (f := .slotSet slot code) ((t.counted.slotSet_eq p slot code).trans (if_neg inert)) rfl
  · refine ⟨_, Table.apply_of_sameRoster (t := t) (f := .slotSet slot code) ((t.counted.slotSet_eq p slot code).trans (if_pos applied)) rfl, rfl, rfl, rfl,
      fun n hn => Table.contents_written _ shape' hn⟩
  · exact Table.apply_of_sameRoster (t := t) (f := .slotSense presences) (Table.slotSense_of_stranger (t := t.counted) presences stranger) rfl
  · obtain ⟨roster, holders, claims⟩ := t.counted.slotSense_frame p presences
    exact ⟨_, Table.apply_of_sameRoster (t := t) (f := .slotSense presences) rfl roster, roster, holders, claims, fun n _ => Table.slotSense_slot presences n arm⟩

end Sys2Proof.Machine
end

section
/-! PROOF. The formulas of the units: rounding, roles, correction, the mounted-probe record (R121, R122, R158, R161, R162). -/

namespace Sys2Proof.Machine

open Sys2Proof

/-! ## Rounding -/

/-- The nearest multiple, halves away from zero, of a magnitude. -/
theorem nearest_multiple (v d : Nat) (pos : 0 < d) :
    let r := (2 * v + d) / (2 * d) * d
    2 * v < 2 * r + d ∧ 2 * r ≤ 2 * v + d := by
  have le := Nat.div_mul_le_self (2 * v + d) (2 * d)
  have lt := Nat.lt_div_mul_add (a := 2 * v + d) (b := 2 * d) (by omega)
  have twice : (2 * v + d) / (2 * d) * (2 * d) = 2 * ((2 * v + d) / (2 * d) * d) := Nat.mul_left_comm _ 2 d
  dsimp only
  generalize (2 * v + d) / (2 * d) * d = r at *
  omega

theorem roundDiv_nearest (v : Int) (d : Nat) (pos : 0 < d) :
    2 * (roundDiv v d * d - v).natAbs ≤ d ∧ (2 * (roundDiv v d * d - v).natAbs = d → v.natAbs < (roundDiv v d * d).natAbs) := by
  have near := nearest_multiple v.natAbs d pos
  dsimp only at near
  have product : (((2 * v.natAbs + d) / (2 * d) : Nat) : Int) * (d : Int) = (((2 * v.natAbs + d) / (2 * d) * d : Nat) : Int) := by
    push_cast
    rfl
  unfold roundDiv
  generalize (2 * v.natAbs + d) / (2 * d) * d = r at *
  obtain ⟨low, high⟩ := near
  split
  · rw [Int.neg_mul, product]
    exact ⟨by omega, fun half => by omega⟩
  · rw [product]
    exact ⟨by omega, fun half => by omega⟩

theorem toLu_inRange {v : Int} (low : -2147483648 ≤ v) (high : v ≤ 2147483647) : (toLu v).toInt = v := by
  rw [toLu, if_pos ⟨low, high⟩, BitVec.toInt_ofInt]
  exact Int.bmod_eq_of_le (by omega) (by omega)

/-! ## Roles -/

/-- A role takes its primary source's reading when that is usable, otherwise its fallback's (R158). -/
theorem resolveRole_eq {t : Thermal} {r : RoleConf} {st : ChannelState} {v rate : Option Temp} (primary : sourceReading t r.primary = (st, v, rate)) :
    (st = .fresh → resolveRole t r = ⟨v, .good, rate⟩) ∧ (st = .subst → resolveRole t r = ⟨v, .degraded, rate⟩) := by
  constructor <;> rintro rfl <;> simp [resolveRole, primary]

theorem resolveRole_fallback {t : Thermal} {r : RoleConf} (stale : (sourceReading t r.primary).1 ≠ .fresh)
    (unusable : (sourceReading t r.primary).1 ≠ .subst) :
    (∀ source st v rate, r.fallback = some source → sourceReading t source = (st, v, rate) →
      resolveRole t r = if st = .fresh ∨ st = .subst then ⟨v, .degraded, rate⟩ else ⟨none, .none, none⟩) ∧
    (r.fallback = none → resolveRole t r = ⟨none, .none, none⟩) := by
  rcases primary : sourceReading t r.primary with ⟨st, v, rate⟩
  rw [primary] at stale unusable
  refine ⟨fun source st' v' rate' fallback reading => ?_, fun fallback => ?_⟩
  · cases st <;> cases st' <;> simp_all [resolveRole, RoleValue.none]
  · cases st <;> simp_all [resolveRole, RoleValue.none]

/-! ## Correction -/

theorem correctPoint_axis (c : Image) (part : PartData) (sx sy sz p arm : RoleValue) (tip : Vec3 Lu) (a : AxisName) :
    let scale : RoleValue := vget ⟨sx, sy, sz⟩ a
    let tipA : Int := (vget tip a).toInt
    let q10 : Int := tipA * 10 ^ 10 + scale.value.elim 0 (fun t => tipA * (vget c.scaleCoeff a).toNat * (t.toInt - 2000))
    let p20 : Int := q10 * 10 ^ 10 - p.value.elim 0 (fun t =>
      (q10 - (vget part.datum a).toInt * 10 ^ 10) * part.coeff.toNat * (t.toInt - 2000))
    vget (correctPoint c part [sx, sy, sz, p, arm] tip) a = toLu (roundDiv p20 (10 ^ 20)) := by
  have scale : roleAtIndex [sx, sy, sz, p, arm] (axisCode a) = vget ⟨sx, sy, sz⟩ a := by cases a <;> rfl
  have part' : roleAtIndex [sx, sy, sz, p, arm] 3 = p := rfl
  dsimp only
  rw [correctPoint, vget_vmap, scale, part']
  unfold correctCoordinate
  cases (vget (⟨sx, sy, sz⟩ : Vec3 RoleValue) a).value <;> cases p.value <;> simp

theorem correctionFlags_eq (part : PartData) (sx sy sz p arm : RoleValue) (settled shadow : Bool) :
    let flags := correctionFlags part [sx, sy, sz, p, arm] settled shadow
    (flags.uncorrected = true ↔ sx.value = none ∨ sy.value = none ∨ sz.value = none ∨ (part.coeff ≠ 0 ∧ p.value = none)) ∧
    (flags.degraded = true ↔ sx.quality = .degraded ∨ sy.quality = .degraded ∨ sz.quality = .degraded ∨
      (part.coeff ≠ 0 ∧ p.quality = .degraded)) ∧
    flags.unsettled = !settled ∧ flags.shadow = shadow := by
  have used : rolesUsed part [sx, sy, sz, p, arm] = [sx, sy, sz] ++ if part.coeff = 0 then [] else [p] := by
    by_cases plain : part.coeff = 0
    · simp [rolesUsed, plain]
    · rw [rolesUsed, if_neg (by simpa using plain), if_neg plain]
      rfl
  by_cases plain : part.coeff = 0
  · rw [if_pos plain] at used
    simp [correctionFlags, used, plain]
  · rw [if_neg plain] at used
    simp only [correctionFlags, used, ne_eq, plain, not_false_eq_true, true_and]
    simp

/-! ## The mounted-probe record -/

theorem Table.holds_iff (t : Table) (id : ProbeId) : t.holds id = true ↔ ∃ r ∈ t.slots, r.contents = .probe id := by
  simp [Table.holds]

theorem mountedAfter_eq (t : Table) (attached : Bool) (id : ProbeId) :
    let named : Prop := ∃ r ∈ t.slots, r.contents = .probe id
    mountedAfter t attached .none = .none ∧
    mountedAfter t attached (.unresolved .unreadable) = .unresolved .unreadable ∧
    (named → mountedAfter t attached (.resolved id) = .unresolved (.id id) ∧
      mountedAfter t attached (.unresolved (.id id)) = .unresolved (.id id)) ∧
    (¬ named → mountedAfter t attached (.resolved id) = .resolved id ∧
      mountedAfter t attached (.unresolved (.id id)) = if attached then .resolved id else .unresolved (.id id)) := by
  rw [← Table.holds_iff]
  cases holds : t.holds id <;> simp [mountedAfter, holds]

end Sys2Proof.Machine
end

section
/-! PROOF. The settle monitor and the staleness test at a scan completion (R163, R165). -/

namespace Sys2Proof.Machine

open Sys2Proof

theorem roleBad_iff (limit : BitVec 16) (r : RoleValue) :
    roleBad limit r = true ↔ r.value = none ∨ r.rate = none ∨ ∃ rate, r.rate = some rate ∧ limit.toNat < rate.toInt.natAbs := by
  unfold roleBad
  cases r.value <;> cases r.rate <;> simp

/-- The settle monitor finds a role without value or rate, or with a rate beyond the limit (R163). -/
def Thermal.unsteady (c : Image) (t : Thermal) : Prop :=
  ∃ r ∈ t.roles, r.value = none ∨ r.rate = none ∨ ∃ rate, r.rate = some rate ∧ c.rateLimit.toNat < rate.toInt.natAbs

theorem Thermal.unsteady_iff (c : Image) (t : Thermal) : t.roles.any (roleBad c.rateLimit) = true ↔ t.unsteady c := by
  simp only [List.any_eq_true, roleBad_iff, Thermal.unsteady]

/-- The settle monitor's evaluation (R163). -/
theorem evaluateSettle_settles (now : Clock) (c : Image) (t : Thermal) :
    let u := evaluateSettle now c t
    (t.unsteady c → u.steadySince = none ∧ u.settled = false) ∧
    (¬ t.unsteady c → t.steadySince = none → u.steadySince = some now ∧
      (u.settled = true ↔ t.settled = true ∨ c.settleTime = 0)) ∧
    (∀ since, ¬ t.unsteady c → t.steadySince = some since → u.steadySince = some since ∧
      (u.settled = true ↔ t.settled = true ∨ 1000 * c.settleTime.toNat ≤ (now - since).toNat)) := by
  refine ⟨fun bad => ?_, fun good first => ?_, fun since good runs => ?_⟩
  · rw [← Thermal.unsteady_iff] at bad
    simp [evaluateSettle, bad]
  · rw [← Thermal.unsteady_iff, Bool.not_eq_true] at good
    simp [evaluateSettle, good, first]
  · rw [← Thermal.unsteady_iff, Bool.not_eq_true] at good
    simp [evaluateSettle, good, runs, aged]

/-- The thermal unit as the settle monitor finds it at a scan completion (R152). -/
def State.toSettle (c : Image) (results : List (Nat × Judged)) (s : State) : Thermal :=
  let t := { s.thermal with
    channels := scanChannels s.clock c results s.thermal.channels
    peers := s.thermal.peers.map (PeerEntry.age s.clock (1000 * c.ageLimit.toNat))
    scan := none }
  { t with roles := resolveRoles c t }

theorem State.measure_eq (c : Image) (results : List (Nat × Judged)) (s : State) :
    s.measure c results =
      let t := evaluateSettle s.clock c (s.toSettle c results)
      if t.settled = s.thermal.settled then { s with thermal := t }
      else ({ s with thermal := t } : State).emit (.settle t.settled) := by
  generalize t_eq : evaluateSettle s.clock c (s.toSettle c results) = t
  have measured : s.measure c results =
      if t.settled != s.thermal.settled then ({ s with thermal := t } : State).emit (.settle t.settled) else { s with thermal := t } := by
    rw [← t_eq]
    rfl
  rw [measured]
  by_cases same : t.settled = s.thermal.settled <;> simp [same]

theorem State.endSoak_frame (s : State) :
    s.endSoak.events = s.events ∧ s.endSoak.probes = s.probes ∧ s.endSoak.mounted = s.mounted ∧ s.endSoak.setup = s.setup := by
  unfold State.endSoak
  split <;> simp

theorem State.fillThermal_events (content : ThermalContent) (s : State) : (s.fillThermal content).events = s.events := by
  simp

/-- What a scan completion makes of the settle state and its event (R163). -/
theorem State.scanned_settles (c : Image) (results : List (Nat × Judged)) (s : State) :
    let u := s.scanned c results
    u.thermal = evaluateSettle s.clock c (s.toSettle c results) ∧
    (u.thermal.settled = s.thermal.settled → u.events = s.events) ∧
    (u.thermal.settled ≠ s.thermal.settled → s.events.mask.getLsbD 8 = true → s.events.slots.length = 12 →
      ∃ slot, u.events.slots[8]? = some slot ∧ slot.pending = some (.settle u.thermal.settled)) := by
  have measured := s.measure_eq c results
  obtain ⟨thermal, -⟩ := (s.measure c results).endSoak_leaves
  obtain ⟨events, -⟩ := (s.measure c results).endSoak_frame
  have unit : (s.scanned c results).thermal = (s.measure c results).thermal := by simp [State.scanned, State.afterSettle, thermal]
  have shown : (s.scanned c results).events = (s.measure c results).events := by
    simp [State.scanned, State.afterSettle, events]
  dsimp only at measured ⊢
  rw [unit, shown]
  by_cases same : (evaluateSettle s.clock c (s.toSettle c results)).settled = s.thermal.settled
  · rw [if_pos same] at measured
    rw [measured]
    exact ⟨rfl, fun _ => rfl, fun moved => absurd same moved⟩
  · rw [if_neg same] at measured
    have unit' : (s.measure c results).thermal = evaluateSettle s.clock c (s.toSettle c results) := by rw [measured]; simp
    refine ⟨unit', fun kept => absurd (unit' ▸ kept) same, fun _ mask length => ?_⟩
    rw [unit', measured]
    exact State.emit_slot _ _ mask length

theorem ProbeRecord.judgeStale_defined (band : BitVec 16) (arm : Option Temp) (r : ProbeRecord) :
    (r.judgeStale band arm).defined.id = r.defined.id := by
  unfold ProbeRecord.judgeStale
  (repeat' split) <;> rfl

/-- The staleness test of the mounted probe's record (R165). -/
theorem State.scanned_stale {c : Image} {s : State} {id : ProbeId} {r : ProbeRecord} (results : List (Nat × Judged))
    (config : s.config = some c) (mounted : s.mounted.id = some id) (probe : s.probe id = some r) :
    (s.scanned c results).probe id =
      some (r.judgeStale c.band (roleAtIndex (s.scanned c results).thermal.roles 4).value) := by
  have measured : (s.measure c results).probes = s.probes ∧ (s.measure c results).mounted = s.mounted ∧
      (s.measure c results).setup = s.setup := by
    rw [State.measure_eq]
    dsimp only
    split <;> simp
  obtain ⟨probes, mounts, setup⟩ := measured
  obtain ⟨-, probes', mounts', setup'⟩ := (s.measure c results).endSoak_frame
  have config' : (s.measure c results).endSoak.config = some c := by
    rw [State.config, setup', setup]
    exact config
  have mounted' : (s.measure c results).endSoak.mounted.id = some id := by rw [mounts', mounts, mounted]
  have probe' : (s.measure c results).endSoak.probe id = some r := by
    rw [State.probe, probes', probes]
    exact probe
  have unit : (s.scanned c results).thermal = (s.measure c results).endSoak.thermal := by simp [State.scanned, State.afterSettle]
  have tested : (s.scanned c results).probes = ((s.measure c results).endSoak.updateProbe id
      (ProbeRecord.judgeStale c.band (roleAtIndex (s.scanned c results).thermal.roles 4).value)).probes := by
    rw [unit]
    simp [State.scanned, State.afterSettle, State.judgeStale, config', mounted']
  rw [State.probe, tested]
  exact State.probe_updateProbe _ (fun q => q.judgeStale_defined _ _) probe'

theorem ProbeRecord.judgeStale_qualified {r : ProbeRecord} {d : QualData} (band : BitVec 16) (v : Temp) (qualified : r.qual = .qualified)
    (data : r.data = some d) :
    r.judgeStale band (some v) = if band.toNat < (v.toInt - d.temp.toInt).natAbs then { r with qual := .stale } else r := by
  simp only [ProbeRecord.judgeStale, qualified, data]

theorem ProbeRecord.judgeStale_other {r : ProbeRecord} {arm : Option Temp} (band : BitVec 16) (other : r.qual ≠ .qualified ∨ arm = none) :
    r.judgeStale band arm = r := by
  unfold ProbeRecord.judgeStale
  obtain other | other := other <;> split <;> simp_all

end Sys2Proof.Machine
end

section
/-! PROOF. The end of a qualification (R143 to R145), and what the units compute. -/

namespace Sys2Proof.Machine

open Sys2Proof

/-! ## The end of a qualification -/

/-- The arm as it stands behind the back-off of a touch (R103, R143). -/
def State.touched (q : Qualification) (s : State) : State := ({ s.reachTarget with qual := some q } : State).moveDone.standStill

theorem State.touched_leaves (q : Qualification) (s : State) :
    let t := s.touched q
    t.run = s.run ∧ t.chg = s.chg ∧ t.probes = s.probes ∧ t.thermal = s.thermal ∧ t.setup = s.setup ∧ t.events = s.events ∧
    t.arm.shadow = s.arm.shadow := by
  simp [State.touched]

theorem exec_backOffEnd_last {c : Image} {m : Motion} {q : Qualification} {s : State} (config : s.config = some c)
    (moving : s.arm.st = .moving) (rolling : s.arm.stopping = none) (motion : s.arm.motion = some m) (act : m.act = .backOff)
    (free : m.thenHeld = false) (away : s.run.stack ≠ []) (qual : s.qual = some q) (last : q.touch = 5) :
    let q' := { q with results := if s.arm.shadow then [] else q.results ++ q.latched.toList, latched := none }
    exec .backOffEnd s = .next ((s.touched q').touchesDone c q').finish := by
  have running : s.running = some m := by simp [State.running, moving, rolling, motion]
  have config' : s.reachTarget.config = some c := by simpa [State.config] using config
  simp [exec, execBackOffEnd, running, act, away, State.touchDone, config', qual, last, State.heldAtStandstill, free, State.touched]

/-- A fault at a standstill without a change leaves the probe records (R12). -/
theorem State.faultStill_probes (r : FaultReport) {s : State} (none : s.chg.change = .none) : (s.faultStill r).probes = s.probes := by
  have same : (s.raise r).failChange = s.raise r := by simp [State.failChange, none]
  simp [State.faultStill, State.failAll, same]

/-- What a qualification that fails leaves (R144). -/
theorem State.qualification_fails {q : Qualification} {p : ProbeRecord} {s : State} (r : FaultReport) (none : s.chg.change = .none)
    (probe : s.probe q.id = some p) :
    let u := s.faultStill r
    u.lastFault = some r.code ∧ u.probe q.id = some p ∧ u.run.stack = [] ∧ u.run.st = .none ∧
      (s.events.mask.getLsbD 0 = true → s.events.slots.length = 12 → ∃ slot position,
        u.events.slots[0]? = some slot ∧ slot.pending = some (.fault r position)) := by
  refine ⟨by simp, ?_, by simp, by simp, fun mask length => ?_⟩
  · rw [State.probe, State.faultStill_probes r none]
    exact probe
  · obtain ⟨slot, place, pending⟩ := State.raise_slot r s mask length
    exact ⟨slot, s.positions, (s.faultStill_slot r).trans place, pending⟩

/-- What a qualification that passes leaves (R145). -/
theorem State.qualification_passes {id : ProbeId} {p : ProbeRecord} {t : State} (d : QualData) (radius : Lu)
    (probe : t.probe id = some p) :
    let u := ((t.updateProbe id (ProbeRecord.qualifyWith d)).emit (.qualEnd .done radius)).setTodo .beginReturn
    u.run = t.run ∧ u.arm.todo = some .beginReturn ∧ u.probe id = some { p with qual := .qualified, data := some d } ∧
      (t.events.mask.getLsbD 3 = true → t.events.slots.length = 12 → ∃ slot, u.events.slots[3]? = some slot ∧
        slot.pending = some (.qualEnd .done radius)) := by
  refine ⟨by simp, rfl, ?_, fun mask length => ?_⟩
  · have stored := State.probe_updateProbe (id := id) (ProbeRecord.qualifyWith d) (fun _ => rfl) probe
    simpa [State.probe, ProbeRecord.qualifyWith] using stored
  · exact State.emit_slot (.qualEnd .done radius) (t.updateProbe id (ProbeRecord.qualifyWith d)) mask length

/-- The judgement of a qualification's five results (R144, R145). -/
theorem State.judgeTouches_ends {c : Image} {q : Qualification} {p : ProbeRecord} {ax bx ay by_ cz : Lu} {t : State}
    (results : q.results = [ax, bx, ay, by_, cz]) (probe : t.probe q.id = some p) :
    let d : Int := c.sphereDiameter.toNat
    let twoRx : Int := bx.toInt - ax.toInt - d
    let twoRy : Int := by_.toInt - ay.toInt - d
    let beyond : Int := twoRx + twoRy - 4 * p.defined.radius.toInt
    let radius : Lu := toLu (roundDiv (twoRx + twoRy) 4)
    let offset : Vec3 Lu := ⟨toLu (roundDiv (2 * c.sphereCentre.x.toInt - (ax.toInt + bx.toInt)) 2),
      toLu (roundDiv (2 * c.sphereCentre.y.toInt - (ay.toInt + by_.toInt)) 2),
      toLu (roundDiv (4 * c.sphereCentre.z.toInt + 2 * d + (twoRx + twoRy) - 4 * cz.toInt) 4)⟩
    let u := t.judgeTouches c q p
    (4 * c.tolerance.toNat < beyond.natAbs → u = t.faultStill ⟨.qualFail, 0, toLu (roundDiv beyond 4)⟩) ∧
    (beyond.natAbs ≤ 4 * c.tolerance.toNat →
      (2 * c.tolerance.toNat < (twoRx - twoRy).natAbs → u = t.faultStill ⟨.qualFail, 1, toLu (roundDiv (twoRx - twoRy) 2)⟩) ∧
      ((twoRx - twoRy).natAbs ≤ 2 * c.tolerance.toNat →
        (t.armNow = none → u = t.faultStill ⟨.qualNoTemp, 0, 0⟩) ∧
        (∀ temp, t.armNow = some temp → u.run = t.run ∧ u.arm.todo = some .beginReturn ∧
          u.probe q.id = some { p with qual := .qualified, data := some { offset := offset, radius := radius, temp := temp } } ∧
          (t.events.mask.getLsbD 3 = true → t.events.slots.length = 12 → ∃ slot, u.events.slots[3]? = some slot ∧
            slot.pending = some (.qualEnd .done radius))))) := by
  dsimp only
  refine ⟨fun off => ?_, fun near => ⟨fun oval => ?_, fun round => ⟨fun blind => ?_, fun temp warm => ?_⟩⟩⟩
  · simp only [State.judgeTouches, results, qualify, if_pos off]
    rfl
  · simp only [State.judgeTouches, results, qualify, if_neg (Nat.not_lt.mpr near), if_pos oval]
    rfl
  · simp only [State.judgeTouches, results, qualify, if_neg (Nat.not_lt.mpr near), if_neg (Nat.not_lt.mpr round), blind]
    rfl
  · simp only [State.judgeTouches, results, qualify, if_neg (Nat.not_lt.mpr near), if_neg (Nat.not_lt.mpr round), warm]
    exact State.qualification_passes _ _ probe

/-- What the last back-off of a qualification brings (R144, R145). -/
theorem qualification_ends {c : Image} {m : Motion} {q : Qualification} {p : ProbeRecord} {ax bx ay by_ cz : Lu} {s : State}
    (config : s.config = some c) (moving : s.arm.st = .moving) (rolling : s.arm.stopping = none) (motion : s.arm.motion = some m)
    (act : m.act = .backOff) (free : m.thenHeld = false) (away : s.run.stack ≠ []) (change : s.chg.change = none)
    (qual : s.qual = some q) (last : q.touch = 5) (probe : s.probe q.id = some p) :
    let d : Int := c.sphereDiameter.toNat
    let twoRx : Int := bx.toInt - ax.toInt - d
    let twoRy : Int := by_.toInt - ay.toInt - d
    let beyond : Int := twoRx + twoRy - 4 * p.defined.radius.toInt
    let radius : Lu := toLu (roundDiv (twoRx + twoRy) 4)
    let offset : Vec3 Lu := ⟨toLu (roundDiv (2 * c.sphereCentre.x.toInt - (ax.toInt + bx.toInt)) 2),
      toLu (roundDiv (2 * c.sphereCentre.y.toInt - (ay.toInt + by_.toInt)) 2),
      toLu (roundDiv (4 * c.sphereCentre.z.toInt + 2 * d + (twoRx + twoRy) - 4 * cz.toInt) 4)⟩
    let fails (code : FaultCode) (detail : Byte) (value : BitVec 32) : Prop := ∃ u : State,
      exec .backOffEnd s = .next u.finish ∧ u.lastFault = some code ∧ u.probe q.id = some p ∧ u.run.stack = [] ∧
      u.run.st = .none ∧ (s.events.mask.getLsbD 0 = true → s.events.slots.length = 12 → ∃ slot position,
        u.events.slots[0]? = some slot ∧ slot.pending = some (.fault ⟨code, detail, value⟩ position))
    (s.arm.shadow = true → ∃ u : State, exec .backOffEnd s = .next u.finish ∧ u.probes = s.probes ∧
      u.arm.todo = some .beginReturn ∧ (s.events.mask.getLsbD 3 = true → s.events.slots.length = 12 →
        ∃ slot, u.events.slots[3]? = some slot ∧ slot.pending = some (.qualEnd .simulated 0))) ∧
    (s.arm.shadow = false → q.results = [ax, bx, ay, by_] → q.latched = some cz →
      (4 * c.tolerance.toNat < beyond.natAbs → fails .qualFail 0 (toLu (roundDiv beyond 4))) ∧
      (beyond.natAbs ≤ 4 * c.tolerance.toNat →
        (2 * c.tolerance.toNat < (twoRx - twoRy).natAbs → fails .qualFail 1 (toLu (roundDiv (twoRx - twoRy) 2))) ∧
        ((twoRx - twoRy).natAbs ≤ 2 * c.tolerance.toNat →
          (s.armNow = none → fails .qualNoTemp 0 0) ∧
          (∀ temp, s.armNow = some temp → ∃ u : State, exec .backOffEnd s = .next u.finish ∧ u.run = s.run ∧
            u.arm.todo = some .beginReturn ∧
            u.probe q.id = some { p with qual := .qualified, data := some { offset := offset, radius := radius, temp := temp } } ∧
            (s.events.mask.getLsbD 3 = true → s.events.slots.length = 12 → ∃ slot, u.events.slots[3]? = some slot ∧
              slot.pending = some (.qualEnd .done radius)))))) := by
  have ends := exec_backOffEnd_last config moving rolling motion act free away qual last
  dsimp only at ends ⊢
  generalize q_eq : ({ q with results := if s.arm.shadow then [] else q.results ++ q.latched.toList, latched := none } : Qualification) = q'
    at ends
  have id : q'.id = q.id := by rw [← q_eq]
  obtain ⟨run, chg, probes, thermal, setup, events, shadow⟩ := s.touched_leaves q'
  generalize s.touched q' = t at *
  have probe' : t.probe q'.id = some p := by
    rw [State.probe, probes, id]
    exact probe
  refine ⟨fun shadowed => ?_, fun plain results latched => ?_⟩
  · have done : t.touchesDone c q' = (t.emit (.qualEnd .simulated 0)).setTodo .beginReturn := by simp [State.touchesDone, shadow, shadowed]
    rw [done] at ends
    refine ⟨_, ends, by simpa using probes, rfl, fun mask length => ?_⟩
    exact State.emit_slot (.qualEnd .simulated 0) t (by rw [events]; exact mask) (by rw [events]; exact length)
  · have done : t.touchesDone c q' = t.judgeTouches c q' p := by simp [State.touchesDone, shadow, plain, probe']
    have five : q'.results = [ax, bx, ay, by_, cz] := by simp [← q_eq, plain, results, latched]
    have none : t.chg.change = none := by rw [chg, change]
    have arm : t.armNow = s.armNow := by simp only [State.armNow, State.config, setup, thermal]
    have failing (r : FaultReport) := State.qualification_fails (q := q') r none probe'
    obtain ⟨off, near⟩ := State.judgeTouches_ends (c := c) five probe'
    rw [done] at ends
    rw [id, events] at failing
    refine ⟨fun far => ?_, fun close => ⟨fun oval => ?_, fun round => ⟨fun blind => ?_, fun temp warm => ?_⟩⟩⟩
    · rw [off far] at ends
      exact ⟨_, ends, failing _⟩
    · rw [(near close).1 oval] at ends
      exact ⟨_, ends, failing _⟩
    · rw [((near close).2 round).1 (arm.trans blind)] at ends
      exact ⟨_, ends, failing _⟩
    · have passes := ((near close).2 round).2 temp (arm.trans warm)
      rw [id, events, run] at passes
      exact ⟨_, ends, passes⟩

/-! ## The mounted probe at an application -/

theorem State.abortAll_mounted {s : State} (none : s.chg.change = .none) : s.abortAll.mounted = s.mounted := by
  have same : s.interrupt.abortChange = s.interrupt := by simp [State.abortChange, none]
  simp [State.abortAll, same]

theorem State.stopAll_mounted (why : RunEndReason) (b : Byte) {s : State} (none : s.chg.change = .none) :
    (s.stopAll why b).mounted = s.mounted := by
  unfold State.stopAll
  dsimp only
  (repeat' split) <;> simp [State.abortAll_mounted none, State.flush]

theorem State.loseOwner_mounted (gone : StationSet) {s : State} (none : s.chg.change = .none) : (s.loseOwner gone).mounted = s.mounted := by
  unfold State.loseOwner
  (repeat' split) <;> simp [State.stopAll_mounted, none]

/-- The mounted-probe record after an application (R121, R122). -/
theorem State.shareActs_mounted {t : Table} (p : Station) (f : ShareFrame) (gone : StationSet) (a : Applied) {s : State}
    (none : s.chg.change = .none) (table : s.table = some t) :
    (s.shareActs p f gone a).mounted = mountedAfter t (s.join.st == .attached) s.mounted := by
  obtain ⟨line, snapshot, -⟩ := State.snapshotApplied_eq a ((s.loseOwner gone).lineApplied p f gone)
  obtain ⟨-, -, -, join, table', -⟩ := s.loseOwner_frame gone
  have mounted := State.loseOwner_mounted gone none
  have checked : (s.tableActs p f gone a).mounted = mountedAfter t (s.join.st == .attached) s.mounted := by
    rw [State.tableActs, snapshot]
    simp [State.lineApplied, State.checkMounted, table', table, join, mounted]
  simpa [State.shareActs] using checked

/-! ## What the units compute -/

/-- Settles O3. -/
theorem measurementsFollowTheirFormulas : Obligations.MeasurementsFollowTheirFormulas := by
  unfold Obligations.MeasurementsFollowTheirFormulas
  refine ⟨roundDiv_nearest, fun v low high => toLu_inRange low high, fun c m q p ax bx ay by_ cz s config moving rolling motion act free
    away change qual last probe => ?_, fun t r st v rate => ⟨resolveRole_eq, fun stale unusable => ?_⟩,
    fun c part sx sy sz p arm tip a settled shadow => ?_, fun c results s config scan => ?_, mountedAfter_eq,
    fun c p q f tbl s frame table other active inOrder unnamed change shut => ?_⟩
  · exact qualification_ends config moving rolling motion act free away change qual last probe
  · obtain ⟨fallback, bare⟩ := resolveRole_fallback stale unusable
    exact ⟨fun source some reading => fallback source st v rate some reading, bare⟩
  · obtain ⟨uncorrected, degraded, unsettled, shadow'⟩ := correctionFlags_eq part sx sy sz p arm settled shadow
    exact ⟨correctPoint_axis c part sx sy sz p arm tip a, uncorrected, degraded, unsettled, shadow'⟩
  · have ends : exec .scanCompletion s = .next (s.scanned c results).finish := by
      simp [exec, execScanCompletion, scan, State.completeScan, config, State.scanned]
    obtain ⟨unit, kept, moved⟩ := s.scanned_settles c results
    obtain ⟨bad, first, runs⟩ := evaluateSettle_settles s.clock c (s.toSettle c results)
    have roles : (s.scanned c results).thermal.unsteady c ↔ (s.toSettle c results).unsteady c := by
      rw [unit, Thermal.unsteady, (evaluateSettle_leaves s.clock c (s.toSettle c results)).2.2.1]
      rfl
    refine ⟨_, ends, ?_⟩
    dsimp only
    rw [← unit] at bad first runs
    refine ⟨fun worse => bad (roles.mp worse), fun good => first (mt roles.mpr good), fun since good => runs since (mt roles.mpr good), moved,
      kept, fun id r mounted probe => ?_⟩
    rw [State.scanned_stale results config mounted probe]
    exact ⟨fun d v qualified data arm => by rw [arm, ProbeRecord.judgeStale_qualified _ _ qualified data],
      fun other => by rw [ProbeRecord.judgeStale_other _ other]⟩
  · obtain ⟨line, window, ends⟩ := exec_share_applied frame table (.inr ⟨other, active, .inl inOrder⟩)
    rw [State.applyShare_blocks (s := s.taking line window) (fun stations lost => .inl (unnamed stations lost))] at ends
    have plain := State.blocksAct_plain (p := p) (f := f) (tbl.leaving p f) (tbl.apply p f s.clock)
      (s := { s.taking line window with table := some (tbl.apply p f s.clock).table }) (.inl other)
    have mounted := State.shareActs_mounted p f (tbl.leaving p f) (tbl.apply p f s.clock)
      (s := { s.taking line window with table := some (tbl.apply p f s.clock).table }) change rfl
    exact ⟨_, ends, (congrArg (·.mounted) plain).trans mounted⟩

end Sys2Proof.Machine
end

section
/-! PROOF. A millisecond without a command (R3, R14, R31, R32, log 1). -/

namespace Sys2Proof.Machine

open Sys2Proof

/-! ## The advance along a path -/

/-- An axis keeps all but its setpoint and, in shadow mode, its position. -/
def onlyItsPlaceMoves (shadow : Bool) (before after : AxisChannel) : Prop :=
  { after with setpoint := before.setpoint, pos := before.pos } = before ∧ (shadow = false → after.pos = before.pos)

@[simp] theorem onlyItsPlaceMoves_same (shadow : Bool) (a : AxisChannel) : onlyItsPlaceMoves shadow a a :=
  ⟨rfl, fun _ => rfl⟩

theorem State.moveSetpoints_moves (v : Vec3 Lu) (a : AxisName) (s : State) :
    onlyItsPlaceMoves s.arm.shadow (vget s.axes a) (vget (s.moveSetpoints v).axes a) := by
  rw [State.moveSetpoints_axis]
  exact ⟨rfl, fun real => by simp [real]⟩

theorem State.moveAlong_seek {m : Motion} {axis : AxisName} {c : Image} (more : Nat) (s : State) (seek : m.act = .seek axis)
    (config : s.config = some c) :
    s.moveAlong m more =
      s.moveSetpoints (vset s.setpoints axis (seekPlace (vget c.axes axis) (vget s.setpoints axis) more)) := by
  unfold State.moveAlong
  simp only [seek, config]

/-- The advance moves setpoints, and counts what is gone of the path; it does nothing else. -/
theorem State.moveAlong_shape {m : Motion} (more : Nat) (s : State) (motion : s.arm.motion = some m) :
    ∃ gone, s.moveAlong m more =
      { s with axes := (s.moveAlong m more).axes, arm := { s.arm with motion := some { m with gone := gone } } } := by
  unfold State.moveAlong
  have kept : { s.arm with motion := some { m with gone := m.gone } } = s.arm := by simp [← motion]
  split
  · exact ⟨m.gone, by rw [kept]; rfl⟩
  · exact ⟨_, rfl⟩
  · exact ⟨m.gone, by rw [kept]⟩

theorem State.moveAlong_moves (m : Motion) (more : Nat) (a : AxisName) (s : State) :
    onlyItsPlaceMoves s.arm.shadow (vget s.axes a) (vget (s.moveAlong m more).axes a) := by
  unfold State.moveAlong
  split
  · exact s.moveSetpoints_moves _ a
  · exact s.moveSetpoints_moves _ a
  · simp

theorem State.setpoints_axis (s : State) (a : AxisName) : vget s.setpoints a = (vget s.axes a).setpoint :=
  vget_vmap _ _ _

/-! ## The millisecond -/

theorem State.tick_resting {s : State} (rest : s.travelling = false) :
    s.tick = { s with
      clock := s.clock + 1, freeCount := s.freeCount + 1, arm := { s.arm with motion := s.arm.motion.map Motion.count } } := by
  unfold State.tick
  cases motion : s.arm.motion <;> simp [rest, motion]

/-- A travelling arm has a motion. -/
theorem State.motion_of_travelling {s : State} (travels : s.travelling = true) : ∃ m, s.arm.motion = some m := by
  unfold State.travelling at travels
  cases motion : s.arm.motion
  · simp [motion] at travels
  · exact ⟨_, rfl⟩

theorem State.tick_travelling {s : State} {m : Motion} (travels : s.travelling = true) (motion : s.arm.motion = some m) :
    ∃ gone, s.tick = { s with
      clock := s.clock + 1, freeCount := s.freeCount + 1, axes := (s.moveAlong m (s.advanceOf m)).axes
      arm := { s.arm with
        motion := some (Motion.slowTo (s.slowing m) (s.advanceOf m) { m with gone := gone }).count } } := by
  obtain ⟨gone, shape⟩ := s.moveAlong_shape (s.advanceOf m) motion
  refine ⟨gone, ?_⟩
  generalize (s.moveAlong m (s.advanceOf m)).axes = axes at shape ⊢
  simp [State.tick, motion, travels, State.advanceSetpoints, shape]

theorem State.tick_axes {s : State} {m : Motion} (travels : s.travelling = true) (motion : s.arm.motion = some m) :
    s.tick.axes = (s.moveAlong m (s.advanceOf m)).axes := by
  obtain ⟨_, shape⟩ := State.tick_travelling travels motion
  rw [shape]

theorem State.tick_places {s : State} {m : Motion} (travels : s.travelling = true) (motion : s.arm.motion = some m) :
    s.tick.setpoints = (s.moveAlong m (s.advanceOf m)).setpoints := by
  unfold State.setpoints
  rw [State.tick_axes travels motion]

theorem State.moveAlong_places {m : Motion} {target : Vec3 Lu} (more : Nat) (s : State) (straight : ∀ a, m.act ≠ .seek a)
    (goal : m.target = some target) :
    (s.moveAlong m more).setpoints = placeOnPath m.startedAt target (m.goneAfter target more) := by
  rw [State.moveAlong_target more s straight goal]
  exact State.moveSetpoints_setpoints _ s

theorem Motion.goneAfter_short {m : Motion} {target : Vec3 Lu} (more : Nat)
    (short : m.gone * m.gone < pathSquare m.startedAt target) : m.goneAfter target more = m.gone + more := by
  simp [Motion.goneAfter, Nat.not_le.mpr short]

theorem placeOnPath_end {start target : Vec3 Lu} {gone : Nat} (far : pathSquare start target ≤ gone * gone) :
    placeOnPath start target gone = target := by
  simp [placeOnPath, far]

theorem Motion.goneAfter_far {m : Motion} {target : Vec3 Lu} (more : Nat)
    (far : pathSquare m.startedAt target ≤ m.gone * m.gone) : m.goneAfter target more = m.gone := by
  simp [Motion.goneAfter, far]

/-- In a seek the setpoint of the seeking axis moves, and no other. -/
theorem State.moveAlong_seekPlaces {m : Motion} {axis : AxisName} {c : Image} (more : Nat) (s : State)
    (seek : m.act = .seek axis) (config : s.config = some c) :
    (vget (s.moveAlong m more).axes axis).setpoint = seekPlace (vget c.axes axis) (vget s.axes axis).setpoint more ∧
    ∀ b, b ≠ axis → (vget (s.moveAlong m more).axes b).setpoint = (vget s.axes b).setpoint := by
  rw [State.moveAlong_seek more s seek config]
  refine ⟨?_, fun b other => ?_⟩
  · simp [vget_vset_same, State.setpoints_axis]
  · simp [vget_vset_other _ _ other, State.setpoints_axis]

/-! ## How far it goes -/

theorem State.advanceOf_slowing {s : State} {m : Motion} {c : Image} (config : s.config = some c)
    (slows : s.slowing m = true) :
    s.advanceOf m = min m.speed (Config.advanceInStop (s.stopRates c) m.speed s.freeCount) := by
  simp [State.advanceOf, slows, config]

theorem State.advanceOf_free {s : State} {m : Motion} (free : s.slowing m = false) : s.advanceOf m = m.feedSpeed := by
  simp [State.advanceOf, free]

theorem State.slowing_iff (s : State) (m : Motion) :
    s.slowing m = true ↔ s.arm.stopping ≠ none ∨ (m.origin = .seek ∧ s.arm.markMet = true) := by
  simp [State.slowing, Option.isSome_iff_ne_none]

theorem State.slowing_eq_false_iff (s : State) (m : Motion) :
    s.slowing m = false ↔ s.arm.stopping = none ∧ (m.origin = .seek → s.arm.markMet = false) := by
  rw [← Bool.not_eq_true, State.slowing_iff]
  cases stop : s.arm.stopping <;> cases met : s.arm.markMet <;> simp

/-! ## What a millisecond leaves and does -/

theorem State.tick_leaves (s : State) :
    s.tick.clock = s.clock + 1 ∧
    { s.tick with clock := s.clock, freeCount := s.freeCount, axes := s.axes, arm := s.arm } = s ∧
    { s.tick.arm with motion := s.arm.motion } = s.arm := by
  cases travels : s.travelling
  · rw [State.tick_resting travels]
    exact ⟨rfl, rfl, rfl⟩
  · obtain ⟨m, motion⟩ := State.motion_of_travelling travels
    obtain ⟨gone, shape⟩ := State.tick_travelling travels motion
    rw [shape]
    exact ⟨rfl, rfl, rfl⟩

theorem State.tick_moves (a : AxisName) (s : State) :
    onlyItsPlaceMoves s.arm.shadow (vget s.axes a) (vget s.tick.axes a) := by
  cases travels : s.travelling
  · rw [State.tick_resting travels]
    exact onlyItsPlaceMoves_same _ _
  · obtain ⟨m, motion⟩ := State.motion_of_travelling travels
    rw [State.tick_axes travels motion]
    exact State.moveAlong_moves ..

/-- In shadow mode the positions follow the setpoints. -/
theorem State.tick_follows {s : State} {m : Motion} (a : AxisName) (shadow : s.arm.shadow = true)
    (travels : s.travelling = true) (motion : s.arm.motion = some m) (goal : m.target ≠ none)
    (straight : ∀ b, m.act ≠ .seek b) : (vget s.tick.axes a).pos = (vget s.tick.axes a).setpoint := by
  obtain ⟨target, goal⟩ := Option.ne_none_iff_exists'.mp goal
  rw [State.tick_axes travels motion, State.moveAlong_target _ s straight goal]
  simp [shadow]

/-- A dwell counts, and the motion is otherwise the one in progress. -/
theorem State.tick_motion {s : State} {m : Motion} (motion : s.arm.motion = some m) :
    ∃ m', s.tick.arm.motion = some m' ∧ { m' with gone := m.gone, slowed := m.slowed, dwellLeft := m.dwellLeft } = m ∧
      (m.dwellLeft = none → m'.dwellLeft = none) ∧
      (∀ left, m.dwellLeft = some left → m'.dwellLeft = some (if left = 0 then 0 else left - 1)) := by
  cases travels : s.travelling
  · refine ⟨m.count, by rw [State.tick_resting travels, motion]; rfl, rfl, fun none => ?_, fun left some => ?_⟩
    · simp [Motion.count, none]
    · simp [Motion.count, some]
  · obtain ⟨gone, shape⟩ := State.tick_travelling travels motion
    refine ⟨(Motion.slowTo (s.slowing m) (s.advanceOf m) { m with gone := gone }).count, congrArg (·.arm.motion) shape,
      rfl, fun none => ?_, fun left some => ?_⟩
    · simp [Motion.count, Motion.slowTo, none]
    · simp [Motion.count, Motion.slowTo, some]

/-- On its way to a target the arm goes as far as its feed brings it (R3). -/
theorem State.tick_onPath {s : State} {m : Motion} {target : Vec3 Lu} {feed : BitVec 16} (travels : s.travelling = true)
    (motion : s.arm.motion = some m) (run : s.arm.stopping = none) (origin : m.origin ≠ .seek)
    (straight : ∀ a, m.act ≠ .seek a) (goal : m.target = some target) (fed : m.feed = some feed) :
    (m.gone * m.gone < pathSquare m.startedAt target →
      s.tick.setpoints = placeOnPath m.startedAt target (m.gone + feed.toNat)) ∧
    (pathSquare m.startedAt target ≤ m.gone * m.gone → s.tick.setpoints = target) := by
  have free : s.slowing m = false := (s.slowing_eq_false_iff m).mpr ⟨run, fun seek => absurd seek origin⟩
  rw [State.tick_places travels motion, State.advanceOf_free free, State.moveAlong_places _ s straight goal]
  refine ⟨fun short => ?_, fun far => ?_⟩
  · simp [Motion.goneAfter_short _ short, Motion.feedSpeed, fed]
  · rw [Motion.goneAfter_far _ far, placeOnPath_end far]

/-- A slowing arm stays on its path, and goes no farther than in the millisecond before (R14, R32). -/
theorem State.tick_slows {s : State} {m : Motion} {c : Image} (travels : s.travelling = true)
    (motion : s.arm.motion = some m) (config : s.config = some c)
    (slows : s.arm.stopping ≠ none ∨ (m.origin = .seek ∧ s.arm.markMet = true)) :
    let advance := min m.speed (Config.advanceInStop (s.stopRates c) m.speed s.freeCount)
    (∀ m', s.tick.arm.motion = some m' → m'.speed = advance ∧ m'.speed ≤ m.speed) ∧
    (∀ target, (∀ a, m.act ≠ .seek a) → m.target = some target → m.gone * m.gone < pathSquare m.startedAt target →
      s.tick.setpoints = placeOnPath m.startedAt target (m.gone + advance)) ∧
    (∀ axis, m.act = .seek axis →
      (vget s.tick.axes axis).setpoint = seekPlace (vget c.axes axis) (vget s.axes axis).setpoint advance ∧
      ∀ b, b ≠ axis → (vget s.tick.axes b).setpoint = (vget s.axes b).setpoint) := by
  rw [← State.slowing_iff] at slows
  rw [← State.advanceOf_slowing config slows]
  refine ⟨fun m' now => ?_, fun target straight goal short => ?_, fun axis seek => ?_⟩
  · obtain ⟨gone, shape⟩ := State.tick_travelling travels motion
    have speed : m'.speed = s.advanceOf m := by
      rw [shape] at now
      rw [← Option.some.inj now]
      simp [Motion.speed, Motion.count, Motion.slowTo, slows]
    refine ⟨speed, ?_⟩
    rw [speed, State.advanceOf_slowing config slows]
    exact Nat.min_le_left _ _
  · rw [State.tick_places travels motion, State.moveAlong_places _ s straight goal, Motion.goneAfter_short _ short]
  · rw [State.tick_axes travels motion]
    exact State.moveAlong_seekPlaces _ s seek config

/-- A seek moves its own axis, as far as its feed brings it (R14). -/
theorem State.tick_seeks {s : State} {m : Motion} {axis : AxisName} {c : Image} {feed : BitVec 16}
    (travels : s.travelling = true) (motion : s.arm.motion = some m) (run : s.arm.stopping = none)
    (unmet : s.arm.markMet = false) (seek : m.act = .seek axis) (fed : m.feed = some feed) (config : s.config = some c) :
    (vget s.tick.axes axis).setpoint = seekPlace (vget c.axes axis) (vget s.axes axis).setpoint feed.toNat ∧
    ∀ b, b ≠ axis → (vget s.tick.axes b).setpoint = (vget s.axes b).setpoint := by
  have free : s.slowing m = false := (s.slowing_eq_false_iff m).mpr ⟨run, fun _ => unmet⟩
  have advance : s.advanceOf m = feed.toNat := by simp [State.advanceOf_free free, Motion.feedSpeed, fed]
  rw [State.tick_axes travels motion, ← advance]
  exact State.moveAlong_seekPlaces _ s seek config

theorem step_of_noCommand {s : State} (empty : s.pending = []) : step s = .next s.tick := by
  simp [step, empty]

end Sys2Proof.Machine
end

section
/-! PROOF. A standing arm takes the head segment of its run (R26 to R31), and the end of a command (R92). -/

namespace Sys2Proof.Machine

open Sys2Proof

/-! ## An active run that fails -/

theorem State.failAll_fitsIn {s : State} (claim : s.agent.current = none) (room : s.takesRelease)
    (idle : s.chg.change = none) : s.failAll.detachDue = s.detachDue ∧ s.failAll.takesRelease := by
  obtain ⟨due, room'⟩ := State.failChange_fitsIn room (by simp [idle])
  unfold State.failAll
  dsimp only
  rw [State.dropClaim_of_none (by simpa using claim)]
  exact ⟨by simpa using due, State.takesRelease_of_line room' (by simp) (by simp)⟩

theorem State.endRun_due {s : State} (claim : s.agent.current = none) (room : s.takesRelease) :
    (s.endRun .fault 0).detachDue = s.detachDue := by
  unfold State.endRun
  split
  · rfl
  · simp only [State.dropClaim_of_none claim, State.releaseOutside]
    simpa using (State.queueRelease_fitsIn (s := { s.clearStarts with run := Run.cold }) _
      (State.takesRelease_of_line room (by simp) (by simp))).1

/-- `u` is `s` once its run has failed with `code` (R12, R22). -/
def State.failedWith (s : State) (code : FaultCode) (u : State) : Prop :=
  u.lastFault = some code ∧ u.run.st = .none ∧ u.arm.motion = none ∧ u.arm.todo = none ∧
  u.arm.standing = s.arm.standing ||| s.arm.begun

/-- What a start of a segment finds: no claim, no change, nothing on the stack, room in M1. -/
def State.freshRun (s : State) : Prop :=
  s.detachDue = none ∧ s.line.m1.length < 8 ∧ s.agent.current = none ∧ s.chg.change = none ∧ s.run.stack = []

/-- The arm starts nothing more, and no detach is due. -/
def State.goesNoFurther (u : State) : Prop := u.advance = none ∧ u.detachDue = none

theorem State.goesNoFurther_finish {s u : State} (goes : s.advance = some u) (stops : u.goesNoFurther) : s.finish = u :=
  State.finish_of_advance goes stops.1 stops.2

theorem State.releaseAfterExcursion_none (s : State) : s.releaseAfterExcursion false = s := by
  simp [State.releaseAfterExcursion]

theorem State.faultStill_fails (r : FaultReport) {s : State} (fresh : s.freshRun) :
    (s.faultStill r).goesNoFurther ∧ s.failedWith r.code (s.faultStill r) := by
  obtain ⟨due, room, claim, idle, stack⟩ := fresh
  obtain ⟨due', room'⟩ := State.failAll_fitsIn (s := s.raise r) (by simpa using claim) (.inl (by simpa using room))
    (by simpa using idle)
  have agent := State.failAll_agent (s := s.raise r) (by simpa using claim)
  have ended := State.endRun_due (s := (s.raise r).failAll.standStill) (by simp [agent, claim])
    (State.takesRelease_of_line room' (by simp) (by simp))
  have shape : s.faultStill r = (s.raise r).failAll.standStill.endRun .fault 0 := by
    simp [State.faultStill, stack, State.releaseAfterExcursion_none]
  refine ⟨⟨?_, ?_⟩, by simp, by simp, by simp, by simp, by simp [shape]⟩
  · exact State.advance_none_of_idle (by simp) (State.faultStill_change r s).2 (.inr (by simp))
  · rw [shape, ended]
    simpa [due] using due'

theorem State.faultOff_fails (r : FaultReport) {s : State} (fresh : s.freshRun) :
    (s.faultOff r).goesNoFurther ∧ s.failedWith r.code (s.faultOff r) := by
  obtain ⟨due, room, claim, idle, stack⟩ := fresh
  obtain ⟨due', room'⟩ := State.failAll_fitsIn (s := s.raise r) (by simpa using claim) (.inl (by simpa using room))
    (by simpa using idle)
  have agent := State.failAll_agent (s := s.raise r) (by simpa using claim)
  have ended := State.endRun_due (s := (s.raise r).failAll.deenergize) (by simp [agent, claim])
    (State.takesRelease_of_line room' (by simp) (by simp))
  have shape : s.faultOff r = (s.raise r).failAll.deenergize.endRun .fault 0 := by
    simp [State.faultOff, stack, State.releaseAfterExcursion_none]
  refine ⟨⟨?_, ?_⟩, by simp, by simp, by simp, by simp, by simp [shape]⟩
  · exact State.advance_none_of_moving (by simp)
  · rw [shape, ended]
    simpa [due] using due'

theorem axisLimit_code {shadow : Bool} {a : AxisName} {c : AxisConf} {ch : AxisChannel} {target : Lu} {r : FaultReport}
    (limit : axisLimit shadow a c ch target = some r) : r.code = .limit := by
  unfold axisLimit at limit
  split at limit
  · rw [← Option.some.inj limit]
    rfl
  · split at limit
    · rw [← Option.some.inj limit]
      rfl
    · split at limit
      · rw [← Option.some.inj limit]
        rfl
      · exact absurd limit (by simp)

theorem State.limitCheck_code {s : State} {target : Vec3 Lu} {r : FaultReport} (limit : s.limitCheck target = some r) :
    r.code = .limit := by
  unfold State.limitCheck at limit
  split at limit
  · exact absurd limit (by simp)
  · obtain ⟨a, -, found⟩ := List.exists_of_findSome?_eq_some limit
    exact axisLimit_code found

/-! ## A travel that starts -/

/-- A look-ahead queues one claim at most (R41). -/
theorem State.lookAhead_due {s : State} (room : s.line.m1.length < 8) : s.lookAhead.detachDue = s.detachDue := by
  unfold State.lookAhead
  split
  · rfl
  next asks =>
    have claim : s.agent.current = none := by
      cases current : s.agent.current
      · rfl
      · simp [current] at asks
    unfold State.request
    simp only [claim, State.newClaim, State.pushM1_room room]
    (repeat' split) <;> rfl

/-- `u` travels to the target of `t` for the segment in progress of `s` (R29, R35). -/
def State.travelsTo (s : State) (t : TravelSpec) (probing : Bool) (u : State) : Prop :=
  u.arm.st = .moving ∧ u.arm.todo = none ∧ u.axes = s.axes ∧ u.arm.begun = s.arm.begun ||| t.need ∧
  u.arm.motion.map (fun m => (m.act, m.origin, m.startedAt, m.target, m.feed, m.required, m.probing)) =
    some (.travel, .segment, s.positions, some t.target, some t.feed, t.need, probing)

theorem State.startTravel_travels {s : State} (probing : Bool) (t : TravelSpec) (due : s.detachDue = none)
    (room : s.line.m1.length < 8) (limit : s.limitCheck t.target = none) :
    (s.startTravel probing t).goesNoFurther ∧ s.travelsTo t probing (s.startTravel probing t) ∧
    (s.startTravel probing t).run = s.run := by
  have starts : s.startTravel probing t =
      ((s.formMotion (straightMotion .travel .segment s.positions t.target t.feed t.need)).markProbing probing).lookAhead := by
    simp [State.startTravel, State.startStraight, limit, State.markProbing, State.formMotion]
  rw [starts]
  refine ⟨⟨State.advance_none_of_moving ?_, ?_⟩, ⟨?_, ?_, ?_, ?_, ?_⟩, ?_⟩
  · simp [State.markProbing, State.formMotion]
  · rw [State.lookAhead_due (by simpa using room)]
    simpa using due
  · simp [State.markProbing, State.formMotion]
  · simp [State.markProbing, State.formMotion]
  · simp
  · simp [State.markProbing, State.formMotion, straightMotion]
  · simp [State.markProbing, State.formMotion, straightMotion]
  · simp

theorem State.markProbing_of_none (probing : Bool) (s : State) (none : s.arm.motion = .none) : s.markProbing probing = s := by
  unfold State.markProbing
  rw [none, Option.map_none, ← none]

theorem State.startTravel_beyond {s : State} {r : FaultReport} (probing : Bool) (t : TravelSpec)
    (limit : s.limitCheck t.target = some r) : s.startTravel probing t = s.faultOff r := by
  simp [State.startTravel, State.startStraight, limit, State.markProbing_of_none probing (s.faultOff r) (by simp)]

end Sys2Proof.Machine
end

section
/-! PROOF. What waits at gate 1 for the segment of a run, and what it finds past the gate (R26 to R31, R41, R73). -/

namespace Sys2Proof.Machine

open Sys2Proof

/-- `b` is `s` but for the run, the events, and what waits to start. -/
def State.sameGround (s b : State) : Prop :=
  { b with run := s.run, events := s.events
           arm := { b.arm with todo := s.arm.todo, itemsHeld := s.arm.itemsHeld } } = s

section
variable {s b : State} (ground : s.sameGround b)
include ground

theorem State.sameGround_freshRun (fresh : s.freshRun) (stack : b.run.stack = []) : b.freshRun := by
  rw [← ground] at fresh
  obtain ⟨due, room, claim, change, -⟩ := fresh
  exact ⟨due, room, claim, change, stack⟩

theorem State.sameGround_due (due : s.detachDue = none) : b.detachDue = none := by
  rw [← ground] at due
  exact due

theorem State.sameGround_room (room : s.line.m1.length < 8) : b.line.m1.length < 8 := by
  rw [← ground] at room
  exact room

theorem State.sameGround_axes : b.axes = s.axes := by
  rw [← ground]

theorem State.sameGround_unreferenced : b.unreferenced = s.unreferenced := by
  rw [← ground]
  rfl

theorem State.sameGround_limitCheck (target : Vec3 Lu) : b.limitCheck target = s.limitCheck target := by
  rw [← ground]
  rfl

theorem State.sameGround_mounted : b.mountedDetail = s.mountedDetail ∧ b.mountedRecord = s.mountedRecord := by
  rw [← ground]
  exact ⟨rfl, rfl⟩

theorem State.sameGround_mustSoak : b.mustSoak = s.mustSoak := by
  rw [← ground]
  rfl

theorem State.sameGround_blocked : b.blockedByTrigger = s.blockedByTrigger := by
  rw [← ground]
  rfl

theorem State.sameGround_ring : b.cap.ring = s.cap.ring := by
  rw [← ground]

theorem State.sameGround_begun : b.arm.begun = s.arm.begun := by
  rw [← ground]

theorem State.sameGround_standing : b.arm.standing = s.arm.standing := by
  rw [← ground]

theorem State.sameGround_positions : b.positions = s.positions := by
  rw [← ground]
  rfl

theorem State.sameGround_failed {code : FaultCode} {u : State} (failed : b.failedWith code u) : s.failedWith code u := by
  obtain ⟨fault, run, motion, todo, standing⟩ := failed
  exact ⟨fault, run, motion, todo, by rw [standing, State.sameGround_standing ground, State.sameGround_begun ground]⟩

theorem State.sameGround_travels {t : TravelSpec} {probing : Bool} {u : State} (travels : b.travelsTo t probing u) :
    s.travelsTo t probing u := by
  obtain ⟨st, todo, axes, begun, motion⟩ := travels
  exact ⟨st, todo, axes.trans (State.sameGround_axes ground), by rw [begun, State.sameGround_begun ground],
    by rw [motion, State.sameGround_positions ground]⟩

end

/-! ## The head segment is taken -/

/-- The state in which a segment has been taken and its start waits (R26). -/
def State.taken (t : Start) (seg : Segment) (rest : List Segment) (s : State) : State :=
  ({ s with run := { s.run with queue := rest, current := some seg } } : State).refill.setTodo t

/-- The state in which gate 1 has been passed (R27). -/
def State.pastGate (s : State) : State := { s with arm := { s.arm with todo := none, itemsHeld := false } }

theorem State.refill_eq (s : State) : s.refill = { s with events := s.refill.events } := by
  unfold State.refill State.emit
  (repeat' split) <;> rfl

theorem State.taken_eq (t : Start) (seg : Segment) (rest : List Segment) (s : State) :
    s.taken t seg rest = { s with
      run := { s.run with queue := rest, current := some seg }
      events := (s.taken t seg rest).events
      arm := { s.arm with todo := some t, itemsHeld := false } } := by
  unfold State.taken
  rw [State.refill_eq]
  rfl

theorem State.taken_ground (t : Start) (seg : Segment) (rest : List Segment) (s : State) : s.sameGround (s.taken t seg rest) := by
  unfold State.sameGround
  rw [State.taken_eq]

theorem State.pastGate_ground (s : State) : s.sameGround s.pastGate := rfl

theorem State.sameGround_pastGate {s b : State} (ground : s.sameGround b) : s.sameGround b.pastGate := ground

@[simp] theorem State.taken_leaves (t : Start) (seg : Segment) (rest : List Segment) (s : State) :
    (s.taken t seg rest).run = { s.run with queue := rest, current := some seg } ∧
    (s.taken t seg rest).arm = { s.arm with todo := some t, itemsHeld := false } ∧
    (s.taken t seg rest).axes = s.axes ∧ (s.taken t seg rest).setup = s.setup ∧ (s.taken t seg rest).line = s.line ∧
    (s.taken t seg rest).join = s.join ∧ (s.taken t seg rest).table = s.table ∧ (s.taken t seg rest).agent = s.agent ∧
    (s.taken t seg rest).chg = s.chg ∧ (s.taken t seg rest).detachDue = s.detachDue := by
  rw [State.taken_eq]
  exact ⟨rfl, rfl, rfl, rfl, rfl, rfl, rfl, rfl, rfl, rfl⟩

theorem State.taken_mask (t : Start) (seg : Segment) (rest : List Segment) (s : State) :
    (s.taken t seg rest).events.mask = s.events.mask ∧
    (s.taken t seg rest).events.slots.length = s.events.slots.length := by
  unfold State.taken State.refill
  dsimp only
  (repeat' split) <;> simp

/-- The travel of a MOVE or a PROBE. -/
def Segment.travelIs (seg : Segment) (t : TravelSpec) : Prop :=
  seg.body = .move t ∨ ∃ missOk, seg.body = .probe missOk t

theorem State.take_travel {s : State} {seg : Segment} {t : TravelSpec} (rest : List Segment) (travel : seg.travelIs t) :
    s.take seg rest = s.taken .segment seg rest := by
  obtain move | ⟨missOk, probe⟩ := travel
  · simp [State.take, move, State.taken]
  · simp [State.take, probe, State.taken]

theorem State.take_dwell {s : State} {seg : Segment} {ms : BitVec 16} (rest : List Segment) (dwell : seg.body = .dwell ms) :
    s.take seg rest = s.taken (.dwellOn ms) seg rest := by
  simp [State.take, dwell, State.taken]

theorem State.currentTravel_of {s : State} {seg : Segment} {t : TravelSpec} (current : s.run.current = some seg)
    (travel : seg.travelIs t) : s.currentTravel = some t := by
  obtain ⟨body, tag⟩ := seg
  unfold State.currentTravel
  obtain move | ⟨missOk, probe⟩ := travel
  · simp only at move
    simp [current, move]
  · simp only at probe
    simp [current, probe]

/-- A segment's start asks for its travel's zones, and those to keep (R27). -/
theorem State.asks_segment {s : State} {seg : Segment} {t : TravelSpec} (current : s.run.current = some seg)
    (travel : seg.travelIs t) : s.asks .segment = some (.motion, zoneItems t.need) := by
  simp [State.asks, State.currentTravel_of current travel]

theorem State.sameGround_items {s b : State} (ground : s.sameGround b) (items : ItemSet) :
    b.missing (items ||| zoneItems b.keep) = s.missing (items ||| zoneItems s.keep) := by
  rw [← ground]
  rfl

section
variable {s : State} {seg : Segment} {rest : List Segment} (due : s.detachDue = none) (still : s.arm.st = .still)
  (active : s.run.st = .active) (parked : s.chg.parked = false) (queue : s.run.queue = seg :: rest) (stack : s.run.stack = [])
  (current : s.run.current = none) (todo : s.arm.todo = none)
include due still active parked queue stack current todo

/-- The head segment is taken, and its start begins at once. -/
theorem State.finish_takes {t : Start} (takes : s.take seg rest = s.taken t seg rest) {u : State}
    (begins : (s.taken t seg rest).begin_ t = u) (stops : u.goesNoFurther) : s.finish = u := by
  have first := (State.advance_take due still todo parked queue active stack current).trans (congrArg some takes)
  have second : (s.taken t seg rest).advance = some u := by
    rw [← begins]
    exact State.advance_todo (State.sameGround_due (s.taken_ground t seg rest) due) (by simpa using still) (by simp)
      (.inl (by simp [active]))
  exact State.finish_of_settle (State.settle_of_advances first second stops.1) stops.2

end

/-! ## Past gate 1 -/

theorem State.startSegment_unreferenced {b : State} {seg : Segment} {t : TravelSpec} (current : b.run.current = some seg)
    (travel : seg.travelIs t) {a : AxisName} (found : b.unreferenced = some a) :
    b.startSegment = b.faultStill (report .unrefAxis (axisCode a) 0) := by
  obtain ⟨body, tag⟩ := seg
  unfold State.startSegment
  obtain move | ⟨missOk, probe⟩ := travel
  · simp only at move
    simp [current, move, State.withReferences, found]
  · simp only at probe
    simp [current, probe, State.withReferences, found]

theorem State.startSegment_move {b : State} {seg : Segment} {t : TravelSpec} (current : b.run.current = some seg)
    (move : seg.body = .move t) (referenced : b.unreferenced = none) : b.startSegment = b.startTravel false t := by
  obtain ⟨body, tag⟩ := seg
  simp only at move
  simp [State.startSegment, current, move, State.withReferences, referenced]

theorem State.startSegment_probe {b : State} {seg : Segment} {t : TravelSpec} {missOk : Bool}
    (current : b.run.current = some seg) (probe : seg.body = .probe missOk t) (referenced : b.unreferenced = none) :
    b.startSegment = b.startProbe t := by
  obtain ⟨body, tag⟩ := seg
  simp only at probe
  simp [State.startSegment, current, probe, State.withReferences, referenced]

theorem State.startProbe_noProbe {b : State} {detail : Nat} (t : TravelSpec) (lacks : b.mountedDetail = some detail) :
    b.startProbe t = b.faultStill (report .noProbe detail 0) := by
  simp [State.startProbe, lacks]

/-- The probe of `s` is mounted, QUALIFIED, and need not soak (R132, R133). -/
def State.probeIsReady (s : State) : Prop :=
  s.mountedDetail = none ∧ (∃ r, s.mountedRecord = some r ∧ r.qual = .qualified) ∧ s.mustSoak = false

theorem State.startProbe_ready {b : State} (t : TravelSpec) (ready : b.probeIsReady) :
    b.startProbe t = b.gateRing .segmentPastRing State.probePastRing := by
  obtain ⟨mounted, ⟨r, record, qualified⟩, soaked⟩ := ready
  simp [State.startProbe, mounted, record, qualified, soaked]

theorem State.probePastRing_deflected {b : State} {seg : Segment} (current : b.run.current = some seg)
    (blocked : b.blockedByTrigger = true) : b.probePastRing = b.faultStill (report .probeDeflected 0 seg.tag.toNat) := by
  simp [State.probePastRing, current, blocked]

theorem State.probePastRing_free {b : State} {seg : Segment} {t : TravelSpec} (current : b.run.current = some seg)
    (travel : seg.travelIs t) (free : b.blockedByTrigger = false) : b.probePastRing = b.startTravel true t := by
  simp [State.probePastRing, current, free, State.currentTravel_of current travel]

end Sys2Proof.Machine
end

section
/-! PROOF. The head segment of an ACTIVE run, from its claim to its travel (R26 to R31), and the end of every command. -/

namespace Sys2Proof.Machine

open Sys2Proof

/-- `s` takes the head segment `seg` of its run (R26). -/
def State.takesHead (seg : Segment) (rest : List Segment) (s : State) : Prop :=
  s.arm.st = .still ∧ s.run.st = .active ∧ s.chg.parked = false ∧ s.run.queue = seg :: rest ∧ s.run.current = none ∧
  s.arm.todo = none ∧ s.join.st = .attached ∧ s.freshRun

section
variable {s : State} {seg : Segment} {rest : List Segment} (head : s.takesHead seg rest)
include head

theorem State.takesHead_finish {t : Start} (takes : s.take seg rest = s.taken t seg rest) {u : State}
    (begins : (s.taken t seg rest).begin_ t = u) (stops : u.goesNoFurther) : s.finish = u := by
  obtain ⟨still, active, parked, queue, current, todo, -, due, -, -, -, stack⟩ := head
  exact State.finish_takes due still active parked queue stack current todo takes begins stops

theorem State.takesHead_free {t : Start} (takes : s.take seg rest = s.taken t seg rest) {items : ItemSet}
    (asks : (s.taken t seg rest).asks t = some (.motion, items)) (held : s.missing (items ||| zoneItems s.keep) = 0) {u : State}
    (begins : (s.taken t seg rest).pastGate.startPastGate t = u) (stops : u.goesNoFurther) : s.finish = u := by
  refine State.takesHead_finish head takes ?_ stops
  obtain ⟨-, -, -, -, -, -, attached, -, -, claim, -⟩ := head
  rw [← begins]
  exact State.begin_of_free asks (by simpa using attached) (by simpa using claim)
    ((State.sameGround_items (s.taken_ground t seg rest) items).trans held)

theorem State.takesHead_fresh (t : Start) : (s.taken t seg rest).pastGate.freshRun ∧
    (s.taken t seg rest).pastGate.run.current = some seg ∧ (s.taken t seg rest).pastGate.run.queue = rest := by
  obtain ⟨-, -, -, -, -, -, -, fresh⟩ := head
  have stack := fresh.2.2.2.2
  refine ⟨State.sameGround_freshRun (State.sameGround_pastGate (s.taken_ground t seg rest)) fresh ?_, ?_, ?_⟩
  all_goals simp [State.pastGate, stack]

variable {t : TravelSpec} (travel : seg.travelIs t)
include travel

/-- With items missing the arm is CLAIMING, with its claim in M1 (R27, R73). -/
theorem State.takesHead_waits (missing : s.missing (zoneItems t.need ||| zoneItems s.keep) ≠ 0) :
    let wanted := zoneItems t.need ||| zoneItems s.keep
    let u := s.finish
    u.arm.st = .claiming ∧ u.arm.todo = some .segment ∧ u.run.current = some seg ∧ u.run.queue = rest ∧
    u.axes = s.axes ∧ u.line.m1 = s.line.m1 ++ [.claim (s.missing wanted) s.agent.formed] ∧
    u.agent.current.map (fun k => (k.requester, k.wanted, k.items, k.phase)) =
      some (.motion, wanted, s.missing wanted, .queued) ∧
    (s.events.mask.getLsbD 7 = true → s.events.slots.length = 12 → ∃ slot, u.events.slots[7]? = some slot ∧
      slot.pending = some (.claimWait (s.missing wanted))) := by
  have ⟨still, active, parked, queue, current, todo, attached, due, room, claim, change, stack⟩ := head
  have ground := s.taken_ground .segment seg rest
  have items := State.sameGround_items ground (zoneItems t.need)
  have same : (s.taken .segment seg rest).missing (zoneItems t.need ||| zoneItems s.keep) =
      s.missing (zoneItems t.need ||| zoneItems s.keep) := by
    simp [State.missing, State.held, State.releasing, State.me]
  have waits := State.begin_of_missing (t := .segment) (by simp)
    (State.asks_segment (by simp) travel) (by simpa using attached)
    (by simpa using claim) (State.sameGround_room ground room) (items ▸ missing)
  have keep : (s.taken .segment seg rest).keep = s.keep := by simp [State.keep]
  rw [keep] at waits
  have finish := State.takesHead_finish head (State.take_travel rest travel) waits
    ⟨State.claiming_advance _ _ _, by simpa using State.sameGround_due ground due⟩
  obtain ⟨mask', length'⟩ := s.taken_mask .segment seg rest
  dsimp only
  rw [finish, ← same]
  refine ⟨by simp, by simp, by simp, by simp, by simp, by simp, by simp, fun mask length => ?_⟩
  exact State.emit_slot (.claimWait _) _ (mask' ▸ mask) (length' ▸ length)

/-- With its items held the start goes past gate 1. -/
theorem State.takesHead_passes (held : s.missing (zoneItems t.need ||| zoneItems s.keep) = 0) {u : State}
    (begins : (s.taken .segment seg rest).pastGate.startSegment = u) (stops : u.goesNoFurther) : s.finish = u :=
  State.takesHead_free head (State.take_travel rest travel) (State.asks_segment (by simp) travel) held begins stops

theorem State.takesHead_unreferenced (held : s.missing (zoneItems t.need ||| zoneItems s.keep) = 0)
    (lost : s.unreferenced ≠ none) : s.failedWith .unrefAxis s.finish := by
  obtain ⟨a, lost⟩ := Option.ne_none_iff_exists'.mp lost
  obtain ⟨fresh, current, -⟩ := State.takesHead_fresh head .segment
  have ground := State.sameGround_pastGate (s.taken_ground .segment seg rest)
  obtain ⟨stops, failed⟩ := State.faultStill_fails (report .unrefAxis (axisCode a) 0) fresh
  rw [State.takesHead_passes head travel held
    (State.startSegment_unreferenced current travel ((State.sameGround_unreferenced ground).trans lost)) stops]
  exact State.sameGround_failed ground failed

omit travel

theorem State.takesHead_moves (move : seg.body = .move t) (held : s.missing (zoneItems t.need ||| zoneItems s.keep) = 0)
    (referenced : s.unreferenced = none) (limit : s.limitCheck t.target = none) :
    s.travelsTo t false s.finish ∧ s.finish.run.current = some seg ∧ s.finish.run.queue = rest := by
  obtain ⟨fresh, current, queue⟩ := State.takesHead_fresh head .segment
  have ground := State.sameGround_pastGate (s.taken_ground .segment seg rest)
  obtain ⟨stops, travels, run⟩ := State.startTravel_travels false t fresh.1 fresh.2.1
    ((State.sameGround_limitCheck ground _).trans limit)
  rw [State.takesHead_passes head (.inl move) held
    (State.startSegment_move current move ((State.sameGround_unreferenced ground).trans referenced)) stops, run]
  exact ⟨State.sameGround_travels ground travels, current, queue⟩

theorem State.takesHead_beyond (move : seg.body = .move t) (held : s.missing (zoneItems t.need ||| zoneItems s.keep) = 0)
    (referenced : s.unreferenced = none) (limit : s.limitCheck t.target ≠ none) :
    s.failedWith .limit s.finish ∧ s.finish.arm.energized = false := by
  obtain ⟨r, limit⟩ := Option.ne_none_iff_exists'.mp limit
  obtain ⟨fresh, current, -⟩ := State.takesHead_fresh head .segment
  have ground := State.sameGround_pastGate (s.taken_ground .segment seg rest)
  obtain ⟨stops, failed⟩ := State.faultOff_fails r fresh
  rw [State.takesHead_passes head (.inl move) held ((State.startSegment_move current move
    ((State.sameGround_unreferenced ground).trans referenced)).trans
    (State.startTravel_beyond false t ((State.sameGround_limitCheck ground _).trans limit))) stops]
  rw [State.limitCheck_code limit] at failed
  exact ⟨State.sameGround_failed ground failed, by simp⟩

section
variable {missOk : Bool} (probe : seg.body = .probe missOk t)
  (held : s.missing (zoneItems t.need ||| zoneItems s.keep) = 0) (referenced : s.unreferenced = none)
include probe held referenced

theorem State.takesHead_probes {u : State} (begins : (s.taken .segment seg rest).pastGate.startProbe t = u)
    (stops : u.goesNoFurther) : s.finish = u := by
  obtain ⟨-, current, -⟩ := State.takesHead_fresh head .segment
  have ground := State.sameGround_pastGate (s.taken_ground .segment seg rest)
  exact State.takesHead_passes head (.inr ⟨_, probe⟩) held
    ((State.startSegment_probe current probe ((State.sameGround_unreferenced ground).trans referenced)).trans begins) stops

theorem State.takesHead_noProbe (lacks : s.mountedDetail ≠ none) : s.failedWith .noProbe s.finish := by
  obtain ⟨detail, lacks⟩ := Option.ne_none_iff_exists'.mp lacks
  obtain ⟨fresh, -, -⟩ := State.takesHead_fresh head .segment
  have ground := State.sameGround_pastGate (s.taken_ground .segment seg rest)
  obtain ⟨stops, failed⟩ := State.faultStill_fails (report .noProbe detail 0) fresh
  rw [State.takesHead_probes head probe held referenced
    (State.startProbe_noProbe t ((State.sameGround_mounted ground).1.trans lacks)) stops]
  exact State.sameGround_failed ground failed

variable (ready : s.probeIsReady)
include ready

omit head probe held referenced in
theorem State.takesHead_ready : (s.taken .segment seg rest).pastGate.startProbe t =
    (s.taken .segment seg rest).pastGate.gateRing .segmentPastRing State.probePastRing := by
  have ground := State.sameGround_pastGate (s.taken_ground .segment seg rest)
  obtain ⟨detail, record⟩ := State.sameGround_mounted ground
  refine State.startProbe_ready t ?_
  unfold State.probeIsReady
  rw [detail, record, State.sameGround_mustSoak ground]
  exact ready

/-- With the ring full the arm waits in RING_WAIT (R47). -/
theorem State.takesHead_ringWait (full : 64 ≤ s.cap.ring.length) :
    s.finish.arm.st = .ringWait ∧ s.finish.arm.todo = some .segmentPastRing ∧ s.finish.run.current = some seg ∧
    s.finish.axes = s.axes := by
  obtain ⟨fresh, current, -⟩ := State.takesHead_fresh head .segment
  have ground := State.sameGround_pastGate (s.taken_ground .segment seg rest)
  have waits : (s.taken .segment seg rest).pastGate.gateRing .segmentPastRing State.probePastRing =
      { (s.taken .segment seg rest).pastGate.setTodo .segmentPastRing with
        arm := { ((s.taken .segment seg rest).pastGate.setTodo .segmentPastRing).arm with st := .ringWait } } := by
    rw [State.gateRing, State.sameGround_ring ground, if_pos full]
  rw [State.takesHead_probes head probe held referenced ((State.takesHead_ready ready).trans waits)
    ⟨State.advance_none_of_moving (by simp), by simpa using fresh.1⟩]
  have axes := State.sameGround_axes ground
  exact ⟨rfl, rfl, current, axes⟩

variable (room : s.cap.ring.length < 64)
include room

omit head probe held referenced in
theorem State.takesHead_pastRing : (s.taken .segment seg rest).pastGate.startProbe t =
    (s.taken .segment seg rest).pastGate.probePastRing := by
  have ground := State.sameGround_pastGate (s.taken_ground .segment seg rest)
  rw [State.takesHead_ready ready, State.gateRing, State.sameGround_ring ground,
    if_neg (Nat.not_le.mpr room)]

theorem State.takesHead_deflected (blocked : s.blockedByTrigger = true) : s.failedWith .probeDeflected s.finish := by
  obtain ⟨fresh, current, -⟩ := State.takesHead_fresh head .segment
  have ground := State.sameGround_pastGate (s.taken_ground .segment seg rest)
  obtain ⟨stops, failed⟩ := State.faultStill_fails (report .probeDeflected 0 seg.tag.toNat) fresh
  rw [State.takesHead_probes head probe held referenced ((State.takesHead_pastRing ready room).trans
    (State.probePastRing_deflected current ((State.sameGround_blocked ground).trans blocked))) stops]
  exact State.sameGround_failed ground failed

theorem State.takesHead_probing (free : s.blockedByTrigger = false) (limit : s.limitCheck t.target = none) :
    s.travelsTo t true s.finish ∧ s.finish.run.current = some seg ∧ s.finish.run.queue = rest := by
  obtain ⟨fresh, current, queue⟩ := State.takesHead_fresh head .segment
  have ground := State.sameGround_pastGate (s.taken_ground .segment seg rest)
  obtain ⟨stops, travels, run⟩ := State.startTravel_travels true t fresh.1 fresh.2.1
    ((State.sameGround_limitCheck ground _).trans limit)
  rw [State.takesHead_probes head probe held referenced ((State.takesHead_pastRing ready room).trans
    (State.probePastRing_free current (.inr ⟨_, probe⟩) ((State.sameGround_blocked ground).trans free))) stops, run]
  exact ⟨State.sameGround_travels ground travels, current, queue⟩

end

/-- A DWELL is taken and begins at once (R31). -/
theorem State.takesHead_dwells {ms : BitVec 16} (dwell : seg.body = .dwell ms) (held : s.missing (zoneItems s.keep) = 0) :
    s.finish.arm.st = .moving ∧ s.finish.run.current = some seg ∧ s.finish.run.queue = rest ∧ s.finish.axes = s.axes ∧
    s.finish.arm.motion.map (fun m => (m.act, m.target, m.dwellLeft)) = some (.dwell, none, some ms) := by
  obtain ⟨fresh, current, queue⟩ := State.takesHead_fresh head (.dwellOn ms)
  have ground := State.sameGround_pastGate (s.taken_ground (.dwellOn ms) seg rest)
  rw [State.takesHead_free (u := (s.taken (.dwellOn ms) seg rest).pastGate.startDwell ms) head (State.take_dwell rest dwell)
    (items := 0) rfl (by simpa using held) rfl
    ⟨State.advance_none_of_moving (by simp [State.startDwell, State.formMotion]), fresh.1⟩]
  generalize (s.taken (.dwellOn ms) seg rest).pastGate = b at current queue ground
  refine ⟨?_, ?_, ?_, ?_, ?_⟩
  · simp [State.startDwell, State.formMotion]
  · exact current
  · exact queue
  · have axes := State.sameGround_axes ground
    exact axes
  · simp [State.startDwell, State.formMotion, restingMotion]

end

/-- A grant that has been told lets the start go on (R28). -/
theorem State.finish_told {s : State} {seg : Segment} {t : TravelSpec} (due : s.detachDue = none) (still : s.arm.st = .still)
    (active : s.run.st = .active) (room : s.line.m1.length < 8) (current : s.run.current = some seg)
    (move : seg.body = .move t) (todo : s.arm.todo = some .segment) (told : s.arm.itemsHeld = true)
    (referenced : s.unreferenced = none) (limit : s.limitCheck t.target = none) :
    s.travelsTo t false s.finish ∧ s.finish.run = s.run := by
  have ground := s.pastGate_ground
  obtain ⟨stops, travels, run⟩ := State.startTravel_travels (s := s.pastGate) false t due room
    ((State.sameGround_limitCheck ground _).trans limit)
  have goes := (State.advance_todo due still todo (.inl (by simp [active]))).trans (congrArg some ((State.begin_of_told told).trans
    (State.startSegment_move (b := s.pastGate) current move ((State.sameGround_unreferenced ground).trans referenced))))
  rw [State.goesNoFurther_finish goes stops, run]
  exact ⟨State.sameGround_travels ground travels, rfl⟩

/-! ## The end of a command -/

theorem State.finish_of_detach {s : State} {cause : DetachCause} (due : s.settle.detachDue = some cause) :
    s.finish = ({ s.settle with detachDue := none } : State).detach cause := by
  simp [State.finish, due]

theorem State.finish_of_noDetach {s : State} (due : s.settle.detachDue = none) : s.finish = s.settle := by
  simp [State.finish, due]

theorem State.settle_of_detach {s : State} {cause : DetachCause} (due : s.detachDue = some cause) : s.settle = s :=
  State.settle_of_advance_none (State.advance_none_of_detach (by simp [due]))

theorem State.advance_none_of {s : State} (idle : s.arm.st ≠ .still ∨
    (s.arm.todo = none ∧ s.chg.parked = false ∧ (s.run.queue = [] ∨ s.run.st ≠ .active))) : s.advance = none := by
  obtain moving | ⟨todo, parked, queue⟩ := idle
  · exact State.advance_none_of_moving moving
  · exact State.advance_none_of_idle todo parked queue

theorem State.pushM1_full {s : State} (e : M1Entry) (full : 8 ≤ s.line.m1.length) (due : s.detachDue = none) :
    s.pushM1 e = { s with detachDue := some .mailboxFull } := by
  simp [State.pushM1, Nat.not_lt.mpr full, due]

theorem State.claimTold_waiting {s : State} {r : Requester} {t : Start} (own : r ≠ .lookahead) (other : r ≠ .conflict)
    (waits : s.arm.st = .claiming) (todo : s.arm.todo = some t) :
    s.claimTold (some r) = { s with arm := { s.arm with st := .still, itemsHeld := true } } := by
  cases r <;> simp_all [State.claimTold]

/-- Settles O2. -/
theorem timePassesAndCommandsEnd : Obligations.TimePassesAndCommandsEnd := by
  unfold Obligations.TimePassesAndCommandsEnd
  refine ⟨fun s empty => ⟨s.tick, step_of_noCommand empty, ?_⟩, fun s => ?_, fun s seg t due still active room attached claim
    change parked => ?_⟩
  · obtain ⟨clock, rest, arm⟩ := s.tick_leaves
    refine ⟨clock, rest, arm, fun a => ⟨(s.tick_moves a).1, (s.tick_moves a).2, fun m shadow travels motion goal straight =>
        State.tick_follows a shadow travels motion goal straight⟩,
      fun rest => ?_, fun m motion => State.tick_motion motion,
      fun m target feed travels motion run origin straight goal fed =>
        State.tick_onPath travels motion run origin straight goal fed,
      fun m c travels motion config slows => State.tick_slows travels motion config slows,
      fun m axis c feed travels motion run unmet seek fed config =>
        State.tick_seeks travels motion run unmet seek fed config⟩
    rw [State.tick_resting rest]
    exact ⟨rfl, rfl⟩
  · obtain ⟨pending, setup, clock, estop, part, rack⟩ := s.finish_frame
    refine ⟨fun due idle => State.finish_of_advance_none (State.advance_none_of idle) due, fun cause due => ?_,
      fun cause due => State.finish_of_detach due, fun e full due => State.pushM1_full e full due,
      pending, setup, clock, estop, part, rack, fun due => ?_,
      fun r t own other waits todo => State.claimTold_waiting own other waits todo⟩
    · have settled := State.settle_of_detach due
      rw [State.finish_of_detach (cause := cause) (by rw [settled]; exact due), settled]
    · rw [State.finish_of_noDetach due]
      simp
  · have head {rest : List Segment} (queue : s.run.queue = seg :: rest) (stack : s.run.stack = [])
        (current : s.run.current = none) (todo : s.arm.todo = none) : s.takesHead seg rest :=
      ⟨still, active, parked, queue, current, todo, attached, due, room, claim, change, stack⟩
    refine ⟨fun rest missOk queue stack current todo body => ?_, fun current move todo told referenced limit => ?_,
      fun rest ms queue stack current todo dwell held => State.takesHead_dwells (head queue stack current todo) dwell held⟩
    · have head := head queue stack current todo
      have travel : seg.travelIs t := body.imp_right fun probe => ⟨missOk, probe⟩
      refine ⟨fun missing => State.takesHead_waits head travel missing, fun held =>
        ⟨fun lost => State.takesHead_unreferenced head travel held lost, fun referenced => ⟨fun move limit => ?_,
          fun move limit => State.takesHead_beyond head move held referenced limit,
          fun probe lacks => State.takesHead_noProbe head probe held referenced lacks,
          fun probe ready full => State.takesHead_ringWait head probe held referenced ready full,
          fun probe ready room => ⟨fun blocked => State.takesHead_deflected head probe held referenced ready room blocked,
            fun free limit => ?_⟩⟩⟩⟩
      · obtain ⟨⟨st, todo, axes, begun, motion⟩, current, queue⟩ := State.takesHead_moves head move held referenced limit
        exact ⟨⟨st, current, todo, axes, begun, motion⟩, queue⟩
      · obtain ⟨⟨st, todo, axes, begun, motion⟩, current, queue⟩ :=
          State.takesHead_probing head probe held referenced ready room free limit
        exact ⟨⟨st, current, todo, axes, begun, motion⟩, queue⟩
    · obtain ⟨⟨st, todo, axes, begun, motion⟩, run⟩ :=
        State.finish_told due still active room current move todo told referenced limit
      exact ⟨st, by rw [run, current], todo, axes, begun, motion⟩

end Sys2Proof.Machine
end

section
/-! PROOF. Bit stuffing, and what a receiver makes of a frame's bits (R42, R44). -/

namespace Sys2Proof.Machine

open Sys2Proof

/-! ## Stuffing -/

/-- How many equal bits stand at the end of the line once `b` has been sent (R42). -/
def runAfter (last : Bool) (run : Nat) (b : Bool) : Nat := if b == last then run + 1 else 1

@[simp] theorem runAfter_same (b : Bool) (run : Nat) : runAfter b run b = run + 1 := by simp [runAfter]

@[simp] theorem runAfter_other (b : Bool) (run : Nat) : runAfter b run (!b) = 1 := by cases b <;> rfl

theorem runAfter_pos (last : Bool) (run : Nat) (b : Bool) : 1 ≤ runAfter last run b := by
  unfold runAfter
  split <;> omega

theorem runAfter_le (last : Bool) (run : Nat) (b : Bool) : runAfter last run b ≤ run + 1 := by
  unfold runAfter
  split <;> omega

theorem stuffFrom_fifth {last b : Bool} {run : Nat} (rest : List Bool) (fifth : runAfter last run b = 5) :
    stuffFrom last run (b :: rest) = b :: (!b) :: stuffFrom (!b) 1 rest := by
  unfold runAfter at fifth
  simp only [stuffFrom, fifth]
  rfl

theorem stuffFrom_open {last b : Bool} {run : Nat} (rest : List Bool) (fewer : runAfter last run b ≠ 5) :
    stuffFrom last run (b :: rest) = b :: stuffFrom b (runAfter last run b) rest := by
  unfold runAfter at fewer ⊢
  simp only [stuffFrom]
  exact if_neg (by simpa using fewer)

theorem unstuffFrom_open {last : Bool} {run : Nat} (b : Bool) (rest : List Bool) (fewer : run ≠ 5) :
    unstuffFrom last run (b :: rest) = (unstuffFrom b (runAfter last run b) rest).map (b :: ·) := by
  simp [unstuffFrom, fewer, runAfter]

theorem unstuffFrom_inserted (b : Bool) (rest : List Bool) : unstuffFrom b 5 ((!b) :: rest) = unstuffFrom (!b) 1 rest := by
  simp [unstuffFrom]

theorem unstuffFrom_violation (b : Bool) (rest : List Bool) : unstuffFrom b 5 (b :: rest) = none := by
  simp [unstuffFrom]

/-- What a receiver takes out is what the sender put in (R42, R44). -/
theorem unstuffFrom_stuffFrom (bits : List Bool) (last : Bool) (run : Nat) (few : run ≤ 4) :
    unstuffFrom last run (stuffFrom last run bits) = some bits := by
  induction bits generalizing last run with
  | nil => rfl
  | cons b rest ih =>
    by_cases fifth : runAfter last run b = 5
    · rw [stuffFrom_fifth rest fifth, unstuffFrom_open _ _ (by omega), fifth, unstuffFrom_inserted, ih _ _ (by omega)]
      rfl
    · have more := runAfter_le last run b
      rw [stuffFrom_open rest fifth, unstuffFrom_open _ _ (by omega), ih _ _ (by omega)]
      rfl

theorem unstuff_stuff (bits : List Bool) : unstuff (stuff bits) = some bits := unstuffFrom_stuffFrom bits false 0 (by omega)

/-- No six equal bits come, and after five the line goes on. -/
def breaksFives (last : Bool) (run : Nat) : List Bool → Prop
  | [] => run < 5
  | b :: rest => run < 6 ∧ breaksFives b (runAfter last run b) rest

theorem breaksFives_stuffFrom (bits : List Bool) (last : Bool) (run : Nat) (few : run ≤ 4) :
    breaksFives last run (stuffFrom last run bits) := by
  induction bits generalizing last run with
  | nil => exact Nat.lt_succ_of_le few
  | cons b rest ih =>
    by_cases fifth : runAfter last run b = 5
    · rw [stuffFrom_fifth rest fifth]
      refine ⟨by omega, by omega, ?_⟩
      simpa using ih (!b) 1 (by omega)
    · have more := runAfter_le last run b
      rw [stuffFrom_open rest fifth]
      exact ⟨by omega, ih b _ (by omega)⟩

theorem breaksFives_few {last : Bool} {run : Nat} {line : List Bool} (breaks : breaksFives last run line) : run < 6 := by
  cases line with
  | nil => exact Nat.lt_succ_of_lt breaks
  | cons b rest => exact breaks.1

theorem breaksFives_of_append (one two : List Bool) (last : Bool) (run : Nat) (breaks : breaksFives last run (one ++ two)) :
    ∃ last' run', breaksFives last' run' two := by
  induction one generalizing last run with
  | nil => exact ⟨last, run, breaks⟩
  | cons b one ih => exact ih b _ breaks.2

theorem breaksFives_of_equal (n : Nat) (b : Bool) (rest : List Bool) (run : Nat)
    (breaks : breaksFives b run (List.replicate n b ++ rest)) : breaksFives b (run + n) rest := by
  induction n generalizing run with
  | zero => exact breaks
  | succ n ih =>
    obtain ⟨-, goes⟩ := breaks
    rw [runAfter_same] at goes
    have later := ih (run + 1) goes
    rwa [Nat.add_assoc, Nat.add_comm 1 n] at later

/-- After five bits of equal level a bit of the other level follows (R42). -/
theorem stuff_breaks {bits before rest : List Bool} {b : Bool} (sent : stuff bits = before ++ List.replicate 5 b ++ rest) :
    ∃ after, rest = (!b) :: after := by
  have breaks : breaksFives false 0 (stuff bits) := breaksFives_stuffFrom bits false 0 (by omega)
  rw [sent, List.append_assoc] at breaks
  obtain ⟨last, run, -, goes⟩ := breaksFives_of_append _ _ _ _ breaks
  have first := runAfter_pos last run b
  have goes := breaksFives_of_equal 4 b rest _ goes
  cases rest with
  | nil =>
    have few : runAfter last run b + 4 < 5 := goes
    omega
  | cons c after =>
    by_cases same : c = b
    · subst same
      have few := breaksFives_few goes.2
      rw [runAfter_same] at few
      omega
    · exact ⟨after, by rw [Bool.eq_not_of_ne same]⟩

/-- Bits of equal level that make six with those before them are a stuff violation (R44). -/
theorem unstuffFrom_run (n : Nat) (b : Bool) (run : Nat) (rest : List Bool) (some_ : 1 ≤ n) (six : 6 ≤ run + n) (few : run ≤ 5) :
    unstuffFrom b run (List.replicate n b ++ rest) = none := by
  induction n generalizing run with
  | zero => omega
  | succ n ih =>
    rw [List.replicate_succ, List.cons_append]
    by_cases five : run = 5
    · rw [five, unstuffFrom_violation]
    · rw [unstuffFrom_open _ _ five, runAfter_same, ih (run + 1) (by omega) (by omega) (by omega)]
      rfl

theorem unstuffFrom_six (before : List Bool) (b : Bool) (rest : List Bool) (last : Bool) (run : Nat) (few : run ≤ 5) :
    unstuffFrom last run (before ++ (List.replicate 6 b ++ rest)) = none := by
  induction before generalizing last run with
  | nil =>
    by_cases same : b = last
    · subst same
      exact unstuffFrom_run 6 b run rest (by omega) (by omega) few
    · rw [Bool.eq_not_of_ne same]
      have later := unstuffFrom_run 5 (!last) 1 rest (by omega) (by omega) (by omega)
      by_cases five : run = 5
      · rw [five]
        exact (unstuffFrom_inserted last _).trans later
      · refine (unstuffFrom_open (!last) _ five).trans ?_
        rw [runAfter_other]
        exact congrArg (Option.map _) later
  | cons c before ih =>
    by_cases five : run = 5
    · by_cases same : c = last
      · rw [five, same]
        exact unstuffFrom_violation _ _
      · rw [five, Bool.eq_not_of_ne same]
        exact (unstuffFrom_inserted last _).trans (ih _ _ (by omega))
    · have more := runAfter_le last run c
      rw [List.cons_append, unstuffFrom_open _ _ five, ih _ _ (by omega)]
      rfl

/-- A receiver abandons a frame with six bits of equal level (R44). -/
theorem receive_six (before after : List Bool) (b : Bool) : receive (before ++ List.replicate 6 b ++ after) = .abandoned := by
  have violates : unstuff (before ++ List.replicate 6 b ++ after) = none := by
    rw [List.append_assoc]
    exact unstuffFrom_six before b after false 0 (by omega)
  simp only [receive, violates]

end Sys2Proof.Machine
end

section
/-! PROOF. What the bits of a frame spell (Table 3-1), and what a receiver makes of them (R42, R44). -/

namespace Sys2Proof.Machine

open Sys2Proof

/-! ## Numbers in bits -/

@[simp] theorem bitsOf_length (n v : Nat) : (bitsOf n v).length = n := by
  induction n generalizing v with
  | zero => rfl
  | succ n ih => simp [bitsOf, ih]

theorem numberOf_append (bits : List Bool) (b : Bool) : numberOf (bits ++ [b]) = 2 * numberOf bits + (if b then 1 else 0) := by
  simp [numberOf]

theorem numberOf_bitsOf (n v : Nat) : numberOf (bitsOf n v) = v % 2 ^ n := by
  induction n generalizing v with
  | zero => simp [bitsOf, numberOf, Nat.mod_one]
  | succ n ih =>
    have split : v % 2 ^ (n + 1) = 2 * (v / 2 % 2 ^ n) + v % 2 := by
      rw [Nat.pow_succ', Nat.mod_mul]
      omega
    rw [bitsOf, numberOf_append, ih, split]
    obtain even | odd := Nat.mod_two_eq_zero_or_one v
    · simp [even]
    · simp [odd]

theorem bitField_bitsOf (n v : Nat) (rest : List Bool) : bitField (bitsOf n v ++ rest) 0 n = v % 2 ^ n := by
  rw [← numberOf_bitsOf]
  simp [bitField]

theorem bitField_skip {m i : Nat} (v n : Nat) (rest : List Bool) (past : m ≤ i) :
    bitField (bitsOf m v ++ rest) i n = bitField rest (i - m) n := by
  have gone : (bitsOf m v).drop i = [] := List.drop_eq_nil_of_le (by simpa using past)
  simp [bitField, List.drop_append, gone]

theorem bitField_start {i : Nat} (b : Bool) (n : Nat) (rest : List Bool) : bitField (b :: rest) (i + 1) n = bitField rest i n :=
  rfl

/-- A field as wide as the number in it holds the number. -/
theorem ofNat_field {w : Nat} (x : BitVec w) : BitVec.ofNat w (x.toNat % 2 ^ w) = x := by
  rw [Nat.mod_eq_of_lt x.isLt, BitVec.ofNat_toNat, BitVec.setWidth_eq]

/-- The bits of a payload. -/
def payloadBits (payload : List Byte) : List Bool := payload.flatMap (fun b => bitsOf 8 b.toNat)

theorem payloadBits_length (payload : List Byte) : (payloadBits payload).length = 8 * payload.length := by
  have eight (b : Byte) : (bitsOf 8 b.toNat).length = 8 := bitsOf_length 8 _
  rw [payloadBits, length_flatMap_of_const eight]

theorem bitField_payload {payload : List Byte} {i : Nat} (inside : i < payload.length) (rest : List Bool) :
    bitField (payloadBits payload ++ rest) (8 * i) 8 = payload[i].toNat := by
  induction payload generalizing i with
  | nil => exact absurd inside (by simp)
  | cons b payload ih =>
    have bits : payloadBits (b :: payload) ++ rest = bitsOf 8 b.toNat ++ (payloadBits payload ++ rest) := by
      simp [payloadBits]
    rw [bits]
    cases i with
    | zero => exact (bitField_bitsOf 8 _ _).trans (Nat.mod_eq_of_lt b.isLt)
    | succ i =>
      rw [bitField_skip _ _ _ (by omega), show 8 * (i + 1) - 8 = 8 * i by omega]
      exact ih (by simpa using inside)

theorem bitField_afterPayload (payload : List Byte) (n : Nat) (rest : List Bool) :
    bitField (payloadBits payload ++ rest) (8 * payload.length) n = bitField rest 0 n := by
  simp [bitField, payloadBits_length]

/-! ## The parts of a frame -/

/-- A frame's bits with the CRC `crc` (Table 3-1). -/
def framed (h : FrameHeader) (payload : List Byte) (crc : BitVec 16) : List Bool :=
  [false] ++ bitsOf 2 h.cls.toNat ++ bitsOf 3 h.source.val ++ coveredBits h payload ++ bitsOf 16 crc.toNat

theorem frameBits_eq (h : FrameHeader) (payload : List Byte) :
    frameBits h payload = framed h payload (crc16 (coveredBits h payload)) := rfl

/-- A frame's bits, field by field. -/
theorem framed_fields (h : FrameHeader) (payload : List Byte) (crc : BitVec 16) :
    framed h payload crc = false :: (bitsOf 2 h.cls.toNat ++ (bitsOf 3 h.source.val ++ (bitsOf 6 h.kind.toNat ++
      (bitsOf 4 h.dest.toNat ++ (bitsOf 6 h.length.toNat ++ (bitsOf 16 h.seq.toNat ++
        (payloadBits payload ++ bitsOf 16 crc.toNat))))))) := by
  simp [framed, coveredBits, payloadBits]

theorem headerOf_framed (h : FrameHeader) (payload : List Byte) (crc : BitVec 16) : headerOf (framed h payload crc) = h := by
  obtain ⟨cls, source, kind, dest, length, seq⟩ := h
  rw [framed_fields]
  generalize payloadBits payload ++ bitsOf 16 crc.toNat = rest
  simp only [headerOf, bitField_start (i := 0), bitField_start (i := 2), bitField_start (i := 5), bitField_start (i := 11),
    bitField_start (i := 15), bitField_start (i := 21), bitField_skip, Nat.reduceLeDiff, Nat.reduceSub, bitField_bitsOf]
  have station : (⟨source.val % 2 ^ 3 % 8, Nat.mod_lt _ (by decide)⟩ : Station) = source := Fin.ext (by simp)
  simp only [ofNat_field, station]

section
variable {h : FrameHeader} {payload : List Byte} (length : payload.length = h.length.toNat) (crc : BitVec 16)
include length

theorem coveredBits_framed : ((framed h payload crc).drop 6).take (32 + 8 * h.length.toNat) = coveredBits h payload := by
  have size : (coveredBits h payload).length = 32 + 8 * h.length.toNat := by
    have bytes := payloadBits_length payload
    unfold payloadBits at bytes
    simp [coveredBits, bytes, length]
    omega
  have start : (framed h payload crc).drop 6 = coveredBits h payload ++ bitsOf 16 crc.toNat := by
    have front : ([false] ++ bitsOf 2 h.cls.toNat ++ bitsOf 3 h.source.val).length = 6 := by simp
    rw [framed, List.append_assoc, ← front, List.drop_left]
  rw [start, ← size, List.take_left]

theorem crcOf_framed : BitVec.ofNat 16 (bitField (framed h payload crc) (6 + (32 + 8 * h.length.toNat)) 16) = crc := by
  have skips : bitField (framed h payload crc) (6 + (32 + 8 * h.length.toNat)) 16 =
      bitField (payloadBits payload ++ bitsOf 16 crc.toNat) (8 * payload.length) 16 := by
    rw [framed_fields, length, show 6 + (32 + 8 * h.length.toNat) = 37 + 8 * h.length.toNat + 1 by omega, bitField_start]
    iterate 6 rw [bitField_skip _ _ _ (by omega)]
    congr 1
    omega
  have field := bitField_bitsOf 16 crc.toNat []
  rw [List.append_nil] at field
  rw [skips, bitField_afterPayload, field, ofNat_field]

theorem payloadOf_framed : payloadOf (framed h payload crc) h.length.toNat = payload := by
  refine List.ext_getElem (by simp [payloadOf, length]) fun i _ inside => ?_
  have skips : bitField (framed h payload crc) (38 + 8 * i) 8 =
      bitField (payloadBits payload ++ bitsOf 16 crc.toNat) (8 * i) 8 := by
    rw [framed_fields, show 38 + 8 * i = 37 + 8 * i + 1 by omega, bitField_start]
    iterate 6 rw [bitField_skip _ _ _ (by omega)]
    congr 1
    omega
  simp [payloadOf, skips, bitField_payload inside]

/-- The judgement of a receiver (R44). -/
theorem receive_framed : receive (stuff (framed h payload crc)) =
    if headerMalformed h then .abandoned
    else if crc16 (coveredBits h payload) == crc then .correct h payload else .mismatch := by
  simp only [receive, unstuff_stuff, headerOf_framed, coveredBits_framed length, crcOf_framed length, payloadOf_framed length]

end

end Sys2Proof.Machine
end

section
/-! PROOF. What the sender of a frame finds and drives, and how a station judges a frame (R43 to R47). -/

namespace Sys2Proof.Machine

open Sys2Proof

/-! ## The bits of a sender -/

/-- The bits of a frame that its sender judges: the arbitration field and the body. -/
def judgedBits (h : FrameHeader) (payload : List Byte) : List DrivenBit :=
  ((stuff (frameBits h payload)).take (fieldLength h payload)).map (DrivenBit.mk .arbitration) ++
    ((stuff (frameBits h payload)).drop (fieldLength h payload)).map (DrivenBit.mk .body)

/-- The slots and End. -/
def closingBits : List DrivenBit := [⟨.ackSlot, true⟩, ⟨.vetoSlot, true⟩] ++ List.replicate 7 ⟨.ending, true⟩

section
variable (h : FrameHeader) (payload : List Byte)

theorem drivenBits_eq : drivenBits h payload = judgedBits h payload ++ closingBits := by
  simp only [drivenBits, judgedBits, closingBits, List.append_assoc]

theorem judgedBits_levels : (judgedBits h payload).map (·.level) = stuff (frameBits h payload) := by
  simp [judgedBits, Function.comp_def]

theorem judgedBits_length : (judgedBits h payload).length = (stuff (frameBits h payload)).length := by
  rw [← judgedBits_levels, List.length_map]

theorem judgedBits_judged : judged (judgedBits h payload) := by
  intro d inside
  obtain field | body := List.mem_append.mp inside
  · obtain ⟨_, -, rfl⟩ := List.mem_map.mp field
    exact .inl rfl
  · obtain ⟨_, -, rfl⟩ := List.mem_map.mp body
    exact .inr rfl

theorem judgedBits_part {i : Nat} (inside : i < (stuff (frameBits h payload)).length) :
    (judgedBits h payload)[i]?.map (·.part) = some (if i < fieldLength h payload then .arbitration else .body) := by
  unfold judgedBits
  by_cases field : i < fieldLength h payload
  · rw [List.getElem?_append_left (by simp only [List.length_map, List.length_take]; omega), List.getElem?_map,
      List.getElem?_take_of_lt field, List.getElem?_eq_getElem inside, if_pos field]
    rfl
  · have past : fieldLength h payload ≤ i := by omega
    have size : fieldLength h payload ≤ (stuff (frameBits h payload)).length := by omega
    rw [List.getElem?_append_right (by simp; omega)]
    simp [field, size, past, inside]

theorem closingBits_noStop (reads : List Bool) (last : Bool) (run : Nat) : stopFrom last run closingBits reads = none :=
  stopFrom_slots_and_end closingBits reads last run (by simp [closingBits])

theorem drivenBits_levels : (drivenBits h payload).map (·.level) = stuff (frameBits h payload) ++ List.replicate 9 true := by
  rw [drivenBits_eq, List.map_append, judgedBits_levels]
  rfl

theorem noSix_sent : noSix false 0 (stuff (frameBits h payload)) := noSix_stuffFrom _ false 0 (by omega)

/-! ## A frame read as it was sent -/

theorem senderStop_none (reads : List Bool) : senderStop h payload (stuff (frameBits h payload) ++ reads) = none := by
  have sent := noSix_sent h payload
  rw [← judgedBits_levels] at sent ⊢
  obtain ⟨last, run, goes⟩ := stopFrom_own_levels (judgedBits h payload) closingBits reads false 0 sent
  rw [senderStop, drivenBits_eq, goes, closingBits_noStop]
  rfl

omit h payload in
theorem readDominant_cons (part : FramePart) (d : DrivenBit) (bits : List DrivenBit) (read : Bool) (reads : List Bool) :
    readDominant part (d :: bits) (read :: reads) = (d.part == part && !read || readDominant part bits reads) := rfl

omit h payload in
theorem readDominant_absent {part : FramePart} {bits : List DrivenBit} (absent : ∀ d ∈ bits, d.part ≠ part) (reads : List Bool) :
    readDominant part bits reads = false := by
  unfold readDominant
  rw [List.any_eq_false]
  intro e inside
  simp [absent e.1 (List.of_mem_zip inside).1]

/-- A part that stands in the closing bits alone is read there. -/
theorem readDominant_closing {part : FramePart} (reads : List Bool) (outside : part ≠ .arbitration ∧ part ≠ .body) :
    readDominant part (drivenBits h payload) (stuff (frameBits h payload) ++ reads) = readDominant part closingBits reads := by
  have absent : readDominant part (judgedBits h payload) (stuff (frameBits h payload)) = false := by
    refine readDominant_absent (fun d inside => ?_) _
    obtain field | body := judgedBits_judged h payload d inside
    · exact field ▸ outside.1.symm
    · exact body ▸ outside.2.symm
  unfold readDominant at absent ⊢
  rw [drivenBits_eq, List.zip_append (judgedBits_length h payload), List.any_append, absent, Bool.false_or]

theorem senderFinds_slots (ack veto : Bool) (ending : List Bool) :
    senderFinds h payload (stuff (frameBits h payload) ++ [!ack, !veto] ++ ending) = .slots ack veto := by
  have unread (part : FramePart) (other : part ≠ .ending) :
      readDominant part (List.replicate 7 ⟨.ending, true⟩) ending = false :=
    readDominant_absent (fun d inside => by rw [List.eq_of_mem_replicate inside]; exact other.symm) ending
  rw [List.append_assoc]
  simp only [senderFinds, senderStop_none]
  rw [readDominant_closing _ _ _ (by decide), readDominant_closing _ _ _ (by decide)]
  simp [closingBits, readDominant_cons, unread, -List.reduceReplicate]

theorem senderDrives_slots (reads : List Bool) : senderDrives h payload (stuff (frameBits h payload) ++ reads) =
    stuff (frameBits h payload) ++ List.replicate 9 true := by
  simp only [senderDrives, senderStop_none, drivenBits_levels]

/-! ## A recessive bit read dominant -/

variable {h payload} {before after : List Bool} (sent : stuff (frameBits h payload) = before ++ true :: after)
include sent

/-- The bit behind `before`, as its sender drives it. -/
theorem judgedBits_at : ∃ front back, judgedBits h payload =
      front ++ ⟨if before.length < fieldLength h payload then .arbitration else .body, true⟩ :: back ∧
    front.map (·.level) = before := by
  have levels := judgedBits_levels h payload
  rw [sent] at levels
  obtain ⟨front, tail, bits, front_eq, tail_eq⟩ := List.map_eq_append_iff.mp levels
  obtain ⟨d, back, rfl, level, -⟩ := List.map_eq_cons_iff.mp tail_eq
  have place : front.length = before.length := by rw [← front_eq, List.length_map]
  have inside : before.length < (stuff (frameBits h payload)).length := by simp [sent]
  have part := judgedBits_part h payload inside
  refine ⟨front, back, ?_, front_eq⟩
  simp only [bits, ← place, List.getElem?_append_right (Nat.le_refl _), Nat.sub_self, List.getElem?_cons_zero,
    Option.map_some, Option.some.injEq] at part
  rw [bits, ← place, ← part, ← level]

theorem senderStop_readDominant (rest : List Bool) : senderStop h payload (before ++ false :: rest) =
    some (before.length, if before.length < fieldLength h payload then .lost else .bitError) := by
  obtain ⟨front, back, bits, levels⟩ := judgedBits_at sent
  have open_ : noSix false 0 (front.map (·.level)) := by
    have all := noSix_sent h payload
    rw [sent] at all
    exact levels ▸ noSix_of_append _ _ _ _ all
  obtain ⟨last, run, goes⟩ := stopFrom_own_levels front
    (⟨if before.length < fieldLength h payload then .arbitration else .body, true⟩ :: (back ++ closingBits))
    (false :: rest) false 0 open_
  have place : front.length = before.length := by rw [← levels, List.length_map]
  rw [levels] at goes
  rw [senderStop, drivenBits_eq, bits, List.append_assoc, List.cons_append, goes, place]
  by_cases field : before.length < fieldLength h payload
  · simp [field, stopFrom, DrivenBit.stop]
  · simp [field, stopFrom, DrivenBit.stop]

theorem drivenBits_upTo : ((drivenBits h payload).map (·.level)).take (before.length + 1) = before ++ [true] := by
  have whole : stuff (frameBits h payload) = before ++ [true] ++ after := by rw [sent, List.append_assoc]; rfl
  have size : before.length + 1 = (before ++ [true]).length := by rw [List.length_append]; rfl
  rw [drivenBits_levels, whole, List.append_assoc, size, List.take_left]

theorem sender_readDominant_inField (rest : List Bool) (field : before.length < fieldLength h payload) :
    senderFinds h payload (before ++ false :: rest) = .lost ∧
    senderDrives h payload (before ++ false :: rest) = before ++ [true] := by
  have stops := senderStop_readDominant sent rest
  rw [if_pos field] at stops
  simp only [senderFinds, senderDrives, stops, drivenBits_upTo sent, and_self]

theorem sender_readDominant_inBody (rest : List Bool) (body : fieldLength h payload ≤ before.length) :
    senderFinds h payload (before ++ false :: rest) = .bitError ∧
    senderDrives h payload (before ++ false :: rest) = before ++ [true] ++ List.replicate 6 false := by
  have stops := senderStop_readDominant sent rest
  rw [if_neg (Nat.not_lt.mpr body)] at stops
  simp only [senderFinds, senderDrives, stops, drivenBits_upTo sent, true_and]
  rfl

end

/-! ## Six equal bits read -/

section
variable {h : FrameHeader} {payload : List Byte} {before : List Bool} (b : Bool) (rest : List Bool)
  (room : before.length + 6 ≤ (stuff (frameBits h payload)).length)
include room

theorem senderStop_six : ∃ k why, k < before.length + 6 ∧
    senderStop h payload (before ++ List.replicate 6 b ++ rest) = some (k, why) := by
  have room' : before.length + 6 ≤ (judgedBits h payload).length := by rwa [judgedBits_length]
  rw [List.append_assoc, senderStop, drivenBits_eq]
  refine stopFrom_six_equal before false 0 _ b rest (by simp only [List.length_append]; omega) fun d inside => ?_
  rw [List.take_append_of_le_length room'] at inside
  exact judgedBits_judged h payload d (List.mem_of_mem_take inside)

theorem senderFinds_six (ack veto : Bool) : senderFinds h payload (before ++ List.replicate 6 b ++ rest) ≠ .slots ack veto := by
  obtain ⟨k, why, -, stops⟩ := senderStop_six b rest room
  cases why <;> simp only [senderFinds, stops] <;> exact nofun

theorem senderStop_unread (own : ∀ i < before.length + 6, (stuff (frameBits h payload))[i]? = some true →
      (before ++ List.replicate 6 b ++ rest)[i]? = some true) : ∃ k < before.length + 6,
    senderStop h payload (before ++ List.replicate 6 b ++ rest) = some (k, .bitError) := by
  obtain ⟨k, why, early, stops⟩ := senderStop_six b rest room
  have reason : why = .bitError := by
    refine stopFrom_reason _ false 0 _ k why stops fun i d r upTo bit read level => ?_
    have sent : (stuff (frameBits h payload))[i]? = some true := by
      have there := congrArg (Option.map (·.level)) bit
      rw [← List.getElem?_map, drivenBits_levels, List.getElem?_append_left (by omega)] at there
      rw [there]
      exact congrArg some level
    exact Option.some.inj (read.symm.trans (own i (by omega) sent))
  exact ⟨k, early, reason ▸ stops⟩

theorem sender_six (own : ∀ i < before.length + 6, (stuff (frameBits h payload))[i]? = some true →
      (before ++ List.replicate 6 b ++ rest)[i]? = some true) :
    senderFinds h payload (before ++ List.replicate 6 b ++ rest) = .bitError ∧
    ∃ k < before.length + 6, senderDrives h payload (before ++ List.replicate 6 b ++ rest) =
      (stuff (frameBits h payload)).take (k + 1) ++ List.replicate 6 false := by
  obtain ⟨k, early, stops⟩ := senderStop_unread b rest room own
  refine ⟨by simp only [senderFinds, stops], k, early, ?_⟩
  simp only [senderDrives, stops, drivenBits_levels]
  rw [List.take_append_of_le_length (by omega)]
  rfl

end

end Sys2Proof.Machine
end

section
/-! PROOF. How a station judges the frames it hears and its own (R44, R45, R47). -/

namespace Sys2Proof.Machine

open Sys2Proof

/-! ## A frame heard -/

theorem State.answers_quiet {s : State} (r : Reception) (quiet : s.join.st = .quiet) :
    s.answers r = { ack := false, veto := false, flag := false } := by
  simp [State.answers, quiet]

theorem State.answers_active {s : State} (r : Reception) (active : s.line.active = true) (heard : s.join.st ≠ .quiet) :
    s.answers r =
      match r with
      | .abandoned => { ack := false, veto := false, flag := true }
      | .mismatch => { ack := false, veto := true, flag := false }
      | .correct h _ => { ack := true, veto := s.busyFor h || s.vetoesHeader h, flag := false } := by
  have answers : (!s.line.active || s.join.st == .quiet) = false := by simp [active, heard]
  unfold State.answers
  rw [answers]
  rfl

/-! ## A station's own frame -/

theorem all_mapFrom_iff {α : Type} (f : Nat → α → Bool) (l : List α) :
    (mapFrom f 0 l).all id = true ↔ ∀ i a, l[i]? = some a → f i a = true := by
  simp only [List.all_eq_true, List.mem_iff_getElem?, mapFrom_getElem?, Option.map_eq_some_iff, Nat.zero_add, id]
  constructor
  · intro all i a place
    exact all _ ⟨i, a, place, rfl⟩
  · rintro all _ ⟨i, a, place, rfl⟩
    exact all i a place

/-- Nobody else is in the cell, as the roster has it (R47). -/
theorem rosterIsBare_iff {t : Table} (me : Station) (length : t.roster.length = 8) :
    (mapFrom (fun n r => n == me.val || !r.state.inCell) 0 t.roster).all id = true ↔
      ∀ n : Station, n ≠ me → (t.entry n).state.inCell = false := by
  rw [all_mapFrom_iff]
  constructor
  · intro all n other
    have inside : n.val < t.roster.length := by omega
    have entry : t.roster[n.val]? = some (t.entry n) := by
      simp [Table.entry, List.getD_eq_getElem?_getD, List.getElem?_eq_getElem inside]
    have bare := all n.val _ entry
    simpa [Fin.val_inj, other] using bare
  · intro bare i r place
    have inside : i < 8 := by
      rw [← length]
      exact (List.getElem?_eq_some_iff.mp place).1
    have entry : t.entry ⟨i, inside⟩ = r := by simp [Table.entry, List.getD_eq_getElem?_getD, place]
    by_cases own : i = me.val
    · simp [own]
    · have empty := bare ⟨i, inside⟩ fun same => own (congrArg Fin.val same)
      simp [← entry, empty]

theorem State.ownFrameEnd_slots (tx : Tx) (ack veto : Bool) (s : State) : s.ownFrameEnd tx (.slots ack veto) =
    if s.senderAccepts tx ack veto then .ownFrameAccepted else .ownFrameVoid := rfl

theorem State.ownFrameEnd_unanswered {s : State} {t : Table} (tx : Tx) (table : s.table = some t) (length : t.roster.length = 8) :
    s.ownFrameEnd tx (.slots false false) =
      if ∀ n : Station, n ≠ s.me → (t.entry n).state.inCell = false then .ownFrameAccepted else .ownFrameVoid := by
  have accepts : s.senderAccepts tx false false = true ↔ ∀ n : Station, n ≠ s.me → (t.entry n).state.inCell = false := by
    rw [← rosterIsBare_iff s.me length]
    simp [State.senderAccepts, table]
  rw [State.ownFrameEnd_slots]
  by_cases bare : ∀ n : Station, n ≠ s.me → (t.entry n).state.inCell = false
  · rw [if_pos (accepts.mpr bare), if_pos bare]
  · rw [if_neg fun accepted => bare (accepts.mp accepted), if_neg bare]

/-- A JOIN that does not found a cell. -/
def Tx.joinsOrdinarily (tx : Tx) : Prop := ∃ e j, tx.content = .share e (.join j) ∧ j.founding = false

theorem State.ownFrameEnd_bare {s : State} (tx : Tx) (bare : s.table = none) :
    (tx.joinsOrdinarily → s.ownFrameEnd tx (.slots false false) = .ownFrameVoid) ∧
    (¬ tx.joinsOrdinarily → s.ownFrameEnd tx (.slots false false) = .ownFrameAccepted) := by
  refine ⟨?_, fun other => ?_⟩
  · rintro ⟨e, j, content, ordinary⟩
    simp [State.ownFrameEnd_slots, State.senderAccepts, bare, content, ordinary]
  · have accepts : s.senderAccepts tx false false = true := by
      simp only [State.senderAccepts, bare, Bool.not_false, Bool.true_and, Bool.false_or]
      split
      · contradiction
      next e j _ content =>
        cases founding : j.founding
        · exact absurd ⟨e, j, content, founding⟩ other
        · rfl
      · rfl
    rw [State.ownFrameEnd_slots, if_pos accepts]

/-- Settles O40. -/
theorem framesAreStuffedJudgedAndAnswered : Obligations.FramesAreStuffedJudgedAndAnswered := by
  unfold Obligations.FramesAreStuffedJudgedAndAnswered
  refine ⟨fun _ _ _ _ sent => stuff_breaks sent, unstuff_stuff, receive_six, fun h payload length => ?_, fun s active => ?_,
    fun h payload => ?_, fun tx s => ?_⟩
  · have reads := receive_framed length
    refine ⟨fun malformed => ?_, fun wellFormed => ⟨?_, fun crc other => ?_⟩⟩
    · rw [frameBits_eq, reads, if_pos malformed]
    · rw [frameBits_eq, reads, wellFormed]
      simp
    · have mismatch := reads crc
      rw [wellFormed, if_neg (by simp), if_neg (by simpa using other.symm)] at mismatch
      exact mismatch
  · refine ⟨fun quiet => ⟨fun r => State.answers_quiet r quiet, fun ack veto => by simp [State.receiverAccepts, quiet]⟩,
      fun heard => ⟨State.answers_active _ active heard, State.answers_active _ active heard,
        fun h payload => State.answers_active _ active heard, fun ack veto => by simp [State.receiverAccepts, heard]⟩⟩
  · refine ⟨fun ack veto ending _ => ⟨senderFinds_slots h payload ack veto ending, ?_⟩,
      fun before after rest sent => ⟨fun field => sender_readDominant_inField sent rest field,
        fun body => sender_readDominant_inBody sent rest body⟩,
      fun before rest b room => ⟨fun ack veto => senderFinds_six b rest room ack veto, fun own => sender_six b rest room own⟩⟩
    rw [List.append_assoc]
    exact senderDrives_slots h payload _
  · refine ⟨rfl, rfl, fun ack => ?_, ?_, fun t table length => State.ownFrameEnd_unanswered tx table length,
      fun bare => State.ownFrameEnd_bare tx bare⟩
    · simp [State.ownFrameEnd_slots, State.senderAccepts]
    · simp [State.ownFrameEnd_slots, State.senderAccepts]

end Sys2Proof.Machine
end

section
/-! PROOF. What the starts keep of M1: a SLOT_SENSE that waits there stays, and no start makes a detach due as ISOLATED (R53, R92). -/

namespace Sys2Proof.Machine

open Sys2Proof

/-- A SLOT_SENSE waits in M1. -/
def reportWaits (m1 : List M1Entry) : Prop := M1Entry.slotSense 0 ∈ m1

/-- A SLOT_SENSE that waits in M1 of `s` waits in M1 of `t`, and no detach is due there as ISOLATED that was not. -/
abbrev keepsReports (s t : State) : Prop :=
  (reportWaits s.line.m1 → reportWaits t.line.m1) ∧
  (s.detachDue ≠ some .isolated → t.detachDue ≠ some .isolated)

theorem keepsReports_refl (s : State) : keepsReports s s := ⟨id, id⟩

theorem keepsReports_trans {s t u : State} (first : keepsReports s t) (second : keepsReports t u) : keepsReports s u :=
  ⟨second.1 ∘ first.1, second.2 ∘ first.2⟩

theorem foldl_keepsReports {α : Type} (f : α → State → State) (keeps : ∀ a s, keepsReports s (f a s)) (l : List α)
    (s t : State)
    (start : keepsReports s t) : keepsReports s (l.foldl (fun s a => f a s) t) := by
  induction l generalizing t with
  | nil => exact start
  | cons a l ih => exact ih _ (keepsReports_trans start (keeps a t))

@[simp] theorem State.pushM1_reports (e : M1Entry) (s : State) : keepsReports s (s.pushM1 e) := by
  unfold State.pushM1
  split
  · exact ⟨fun waits => List.mem_append_left _ waits, id⟩
  · refine ⟨id, fun other => ?_⟩
    cases due : s.detachDue <;> simp_all

theorem mergeTail_reports (onLine : Bool) (items : ItemSet) (l m1 : List M1Entry) (merged : mergeTail onLine items l = some m1)
    (waits : reportWaits l) : reportWaits m1 := by
  fun_induction mergeTail onLine items l generalizing m1 with
  | case1 => cases merged
  | case2 => cases merged
  | case3 => simp [reportWaits] at waits
  | case4 => cases merged
  | case5 onLine e rest _ _ ih =>
    obtain ⟨tail, joined, rfl⟩ := Option.map_eq_some_iff.1 merged
    obtain rfl | later := List.mem_cons.mp waits
    · exact List.mem_cons_self
    · exact List.mem_cons_of_mem _ (ih tail joined later)

@[simp] theorem State.queueRelease_reports (items : ItemSet) (s : State) : keepsReports s (s.queueRelease items) := by
  unfold State.queueRelease
  split
  · exact keepsReports_refl s
  · split
    next merged => exact ⟨mergeTail_reports _ _ _ _ merged, id⟩
    next => exact s.pushM1_reports _

@[simp] theorem State.releaseOutside_reports (zones : ZoneSet) (s : State) : keepsReports s (s.releaseOutside zones) :=
  s.queueRelease_reports _

/-- An entry of M1 is on the line or waits behind it. -/
theorem mem_kept_or_waiting (onLine : Bool) {e : M1Entry} {l : List M1Entry} (inside : e ∈ l) :
    e ∈ (if onLine then l.take 1 else []) ∨ e ∈ (if onLine then l.drop 1 else l) := by
  cases onLine
  · exact .inr inside
  · have parts : e ∈ l.take 1 ++ l.drop 1 := by rwa [List.take_append_drop]
    exact List.mem_append.mp parts

theorem State.removeM1_reports {p : M1Entry → Bool} (s : State) (other : p (.slotSense 0) = false) :
    keepsReports s (s.removeM1 p) := by
  refine ⟨fun waits => ?_, id⟩
  obtain kept | waiting := mem_kept_or_waiting s.m1OnLine waits
  · exact List.mem_append_left _ kept
  · exact List.mem_append_right _ ((List.mem_eraseP_of_neg (by simpa using other)).mpr waiting)

theorem State.removeAllM1_reports {p : M1Entry → Bool} (s : State) (other : p (.slotSense 0) = false) :
    keepsReports s (s.removeAllM1 p) := by
  refine ⟨fun waits => ?_, id⟩
  obtain kept | waiting := mem_kept_or_waiting s.m1OnLine waits
  · exact List.mem_append_left _ kept
  · exact List.mem_append_right _ (List.mem_filter.mpr ⟨waiting, by simpa using other⟩)

theorem mem_rewriteFirst {p : M1Entry → Bool} (e : M1Entry) {a : M1Entry} {l : List M1Entry} (other : p a = false)
    (inside : a ∈ l) :
    a ∈ rewriteFirst p e l := by
  induction l with
  | nil => exact absurd inside (by simp)
  | cons b l ih =>
    unfold rewriteFirst
    obtain rfl | later := List.mem_cons.mp inside
    · simp [other]
    · split
      · exact List.mem_cons_of_mem _ later
      · exact List.mem_cons_of_mem _ (ih later)

theorem State.rewriteLastM1_reports {p : M1Entry → Bool} (e : M1Entry) (s : State) (other : p (.slotSense 0) = false) :
    keepsReports s (s.rewriteLastM1 p e) := by
  refine ⟨fun waits => ?_, id⟩
  obtain kept | waiting := mem_kept_or_waiting s.m1OnLine waits
  · exact List.mem_append_left _ kept
  · exact List.mem_append_right _ (List.mem_reverse.mpr (mem_rewriteFirst e other (List.mem_reverse.mpr waiting)))

@[simp] theorem State.decideReport_reports (s : State) : keepsReports s s.decideReport := by
  unfold State.decideReport
  split <;> exact ⟨id, id⟩

@[simp] theorem isClaimOf_report (serial : Nat) : M1Entry.isClaimOf serial (.slotSense 0) = false := rfl

@[simp] theorem isWithdraw_report : M1Entry.isWithdraw (.slotSense 0) = false := rfl

@[simp] theorem State.endClaims_reports (serial : Nat) (s : State) : keepsReports s (s.removeAllM1 (M1Entry.isClaimOf serial)) :=
  s.removeAllM1_reports rfl

@[simp] theorem State.endWithdraw_reports (s : State) : keepsReports s (s.removeM1 M1Entry.isWithdraw) :=
  s.removeM1_reports rfl

@[simp] theorem State.rewriteClaim_reports (serial : Nat) (e : M1Entry) (s : State) :
    keepsReports s (s.rewriteLastM1 (M1Entry.isClaimOf serial) e) :=
  s.rewriteLastM1_reports e rfl

@[simp] theorem State.emit_reports (e : Event) (s : State) : keepsReports s (s.emit e) := by
  unfold State.emit
  (repeat' split) <;> simp (maxDischargeDepth := 9) (implicitDefEqProofs := false) +contextual [keepsReports]

@[simp] theorem State.raiseAt_reports (r : FaultReport) (position : Vec3 Lu) (s : State) : keepsReports s (s.raiseAt r position) := by
  unfold State.raiseAt
  simp (maxDischargeDepth := 9) (implicitDefEqProofs := false) +contextual [keepsReports]

@[simp] theorem State.raise_reports (r : FaultReport) (s : State) : keepsReports s (s.raise r) := by
  unfold State.raise
  simp (maxDischargeDepth := 9) (implicitDefEqProofs := false) +contextual [keepsReports]

@[simp] theorem State.newClaim_reports (r : Requester) (wanted missing : ItemSet) (s : State) : keepsReports s
    (s.newClaim r wanted missing) := by
  unfold State.newClaim
  dsimp only
  simp (maxDischargeDepth := 9) (implicitDefEqProofs := false) +contextual [keepsReports]

@[simp] theorem State.takeOver_reports (c : CurrentClaim) (r : Requester) (wanted missing : ItemSet) (s : State) : keepsReports s
    (s.takeOver c r wanted missing) := by
  unfold State.takeOver
  dsimp only
  (repeat' split) <;> simp (maxDischargeDepth := 9) (implicitDefEqProofs := false) +contextual [keepsReports]

@[simp] theorem State.request_reports (r : Requester) (wanted : ItemSet) (s : State) : keepsReports s (s.request r wanted).1 := by
  unfold State.request
  dsimp only
  (repeat' split) <;> simp (maxDischargeDepth := 9) (implicitDefEqProofs := false) +contextual [keepsReports]

@[simp] theorem State.endFrames_reports (items : ItemSet) (serial : Nat) (s : State) : keepsReports s (s.endFrames items serial) := by
  unfold State.endFrames
  dsimp only
  (repeat' split) <;> simp (maxDischargeDepth := 9) (implicitDefEqProofs := false) +contextual [keepsReports]

@[simp] theorem State.dropClaim_reports (s : State) : keepsReports s s.dropClaim := by
  unfold State.dropClaim
  dsimp only
  (repeat' split) <;> simp (maxDischargeDepth := 9) (implicitDefEqProofs := false) +contextual [keepsReports]

@[simp] theorem State.drainRing_reports (s : State) : keepsReports s s.drainRing := by
  unfold State.drainRing
  simp (maxDischargeDepth := 9) (implicitDefEqProofs := false) +contextual [keepsReports]

@[simp] theorem State.endRun_reports (reason : RunEndReason) (reasonByte : Byte) (s : State) :
    keepsReports s (s.endRun reason reasonByte) := by
  unfold State.endRun
  dsimp only
  (repeat' split) <;> simp (maxDischargeDepth := 9) (implicitDefEqProofs := false) +contextual [keepsReports, Run.cold]

@[simp] theorem State.changeEnded_reports (outcome : ChangeOutcome) (s : State) : keepsReports s (s.changeEnded outcome) := by
  unfold State.changeEnded
  simp (maxDischargeDepth := 9) (implicitDefEqProofs := false) +contextual [keepsReports]

@[simp] theorem State.updateProbe_reports (id : ProbeId) (f : ProbeRecord → ProbeRecord) (s : State) : keepsReports s
    (s.updateProbe id f) := by
  unfold State.updateProbe
  simp (maxDischargeDepth := 9) (implicitDefEqProofs := false) +contextual [keepsReports]

@[simp] theorem State.judgeStale_reports (arm : Option Temp) (s : State) : keepsReports s (s.judgeStale arm) := by
  unfold State.judgeStale
  (repeat' split) <;> simp (maxDischargeDepth := 9) (implicitDefEqProofs := false) +contextual [keepsReports]

@[simp] theorem State.judgeHead_reports (outcome : ChangeOutcome) (s : State) : keepsReports s (s.judgeHead outcome) := by
  unfold State.judgeHead
  (repeat' split) <;> simp (maxDischargeDepth := 9) (implicitDefEqProofs := false) +contextual [keepsReports]

@[simp] theorem State.closeWindows_reports (s : State) : keepsReports s s.closeWindows := by
  unfold State.closeWindows
  dsimp only
  refine foldl_keepsReports (fun (w : Nat × ChangeOutcome) s => s.judgeHead w.2) (fun w s => s.judgeHead_reports w.2) _ _ _ ?_
  simp [keepsReports]

@[simp] theorem State.endChange_reports (outcome : ChangeOutcome) (r : ChangeRecord) (s : State) : keepsReports s
    (s.endChange outcome r) := by
  unfold State.endChange
  dsimp only
  (repeat' split) <;> simp (maxDischargeDepth := 9) (implicitDefEqProofs := false) +contextual [keepsReports]

@[simp] theorem State.changeDone_reports (s : State) : keepsReports s s.changeDone := by
  unfold State.changeDone
  dsimp only
  (repeat' split) <;> simp (maxDischargeDepth := 9) (implicitDefEqProofs := false) +contextual [keepsReports]

@[simp] theorem State.failChange_reports (s : State) : keepsReports s s.failChange := by
  unfold State.failChange
  (repeat' split) <;> simp (maxDischargeDepth := 9) (implicitDefEqProofs := false) +contextual [keepsReports]

@[simp] theorem State.endQualification_reports (outcome : QualOutcome) (s : State) : keepsReports s (s.endQualification outcome) := by
  unfold State.endQualification
  (repeat' split) <;> simp (maxDischargeDepth := 9) (implicitDefEqProofs := false) +contextual [keepsReports]

@[simp] theorem State.discardExcursions_reports (outcome : QualOutcome) (s : State) :
    keepsReports s (s.discardExcursions outcome) := by
  unfold State.discardExcursions
  dsimp only
  simp (maxDischargeDepth := 9) (implicitDefEqProofs := false) +contextual [keepsReports]

@[simp] theorem State.releaseAfterExcursion_reports (had : Bool) (s : State) : keepsReports s (s.releaseAfterExcursion had) := by
  unfold State.releaseAfterExcursion
  (repeat' split) <;> simp (maxDischargeDepth := 9) (implicitDefEqProofs := false) +contextual [keepsReports]

@[simp] theorem State.failAll_reports (s : State) : keepsReports s s.failAll := by
  unfold State.failAll
  dsimp only
  simp (maxDischargeDepth := 9) (implicitDefEqProofs := false) +contextual [keepsReports]

@[simp] theorem State.faultOff_reports (r : FaultReport) (s : State) : keepsReports s (s.faultOff r) := by
  unfold State.faultOff
  dsimp only
  simp (maxDischargeDepth := 9) (implicitDefEqProofs := false) +contextual [keepsReports]

@[simp] theorem State.faultStill_reports (r : FaultReport) (s : State) : keepsReports s (s.faultStill r) := by
  unfold State.faultStill
  dsimp only
  simp (maxDischargeDepth := 9) (implicitDefEqProofs := false) +contextual [keepsReports]

@[simp] theorem State.startStraight_reports (act : MotionAct) (origin : Origin) (target : Vec3 Lu) (feed : BitVec 16)
    (required : ZoneSet) (s : State) : keepsReports s (s.startStraight act origin target feed required) := by
  unfold State.startStraight
  (repeat' split) <;> simp (maxDischargeDepth := 9) (implicitDefEqProofs := false) +contextual [keepsReports]

@[simp] theorem State.lookAhead_reports (s : State) : keepsReports s s.lookAhead := by
  unfold State.lookAhead
  (repeat' split) <;> simp (maxDischargeDepth := 9) (implicitDefEqProofs := false) +contextual [keepsReports]

@[simp] theorem State.push_reports (kind : ExcursionKind) (need : Option ZoneSet) (serves : Bool) (s : State) :
    keepsReports s (s.push kind need serves) := by
  unfold State.push
  split <;> simp [keepsReports]

@[simp] theorem State.pushOut_reports (kind : ExcursionKind) (need : Option ZoneSet) (serves : Bool) (s : State) : keepsReports s
    (s.pushOut kind need serves) := by
  unfold State.pushOut
  simp (maxDischargeDepth := 9) (implicitDefEqProofs := false) +contextual [keepsReports]

@[simp] theorem State.pushChange_reports (target : ProbeId) (serves : Bool) (s : State) : keepsReports s (s.pushChange target serves) := by
  unfold State.pushChange
  dsimp only
  simp (maxDischargeDepth := 9) (implicitDefEqProofs := false) +contextual [keepsReports]

@[simp] theorem State.completeSegment_reports (outcome : SegOutcome) (endSet : ZoneSet) (hold : Bool) (s : State) : keepsReports s
    (s.completeSegment outcome endSet hold) := by
  unfold State.completeSegment
  dsimp only
  (repeat' split) <;> simp (maxDischargeDepth := 9) (implicitDefEqProofs := false) +contextual [keepsReports]

@[simp] theorem State.goToTouch_reports (q : Qualification) (touch : Nat) (s : State) : keepsReports s (s.goToTouch q touch) := by
  unfold State.goToTouch
  dsimp only
  (repeat' split) <;> simp (maxDischargeDepth := 9) (implicitDefEqProofs := false) +contextual [keepsReports]

@[simp] theorem State.beginTouches_reports (s : State) : keepsReports s s.beginTouches := by
  unfold State.beginTouches
  (repeat' split) <;> simp (maxDischargeDepth := 9) (implicitDefEqProofs := false) +contextual [keepsReports]

@[simp] theorem State.pop_reports (s : State) : keepsReports s s.pop := by
  unfold State.pop
  split
  · dsimp only
    (repeat' split) <;> simp_all +contextual (maxDischargeDepth := 9) (implicitDefEqProofs := false) [keepsReports]
  · simp [keepsReports]

@[simp] theorem State.afterChange_reports (s : State) : keepsReports s s.afterChange := by
  unfold State.afterChange
  (repeat' split) <;> simp (maxDischargeDepth := 9) (implicitDefEqProofs := false) +contextual [keepsReports]

@[simp] theorem State.claimSlots_reports (pick : Fin 8) (drop : Option (Fin 8)) (s : State) : keepsReports s (s.claimSlots pick drop) := by
  unfold State.claimSlots
  simp (maxDischargeDepth := 9) (implicitDefEqProofs := false) +contextual [keepsReports]

@[simp] theorem State.chooseSlots_reports (r : ChangeRecord) (s : State) : keepsReports s (s.chooseSlots r) := by
  unfold State.chooseSlots
  dsimp only
  (repeat' split) <;> simp (maxDischargeDepth := 9) (implicitDefEqProofs := false) +contextual [keepsReports]

@[simp] theorem State.beginChange_reports (s : State) : keepsReports s s.beginChange := by
  unfold State.beginChange
  (repeat' split) <;> simp (maxDischargeDepth := 9) (implicitDefEqProofs := false) +contextual [keepsReports]

@[simp] theorem State.changeHeld_reports (s : State) : keepsReports s s.changeHeld := by
  unfold State.changeHeld
  (repeat' split) <;> simp (maxDischargeDepth := 9) (implicitDefEqProofs := false) +contextual [keepsReports]

@[simp] theorem State.startChangeMove_reports (m : ChangeMove) (s : State) : keepsReports s (s.startChangeMove m) := by
  unfold State.startChangeMove
  dsimp only
  (repeat' split) <;> simp (maxDischargeDepth := 9) (implicitDefEqProofs := false) +contextual [keepsReports]

@[simp] theorem State.gateItems_reports (t : Start) (s : State) : keepsReports s (s.gateItems t).1 := by
  unfold State.gateItems
  dsimp only
  (repeat' split) <;> simp (maxDischargeDepth := 9) (implicitDefEqProofs := false) +contextual [keepsReports]

theorem State.withReferences_reports (f : State → State) (s : State) (fits : keepsReports s (f s)) :
    keepsReports s (s.withReferences f) := by
  unfold State.withReferences
  split
  · exact s.faultStill_reports _
  · exact fits

@[simp] theorem State.startTravel_reports (probing : Bool) (t : TravelSpec) (s : State) : keepsReports s (s.startTravel probing t) := by
  unfold State.startTravel
  dsimp only
  (repeat' split) <;> simp (maxDischargeDepth := 9) (implicitDefEqProofs := false) +contextual [keepsReports]

@[simp] theorem State.probePastRing_reports (s : State) : keepsReports s s.probePastRing := by
  unfold State.probePastRing
  (repeat' split) <;> simp (maxDischargeDepth := 9) (implicitDefEqProofs := false) +contextual [keepsReports]

theorem State.gateRing_reports (past : Start) (go : State → State) (s : State) (fits : keepsReports s (go s)) :
    keepsReports s (s.gateRing past go) := by
  unfold State.gateRing
  split
  · simp [keepsReports]
  · exact fits

@[simp] theorem State.startProbe_reports (t : TravelSpec) (s : State) : keepsReports s (s.startProbe t) := by
  have ring := s.gateRing_reports .segmentPastRing State.probePastRing s.probePastRing_reports
  unfold State.startProbe
  (repeat' split) <;> simp (maxDischargeDepth := 9) (implicitDefEqProofs := false) +contextual [keepsReports, ring]

@[simp] theorem State.startSegment_reports (s : State) : keepsReports s s.startSegment := by
  unfold State.startSegment
  split
  · exact s.withReferences_reports _ (s.startTravel_reports _ _)
  · exact s.withReferences_reports _ (s.startProbe_reports _)
  · exact keepsReports_refl s

@[simp] theorem State.startDwell_reports (left : BitVec 16) (s : State) : keepsReports s (s.startDwell left) := by
  unfold State.startDwell
  simp (maxDischargeDepth := 9) (implicitDefEqProofs := false) +contextual [keepsReports]

@[simp] theorem State.startBackOff_reports (target : Vec3 Lu) (thenHeld : Bool) (s : State) : keepsReports s
    (s.startBackOff target thenHeld) := by
  unfold State.startBackOff
  dsimp only
  (repeat' split) <;> simp (maxDischargeDepth := 9) (implicitDefEqProofs := false) +contextual [keepsReports]

@[simp] theorem State.nextSeek_reports (s : State) : keepsReports s s.nextSeek := by
  unfold State.nextSeek
  dsimp only
  (repeat' split) <;> simp (maxDischargeDepth := 9) (implicitDefEqProofs := false) +contextual [keepsReports]

@[simp] theorem State.startHome_reports (s : State) : keepsReports s s.startHome := by
  unfold State.startHome
  dsimp only
  (repeat' split) <;> simp (maxDischargeDepth := 9) (implicitDefEqProofs := false) +contextual [keepsReports]

@[simp] theorem State.startMoveOut_reports (s : State) : keepsReports s s.startMoveOut := by
  unfold State.startMoveOut
  split
  · exact s.withReferences_reports _ (s.startStraight_reports _ _ _ _ _)
  · exact keepsReports_refl s

@[simp] theorem State.startReturnMove_reports (s : State) : keepsReports s s.startReturnMove := by
  unfold State.startReturnMove
  (repeat' split) <;> simp (maxDischargeDepth := 9) (implicitDefEqProofs := false) +contextual [keepsReports]

@[simp] theorem State.startReturn_reports (s : State) : keepsReports s s.startReturn := by
  unfold State.startReturn
  dsimp only
  (repeat' split) <;> simp (maxDischargeDepth := 9) (implicitDefEqProofs := false) +contextual [keepsReports]

@[simp] theorem State.startLeg_reports (s : State) : keepsReports s s.startLeg := by
  unfold State.startLeg
  (repeat' split) <;> simp (maxDischargeDepth := 9) (implicitDefEqProofs := false) +contextual [keepsReports]

@[simp] theorem State.touchPastRing_reports (s : State) : keepsReports s s.touchPastRing := by
  unfold State.touchPastRing
  (repeat' split) <;> simp (maxDischargeDepth := 9) (implicitDefEqProofs := false) +contextual [keepsReports]

@[simp] theorem State.startTouch_reports (s : State) : keepsReports s s.startTouch := by
  have ring := s.gateRing_reports .touchPastRing State.touchPastRing s.touchPastRing_reports
  unfold State.startTouch
  (repeat' split) <;> simp (maxDischargeDepth := 9) (implicitDefEqProofs := false) +contextual [keepsReports, ring]

@[simp] theorem State.startTouchBack_reports (s : State) : keepsReports s s.startTouchBack := by
  unfold State.startTouchBack
  (repeat' split) <;> simp (maxDischargeDepth := 9) (implicitDefEqProofs := false) +contextual [keepsReports]

@[simp] theorem State.startPastGate_reports (t : Start) (s : State) : keepsReports s (s.startPastGate t) := by
  unfold State.startPastGate
  (repeat' split) <;> simp (maxDischargeDepth := 9) (implicitDefEqProofs := false) +contextual [keepsReports]

@[simp] theorem State.beginStart_reports (t : Start) (s : State) : keepsReports s (s.begin_ t) := by
  unfold State.begin_
  dsimp only
  (repeat' split) <;> simp (maxDischargeDepth := 9) (implicitDefEqProofs := false) +contextual [keepsReports]

@[simp] theorem State.refill_reports (s : State) : keepsReports s s.refill := by
  unfold State.refill
  (repeat' split) <;> simp (maxDischargeDepth := 9) (implicitDefEqProofs := false) +contextual [keepsReports]

@[simp] theorem State.take_reports (seg : Segment) (rest : List Segment) (s : State) :
    keepsReports s (s.take seg rest) := by
  unfold State.take
  dsimp only
  split <;> simp +contextual (maxDischargeDepth := 9) (implicitDefEqProofs := false) [keepsReports]

@[simp] theorem State.resumeExcursion_reports (s : State) : keepsReports s s.resumeExcursion := by
  unfold State.resumeExcursion
  simp (maxDischargeDepth := 9) (implicitDefEqProofs := false) +contextual [keepsReports]

theorem State.advance_reports {s t : State} (goes : s.advance = some t) : keepsReports s t := by
  unfold State.advance at goes
  split at goes
  · cases goes
  · split at goes
    · split at goes
      · split at goes
        · cases goes
          exact s.beginStart_reports _
        · cases goes
      · split at goes
        · cases goes
          exact s.resumeExcursion_reports
        · split at goes
          · split at goes
            · cases goes
              exact s.take_reports _ _
            · cases goes
          · cases goes
    · cases goes

@[simp] theorem State.goOn_reports (n : Nat) (s : State) : keepsReports s (s.goOn n) := by
  induction n generalizing s with
  | zero => exact keepsReports_refl s
  | succ n ih =>
    unfold State.goOn
    split
    · next goes => exact keepsReports_trans (State.advance_reports goes) (ih _)
    · exact keepsReports_refl s

@[simp] theorem State.settle_reports (s : State) : keepsReports s s.settle := s.goOn_reports _

end Sys2Proof.Machine
end

section
/-! PROOF. A return that ends over a QUALIFY without a mounted probe (R138, log 24): what no start and no detach can lead to. -/

namespace Sys2Proof.Machine

open Sys2Proof

/-! ## What a detach shows -/

/-- A QUALIFY on the stack ends ABORTED when everything in progress is aborted (R131, R139). -/
theorem State.abortAll_qualEnd {s : State} (qualifies : s.run.qualifying = true) (mask : s.events.mask.getLsbD 3 = true)
    (length : s.events.slots.length = 12) :
    ∃ slot, s.abortAll.events.slots[3]? = some slot ∧ slot.pending = some (.qualEnd .aborted 0) := by
  obtain ⟨-, mask', length'⟩ := s.interrupt.abortChange_leavesSlots
  have emits : s.abortAll.events = (({ s.interrupt.abortChange with qual := none } : State).emit (.qualEnd .aborted 0)).events := by
    simp [State.abortAll, State.discardExcursions, State.endQualification, qualifies]
  rw [emits]
  exact State.emit_slot (.qualEnd .aborted 0) _ (by simpa using mask' ▸ mask) (by simpa using length'.trans length)

theorem State.endsAll_qualEnd {s : State} (qualifies : s.run.qualifying = true) (mask : s.events.mask.getLsbD 3 = true)
    (length : s.events.slots.length = 12) :
    ∃ slot, s.endsAll.events.slots[3]? = some slot ∧ slot.pending = some (.qualEnd .aborted 0) := by
  obtain ⟨-, mask', length'⟩ := s.discardWaiting_leavesSlots
  have aborted := State.abortAll_qualEnd (s := s.discardWaiting) (by simpa using qualifies) (by rw [mask']; exact mask)
    (by rw [length']; exact length)
  have kept : s.endsAll.events.slots[3]? = s.discardWaiting.abortAll.events.slots[3]? := by
    simp [State.endsAll, State.flushUnrun, State.endRun_otherSlots]
  rwa [kept]

/-- A detach shows its cause in the last event that it raises (R92). -/
theorem State.detach_shows (cause : DetachCause) {s : State} (cell : s.join.st = .attached ∨ s.join.st = .joining) :
    (s.detach cause).events = (s.outOfCell.endsAll.emit (.detach cause)).events := by
  rw [State.detach_of_cell cause cell]
  split <;> rfl

/-- The QUAL_END of a detach: a QUALIFY on the stack ends ABORTED (R92, R139). -/
theorem State.detach_qualEnd (cause : DetachCause) {s : State} (cell : s.join.st = .attached ∨ s.join.st = .joining)
    (qualifies : s.run.qualifying = true) (mask : s.events.mask.getLsbD 3 = true) (length : s.events.slots.length = 12) :
    ∃ slot, (s.detach cause).events.slots[3]? = some slot ∧ slot.pending = some (.qualEnd .aborted 0) := by
  rw [State.detach_shows cause cell, State.emit_other _ _ _ (by simp [Event.kind])]
  exact State.endsAll_qualEnd (s := s.outOfCell) qualifies mask length

theorem State.detach_events (cause : DetachCause) {s : State} (cell : s.join.st = .attached ∨ s.join.st = .joining) :
    (s.detach cause).events.mask = s.events.mask ∧ (s.detach cause).events.slots.length = s.events.slots.length := by
  obtain ⟨-, -, -, -, mask, length⟩ := State.endsAll_line (s := s.outOfCell) rfl rfl
  obtain ⟨mask', length'⟩ := State.emit_mask (.detach cause) s.outOfCell.endsAll
  rw [State.detach_shows cause cell]
  exact ⟨mask'.trans mask, length'.trans length⟩

/-- Outside a cell there is nothing to detach from. -/
theorem State.detach_of_outside (cause : DetachCause) {s : State} (outside : ¬ (s.join.st = .attached ∨ s.join.st = .joining)) :
    s.detach cause = s := by
  refine State.detach_outside cause ?_
  cases st : s.join.st <;> simp_all

/-- An arm whose M1 has lost a SLOT_SENSE at the end of a command has left the cell, for a cause that was due. -/
theorem State.finish_hasLeft {u : State} (waits : reportWaits u.line.m1) (lost : ¬ reportWaits u.finish.line.m1) :
    ∃ cause, u.settle.detachDue = some cause ∧ (u.settle.join.st = .attached ∨ u.settle.join.st = .joining) ∧
      u.finish = ({ u.settle with detachDue := none } : State).detach cause := by
  have settled := u.settle_reports.1 waits
  cases due : u.settle.detachDue with
  | none =>
    rw [State.finish_of_noDetach due] at lost
    exact absurd settled lost
  | some cause =>
    rw [State.finish_of_detach due] at lost
    by_cases cell : u.settle.join.st = .attached ∨ u.settle.join.st = .joining
    · exact ⟨cause, rfl, cell, State.finish_of_detach due⟩
    · rw [State.detach_of_outside cause (s := { u.settle with detachDue := none }) cell] at lost
      exact absurd settled lost

/-- An arm with a QUALIFY on its stack that has left the cell ISOLATED shows its end ABORTED. -/
theorem State.finish_isolated {u : State} (waits : reportWaits u.line.m1) (qualifies : u.run.qualifying = true)
    (lost : ¬ reportWaits u.finish.line.m1) (mask : u.finish.events.mask = 0xFFF#16) (length : u.finish.events.slots.length = 12)
    {left : EventSlot} (shown : u.finish.events.slots[9]? = some left) (isolated : left.pending = some (.detach .isolated)) :
    ∃ slot, u.finish.events.slots[3]? = some slot ∧ slot.pending = some (.qualEnd .aborted 0) := by
  obtain ⟨cause, due, cell, finish⟩ := State.finish_hasLeft waits lost
  obtain ⟨mask', length'⟩ := State.detach_events cause (s := { u.settle with detachDue := none }) cell
  rw [← finish, mask] at mask'
  rw [← finish, length] at length'
  obtain ⟨-, -, -, -, -, -, -, event⟩ := State.detach_discards cause (s := { u.settle with detachDue := none }) cell
  obtain ⟨slot, shown', event⟩ := event (by rw [← mask']; decide) length'.symm
  have own : cause = .isolated := by
    rw [← finish, shown] at shown'
    rw [← Option.some.inj shown', isolated] at event
    simpa using event.symm
  subst own
  have before : u.detachDue = some .isolated := by
    refine Classical.byContradiction fun other => ?_
    exact u.settle_reports.2 other due
  rw [State.settle_of_detach before] at finish mask' length' cell
  rw [finish]
  exact State.detach_qualEnd .isolated cell qualifies (by rw [← mask']; decide) length'.symm

/-! ## The state -/

def anyAxis : AxisConf :=
  { resolution := 1, senseNegative := false, softMin := 0, softMax := 0, following := 0, positionGain := 0, feedGain := 0,
    deceleration := 0, reference := 0, homeMinus := false, homeFeed := 0 }

def anyImage : Image :=
  { axes := ⟨anyAxis, anyAxis, anyAxis⟩, order := [], homeZones := 0, powerOnStanding := 0, homeStanding := 0, rack := [],
    sphereCentre := ⟨0, 0, 0⟩, sphereDiameter := 0, sphereApproach := ⟨0, 0, 0⟩, clearance := 0, park := ⟨0, 0, 0⟩,
    rackCorridor := 0, sphereCorridor := 0, parkCorridor := 0, excursionFeed := 0, dockFeed := 0, touchFeed := 0, retract := 0,
    pulseWidth := 0, releaseTime := 0, seatTime := 0, claimTimeout := 0, probeDefs := [], channels := [], cadence := 0,
    ageLimit := 0, watch := [], roles := [], scaleCoeff := ⟨0, 0, 0⟩, rateLimit := 0, settleTime := 0, policyFlag := false,
    band := 0, tolerance := 0, autoQualify := false, reportLevel := 0, reportTimeout := 0, eventMask := 0, lowMark := 0,
    soakLimit := 0 }

/-- The record of an excursion of the given kind. -/
def recordOf (kind : ExcursionKind) : ReturnRecord :=
  { kind := kind, position := ⟨0, 0, 0⟩, standing := 0, need := none, serves := false }

/-- The return move of an excursion. -/
def returning : Motion := straightMotion .returnMove .excursion ⟨0, 0, 0⟩ ⟨0, 0, 0⟩ 0 0

/-- An ATTACHED station returns from a SOAK above a QUALIFY, with no probe mounted, a SLOT_SENSE in M1, and an ISOLATED detach due. -/
def returnsToNoProbe : State :=
  { State.reset with
    setup := { State.reset.setup with load := .loaded, image := some anyImage }
    detachDue := some .isolated
    arm := { State.reset.arm with st := .moving, energized := true, motion := some returning }
    run := { State.reset.run with stack := [recordOf .soak, recordOf .qualify] }
    line := { State.reset.line with m1 := [.slotSense 0] }
    join := { State.reset.join with st := .attached }
    events := { State.reset.events with mask := 0xFFF } }

/-- How the return of that station shows: out of the cell ISOLATED, its QUALIFY FAILED. -/
def shownLeft : Host.Outcome State Fault Refusal → Bool
  | .next t => t.line.m1 = [] && t.events.mask == 0xFFF#16 && t.events.slots.length == 12 &&
      t.events.slots[9]?.map (·.pending) == some (some (.detach .isolated)) &&
      t.events.slots[3]?.map (·.pending) == some (some (.qualEnd .failed 0))
  | _ => false

theorem returnsToNoProbe_shows : shownLeft (exec .returnMoveEnd returnsToNoProbe) = true := by decide +kernel

/-- No end of a command after which a QUALIFY stands on the stack shows that. -/
theorem State.finish_notShown {u : State} (m1 : u.line.m1 = [.slotSense 0]) (stack : u.run.stack = [recordOf .qualify]) :
    shownLeft (.next u.finish) = false := by
  refine Bool.eq_false_iff.mpr fun shown => ?_
  simp only [shownLeft, Bool.and_eq_true, decide_eq_true_eq, beq_iff_eq] at shown
  obtain ⟨⟨⟨⟨empty, mask⟩, length⟩, detach⟩, failed⟩ := shown
  obtain ⟨left, shown, isolated⟩ := Option.map_eq_some_iff.mp detach
  obtain ⟨slot, place, aborted⟩ := State.finish_isolated (u := u) (by simp [reportWaits, m1])
    (by simp [Run.qualifying, stack, recordOf]) (by simp [reportWaits, empty]) mask length shown isolated
  rw [place, Option.map_some, aborted] at failed
  exact absurd failed (by decide)

/-- Refutes O56: the return of a SOAK above a QUALIFY. With no mounted probe and no qualification in progress the QUALIFY cannot begin
again, and its fault empties the stack, where the statement has the record still stand. -/
theorem not_excursionMovesEnd : ¬ Obligations.ExcursionMovesEnd := by
  unfold Obligations.ExcursionMovesEnd
  intro holds
  obtain ⟨-, -, -, -, returns, -⟩ :=
    holds returning anyImage (recordOf .soak) [recordOf .qualify] returnsToNoProbe rfl rfl rfl rfl rfl
  obtain ⟨-, -, pops⟩ := returns rfl
  obtain ⟨u, goes, -, -, stack, -, releases, -⟩ := pops (recordOf .qualify) [] rfl
  have m1 : u.line.m1 = [.slotSense 0] := releases.1 (by decide +kernel)
  have shown := returnsToNoProbe_shows
  rw [goes, State.finish_notShown m1 stack] at shown
  exact absurd shown (by decide)

end Sys2Proof.Machine
end
